-- ==== Sys2Proof/Word.lean ====
section
/-!
DEFINITION. The plainest words of the model: bytes, the index types of the GT20's fixed tables (the capacities of
00_scope.md, section 4), sets that the part sends as bit fields (R185), and tables of a fixed number of rows.
-/

namespace Sys2Proof

/-- One byte of a frame. -/
abbrev Byte := BitVec 8

/-- Stations 0..14. -/
abbrev StationId := Fin 15
/-- Doors 0..15. -/
abbrev DoorId := Fin 16
/-- Wired inputs 0..32: contact/rotation 0..15, buttons 16..31, evacuation 32. -/
abbrev InputId := Fin 33
/-- Bell outputs 0..7. -/
abbrev OutputId := Fin 8
/-- Crews 0..31. -/
abbrev CrewId := Fin 32
/-- Shift definitions 0..63. -/
abbrev ShiftId := Fin 64
/-- Pay classes 0..15. -/
abbrev ClassId := Fin 16
/-- Door schedules 0..7. -/
abbrev ScheduleId := Fin 8
/-- Bell patterns 0..15. -/
abbrev PatternId := Fin 16
/-- Bell entries 0..95. -/
abbrev BellId := Fin 96

/-- A set of doors, bit n for door n. -/
abbrev DoorSet := BitVec 16
/-- A set of station ids, bit n for station n. -/
abbrev StationSet := BitVec 15
/-- A set of bell outputs, bit n for output n. -/
abbrev OutputSet := BitVec 8
/-- A set of weekdays, bit 0 Monday. -/
abbrev WeekdaySet := BitVec 7

/-- Member `i` of a set sent as a bit field. -/
def inSet {n : Nat} (m : BitVec n) (i : Nat) : Bool := m.getLsbD i

/-- The members of a set in ascending order. -/
def members {n : Nat} (m : BitVec n) : List (Fin n) :=
  (List.finRange n).filter fun i => inSet m i

/-- The set with the one member `i`. -/
def single {n : Nat} (i : Fin n) : BitVec n := BitVec.ofNat n (2 ^ i.val)

/-- The set with `i` joined. -/
def addTo {n : Nat} (m : BitVec n) (i : Fin n) : BitVec n := m ||| single i

/-- The set with `i` taken out. -/
def takeOut {n : Nat} (m : BitVec n) (i : Fin n) : BitVec n := m &&& ~~~ single i

/-- A whole number as an index below `n`, or nothing when it is out of range. -/
def toFin? (n k : Nat) : Option (Fin n) :=
  if h : k < n then some ⟨k, h⟩ else none

/-- A table of exactly `n` rows, row `i` at place `i`. -/
structure Table (n : Nat) (α : Type) where
  rows : List α
  size_eq : rows.length = n
deriving DecidableEq, Repr

/-- Row `i` of a table. -/
def Table.get {n : Nat} {α : Type} (t : Table n α) (i : Fin n) : α :=
  t.rows[i.val]'(t.size_eq.symm ▸ i.isLt)

/-- The table with row `i` replaced. -/
def Table.set {n : Nat} {α : Type} (t : Table n α) (i : Fin n) (a : α) : Table n α :=
  ⟨t.rows.set i.val a, by rw [List.length_set]; exact t.size_eq⟩

/-- The table with `f` applied to row `i`. -/
def Table.modify {n : Nat} {α : Type} (t : Table n α) (i : Fin n) (f : α → α) : Table n α :=
  t.set i (f (t.get i))

/-- The table with `f` applied to every row. -/
def Table.map {n : Nat} {α β : Type} (f : α → β) (t : Table n α) : Table n β :=
  ⟨t.rows.map f, by rw [List.length_map]; exact t.size_eq⟩

/-- The table whose row `i` is `f i`. -/
def Table.tabulate {n : Nat} {α : Type} (f : Fin n → α) : Table n α :=
  ⟨(List.finRange n).map f, by simp⟩

/-- The table with `f` applied to every row and its number. -/
def Table.mapRows {n : Nat} {α β : Type} (f : Fin n → α → β) (t : Table n α) : Table n β :=
  Table.tabulate fun i => f i (t.get i)

/-- The table that holds `a` in every row. -/
def Table.fill (n : Nat) {α : Type} (a : α) : Table n α :=
  ⟨List.replicate n a, List.length_replicate⟩

end Sys2Proof
end

