-- ==== Sys2Proof/Syntax.lean ====
section
/-!
DEFINITION. The commands and events the GT20 takes, one constructor of Instr for each row of spec/opcode_table.json.

An event on a wire, a timer or the gate line carries what the event brings. A management command carries the raw fields
of its payload in the order its rule names them, as R185 sends them: a number as a natural number, a field with a named
list of values as its code, a yes-or-no field as 1 or 0, a set as its bit field, a signed number as an integer. The
values FF hex (none, REST) and FE hex (ALL) of R185 stand in the fields they are sent in. A field out of its range is
therefore a value like any other, and the command's rule refuses it.
-/

namespace Sys2Proof

/-- FF hex: absent, none, unscheduled or REST (R185). -/
def noneByte : Nat := 255
/-- FE hex: the target ALL (R185). -/
def allByte : Nat := 254

/-- The payload of a received management command: its fields, or no fields when it is not the payload its kind requires
(R177: a payload whose length is wrong; for DOOR_COMMAND also a command code that is none of the four, R87). -/
inductive Payload (α : Type) where
  | malformed
  | fields (a : α)
deriving DecidableEq, Repr

/-- SET_TIME (R10). -/
structure SetTimeArgs where
  year : Nat
  month : Nat
  day : Nat
  hour : Nat
  minute : Nat
  second : Nat
deriving DecidableEq, Repr

/-- STATION_PUT (R20). -/
structure StationPutArgs where
  station : Nat
  configured : Nat
  level : Nat
  mode : Nat
  door : Nat
  zone : Nat
  enabled : Nat
deriving DecidableEq, Repr

/-- DISPLAY (R36): the target and the characters of the text. -/
structure DisplayArgs where
  target : Nat
  text : List Nat
deriving DecidableEq, Repr

/-- BADGE_PUT (R42). -/
structure BadgePutArgs where
  badge : Nat
  crew : Nat
  payClass : Nat
  doors : Nat
  flags : Nat
deriving DecidableEq, Repr

/-- BADGE_GET (R45). -/
structure BadgeGetArgs where
  badge : Nat
  selector : Nat
deriving DecidableEq, Repr

/-- PRESENCE_SET (R47). -/
structure PresenceSetArgs where
  badge : Nat
  presence : Nat
deriving DecidableEq, Repr

/-- INPUT_PUT (R81). -/
structure InputPutArgs where
  input : Nat
  activeLevel : Nat
  filterTime : Nat
deriving DecidableEq, Repr

/-- DOOR_PUT (R82): the fields of the door table in its order; the alarm bell is an optional part. -/
structure DoorPutArgs where
  door : Nat
  configured : Nat
  kind : Nat
  contact : Nat
  button : Nat
  releaseTime : Nat
  heldLimit : Nat
  schedule : Nat
  defaultMode : Nat
  failMode : Nat
  bellPresent : Nat
  bellOutputs : Nat
  bellPattern : Nat
deriving DecidableEq, Repr

/-- One window of SCHEDULE_PUT (R84). -/
structure WindowArgs where
  weekdays : Nat
  start : Nat
  stop : Nat
  mode : Nat
deriving DecidableEq, Repr

/-- SCHEDULE_PUT (R84). -/
structure SchedulePutArgs where
  schedule : Nat
  windows : List WindowArgs
deriving DecidableEq, Repr

/-- One break of SHIFT_PUT (R103). -/
structure BreakArgs where
  offset : Nat
  length : Nat
  paid : Nat
deriving DecidableEq, Repr

/-- SHIFT_PUT (R103). -/
structure ShiftPutArgs where
  shift : Nat
  defined : Nat
  start : Nat
  length : Nat
  standardLength : Nat
  entryLead : Nat
  lateGrace : Nat
  latestIn : Nat
  leaveGrace : Nat
  overstayGrace : Nat
  unit : Nat
  autoCloseDelay : Nat
  breaks : List BreakArgs
deriving DecidableEq, Repr

/-- ROTA_PUT (R105); an entry is a shift id or FF hex for REST. -/
structure RotaPutArgs where
  crew : Nat
  cycleLength : Nat
  anchor : Nat
  entries : List Nat
deriving DecidableEq, Repr

/-- PAYCLASS_PUT (R109). -/
structure PayClassPutArgs where
  payClass : Nat
  baseRate : Nat
  overtimeFactor : Nat
  holidayFactor : Nat
  nightAdder : Nat
deriving DecidableEq, Repr

/-- CLOSE_RECORD (R141). -/
structure CloseRecordArgs where
  badge : Nat
  outTime : Nat
deriving DecidableEq, Repr

/-- TOTALS_GET (R145). -/
structure TotalsGetArgs where
  badge : Nat
  selector : Nat
  choice : Nat
deriving DecidableEq, Repr

/-- BELL_PUT (R149): the fields of the bell entry table in its order. -/
structure BellPutArgs where
  entry : Nat
  defined : Nat
  kind : Nat
  minute : Nat
  weekdays : Nat
  crew : Nat
  edge : Nat
  offset : Int
  holidayAction : Nat
  outputs : Nat
  pattern : Nat
  priority : Nat
  recurrence : Nat
deriving DecidableEq, Repr

/-- One step of PATTERN_PUT (R150). -/
structure StepArgs where
  on : Nat
  off : Nat
deriving DecidableEq, Repr

/-- PATTERN_PUT (R150). -/
structure PatternPutArgs where
  pattern : Nat
  steps : List StepArgs
  repeats : Nat
deriving DecidableEq, Repr

/-- BELL_RING (R161). -/
structure BellRingArgs where
  outputs : Nat
  pattern : Nat
  priority : Nat
deriving DecidableEq, Repr

/-- SETTINGS_PUT (R178): the settings in the order of the table of 10.5. -/
structure SettingsPutArgs where
  duplicateWindow : Nat
  conflictWindow : Nat
  staleLimit : Nat
  burstBudget : Nat
  catchUpLimit : Nat
  nightStart : Nat
  nightEnd : Nat
  evacuationPattern : Nat
  alarmMode : Nat
  frequency : Nat
  source : Nat
  trim : Int
deriving DecidableEq, Repr

/-- The commands and events of the GT20, one constructor for each row of spec/opcode_table.json, in its order. -/
inductive Instr where
  /-- CRYSTAL_SECOND_END (R1): the second driven by the crystal ends. -/
  | crystalSecondEnd
  /-- MAINS_CYCLE (R4). -/
  | mainsCycle
  /-- MAINS_LOSS (R4): 100 ms have passed without a cycle. -/
  | mainsLoss
  /-- LOW_BATTERY_SAMPLE (R15): what the low-battery input reads. -/
  | lowBatterySample (asserted : Bool)
  /-- ATTENTION_WIRE_CHANGE (R24): whether the wire is now pulled. -/
  | attentionWireChange (pulled : Bool)
  /-- ROUND_RESULT (R25): bit n is set when the slot of level n was answered. -/
  | roundResult (answered : BitVec 15)
  /-- REST_TIMER_EXPIRY (R25). -/
  | restTimerExpiry
  /-- GATE_FRAME_DISCARDED (R22). -/
  | gateFrameDiscarded
  /-- PUNCH_FRAME (R27). -/
  | punchFrame (badge : Nat) (age : Nat) (more : Bool)
  /-- STATUS_FRAME (R28): the tamper flag, and whether the self-test result is FAULT. -/
  | statusFrame (tamper : Bool) (fault : Bool)
  /-- GRANT_TIMEOUT (R30). -/
  | grantTimeout
  /-- PROBE_TIMER_EXPIRY (R31) of a station. -/
  | probeTimerExpiry (station : StationId)
  /-- PROBE_WAIT_EXPIRY (R32). -/
  | probeWaitExpiry
  /-- GATE_FRAME_SENT (R34). -/
  | gateFrameSent
  /-- INPUT_LEVEL_CHANGE (R78): the circuit of an input is now closed, or open. -/
  | inputLevelChange (input : InputId) (closed : Bool)
  /-- FILTER_TIME_EXPIRY (R78) of an input. -/
  | filterTimeExpiry (input : InputId)
  /-- INPUT_SAMPLE (R79): every input is sampled. -/
  | inputSample
  /-- RELEASE_TIMER_EXPIRY (R91) of a door. -/
  | releaseTimerExpiry (door : DoorId)
  /-- HELD_TIMER_EXPIRY (R92) of a door. -/
  | heldTimerExpiry (door : DoorId)
  /-- PULSE_TIMER_EXPIRY (R98). -/
  | pulseTimerExpiry
  /-- PHASE_TIMER_EXPIRY (R151) of the current ring of an output. -/
  | phaseTimerExpiry (output : OutputId)
  /-- READY_WIRE_CHANGE (R173): whether the wire is now asserted. -/
  | readyWireChange (asserted : Bool)
  /-- REPORT_FRAME_SENT (R168). -/
  | reportFrameSent
  /-- REPLY_FRAME_SENT (R173). -/
  | replyFrameSent
  /-- COMMAND_TAKEN_FROM_ASSEMBLY (R176). -/
  | commandTakenFromAssembly
  /-- OFFICE_FRAME_DISCARDED (R175). -/
  | officeFrameDiscarded
  /-- UNKNOWN_KIND (R177): a command of a kind code that is no management command's. -/
  | unknownKind (kind : Nat)
  /-- SET_TIME (R10). -/
  | setTime (p : Payload SetTimeArgs)
  /-- STATION_PUT (R20). -/
  | stationPut (p : Payload StationPutArgs)
  /-- STATION_GET (R20): the station id. -/
  | stationGet (p : Payload Nat)
  /-- STATION_RESUME (R21): the station id. -/
  | stationResume (p : Payload Nat)
  /-- DISPLAY (R36). -/
  | display (p : Payload DisplayArgs)
  /-- BADGE_PUT (R42). -/
  | badgePut (p : Payload BadgePutArgs)
  /-- BADGE_DROP (R44): the badge number. -/
  | badgeDrop (p : Payload Nat)
  /-- BADGE_GET (R45). -/
  | badgeGet (p : Payload BadgeGetArgs)
  /-- PRESENCE_SET (R47). -/
  | presenceSet (p : Payload PresenceSetArgs)
  /-- CONFLICT_READ (R52). -/
  | conflictRead (p : Payload Unit)
  /-- INPUT_PUT (R81). -/
  | inputPut (p : Payload InputPutArgs)
  /-- INPUT_GET (R81): the input number. -/
  | inputGet (p : Payload Nat)
  /-- DOOR_PUT (R82). -/
  | doorPut (p : Payload DoorPutArgs)
  /-- DOOR_GET (R83): the door number. -/
  | doorGet (p : Payload Nat)
  /-- SCHEDULE_PUT (R84). -/
  | schedulePut (p : Payload SchedulePutArgs)
  /-- SCHEDULE_GET (R84): the schedule number. -/
  | scheduleGet (p : Payload Nat)
  /-- DOOR_COMMAND with LOCKDOWN (R87): the target. -/
  | doorCommandLockdown (p : Payload Nat)
  /-- DOOR_COMMAND with HOLD_FREE (R87): the target. -/
  | doorCommandHoldFree (p : Payload Nat)
  /-- DOOR_COMMAND with NORMAL (R87): the target. -/
  | doorCommandNormal (p : Payload Nat)
  /-- DOOR_COMMAND with RELEASE_ONCE (R87): the target. -/
  | releaseOnce (p : Payload Nat)
  /-- ALARM_CLEAR (R99). -/
  | alarmClear (p : Payload Unit)
  /-- SHIFT_PUT (R103). -/
  | shiftPut (p : Payload ShiftPutArgs)
  /-- SHIFT_GET (R104): the shift id. -/
  | shiftGet (p : Payload Nat)
  /-- ROTA_PUT (R105). -/
  | rotaPut (p : Payload RotaPutArgs)
  /-- ROTA_GET (R105): the crew. -/
  | rotaGet (p : Payload Nat)
  /-- HOLIDAY_PUT (R107): the day number. -/
  | holidayPut (p : Payload Nat)
  /-- HOLIDAY_DROP (R107): the day number. -/
  | holidayDrop (p : Payload Nat)
  /-- HOLIDAY_LIST (R107). -/
  | holidayList (p : Payload Unit)
  /-- PAYCLASS_PUT (R109). -/
  | payclassPut (p : Payload PayClassPutArgs)
  /-- PAYCLASS_GET (R109): the class number. -/
  | payclassGet (p : Payload Nat)
  /-- CLOSE_RECORD (R142). -/
  | closeRecord (p : Payload CloseRecordArgs)
  /-- CLOSE_PERIOD (R143). -/
  | closePeriod (p : Payload Unit)
  /-- TOTALS_GET (R145). -/
  | totalsGet (p : Payload TotalsGetArgs)
  /-- RELEASE_CLOSED (R146). -/
  | releaseClosed (p : Payload Unit)
  /-- BELL_PUT (R149). -/
  | bellPut (p : Payload BellPutArgs)
  /-- BELL_GET (R149): the entry number. -/
  | bellGet (p : Payload Nat)
  /-- BELL_DROP (R149): the entry number. -/
  | bellDrop (p : Payload Nat)
  /-- PATTERN_PUT (R150). -/
  | patternPut (p : Payload PatternPutArgs)
  /-- PATTERN_GET (R150): the pattern number. -/
  | patternGet (p : Payload Nat)
  /-- BELL_RING (R161). -/
  | bellRing (p : Payload BellRingArgs)
  /-- BELL_STOP (R162): the set of outputs. -/
  | bellStop (p : Payload Nat)
  /-- PAUSE (R174). -/
  | pause (p : Payload Unit)
  /-- RESUME (R174). -/
  | resume (p : Payload Unit)
  /-- SETTINGS_PUT (R178). -/
  | settingsPut (p : Payload SettingsPutArgs)
  /-- SETTINGS_GET (R179). -/
  | settingsGet (p : Payload Unit)
  /-- STATUS (R180). -/
  | status (p : Payload Unit)
  /-- IDENT (R181). -/
  | ident (p : Payload Unit)
  /-- RESET (R182). -/
  | reset (p : Payload Unit)
  /-- BACKUP_DOMAIN_LOST (R16). -/
  | backupDomainLost
  /-- POWER_RETURN (R16). -/
  | powerReturn
deriving DecidableEq, Repr

end Sys2Proof
end

