-- ==== Sys2Proof/Decode.lean ====
section
/-!
DEFINITION. The decoder of the opcode table. The table gives none of its rows any bits: the GT20 takes events and frames,
not instruction words, so no word spells a command. The bytes of the frames are in Machine/ReceivedFrames.lean.
-/

namespace Sys2Proof

/-- The command a word spells by the table's bits: none, since no row of the table has bits. -/
def decodeTableWord (_nbits _w : Nat) : Option Instr := none

end Sys2Proof
end

