-- ==== Sys2Proof/Config.lean ====
section
/-!
DEFINITION. What the manual fixes once for the part (capacities and durations, 00_scope.md section 4) and the free
values: constants without a body for every choice the manual leaves open. Nothing can be proved about a free value but
that it has its type, so a theorem that holds of the model holds whatever the hardware does there.
-/

namespace Sys2Proof.Config

/-- Most badge entries (R41). -/
def badgeCapacity : Nat := 2048
/-- The highest badge number (R41). -/
def maxBadgeNumber : Nat := 16777215
/-- Most days in the holiday list (R107). -/
def holidayCapacity : Nat := 32
/-- Most records in the report store (R168). -/
def storeCapacity : Nat := 4096
/-- Spare places below which no round opens (R24). -/
def grantThreshold : Nat := 64
/-- Most messages in the display queue (R36). -/
def displayCapacity : Nat := 32
/-- Most waiting rings of one bell output (R157). -/
def waitingCapacity : Nat := 4
/-- The last calendar reading, 2099-12-31 23:59:59 (chapter 1, 1.1). -/
def lastReading : Nat := 3155759999
/-- The last day number, 2099-12-31. -/
def lastDay : Nat := 36524
/-- Worked minutes of one close are capped here (R125). -/
def maxWorked : Nat := 1440
/-- A minute bucket and a count of the period totals saturate here (R135). -/
def maxCount : Nat := 65535
/-- The pay total saturates here (R135). -/
def maxPay : Nat := 4294967295
/-- Cent-minute-percent units in one cent (chapter 7, 7.4). -/
def unitsPerCent : Nat := 6000

/-! ### Elapsed time

Timers hold whole units of 1/819,200 s: the greatest unit in which both one crystal tick (25 units) and 10 ms
(8,192 units) are whole. -/

/-- Units of elapsed time in one crystal tick of 1/32,768 s. -/
def unitsPerTick : Nat := 25
/-- Units of elapsed time in `n` times 10 ms. -/
def tensOfMs (n : Nat) : Nat := n * 8192
/-- Units of elapsed time in `n` seconds. -/
def seconds (n : Nat) : Nat := n * 819200
/-- The grant timer's 50 ms (R26). -/
def grantTime : Nat := tensOfMs 5
/-- The probe wait's 50 ms (R32). -/
def probeWaitTime : Nat := tensOfMs 5
/-- The rest after an empty round, 50 ms (R25). -/
def restTime : Nat := tensOfMs 5
/-- The probe timer's 60 s (R31). -/
def probeTime : Nat := seconds 60
/-- Mains loss is declared after 100 ms without a cycle (R4). -/
def lossTime : Nat := tensOfMs 10
/-- The sampling period in BATTERY, 500 ms (R15, R79). -/
def samplePeriod : Nat := tensOfMs 50
/-- The alarm pulse, 2 s (R98). -/
def pulseTime : Nat := seconds 2
/-- One unit of a pattern step, 100 ms (R150). -/
def patternUnit : Nat := tensOfMs 10
/-- Crystal ticks in an untrimmed second (R1). -/
def ticksPerSecond : Nat := 32768
/-- The divisor of the trim accumulator (R1). -/
def trimDivisor : Int := 10000000

/-! ### Free values -/

/-- FREE VALUE (log 9). Which of two parts of one instant the part takes first, where the manual allows either; the
argument is the number of the draw. -/
opaque freeChoice : Nat → Bool

/-- FREE VALUE (log 12). Whether the frequency in effect is 60 Hz while the part qualifies the mains after its backup
domain, and with it the settings, was lost. -/
opaque freeFrequencyIs60 : Nat → Bool

/-- FREE VALUE (log 12). Where the trim in effect comes from after the backup domain was lost. -/
opaque freeTrim : Nat → Int

/-- FREE VALUE (log 12). Where the trim accumulator comes from after the backup domain was lost. -/
opaque freeAccumulator : Nat → Int

/-- FREE VALUE (log 36). How many second boundaries fell in an outage that no event began. -/
opaque freeOutage : Nat → Nat

/-- FREE VALUE (log 36). The tick of the second in progress at the return of power after such an outage. -/
opaque freePhase : Nat → Nat

/-- FREE VALUE (log 14). The bytes a reply sends for a part that is absent, which the receiver does not read (R185);
the argument is the place of the byte among the absent bytes. -/
opaque freeByte : Nat → Byte

end Sys2Proof.Config
end

