-- ==== Sys2Proof/Machine/State.lean ====
section
/-!
DEFINITION. Everything the GT20 holds, block by block (00_scope.md, 1.2), as plain data, and the state after a cold
start. A timer is the elapsed time it still has to run, in the units of Config, or absent when it is stopped.
-/

namespace Sys2Proof.Machine

open Sys2Proof

/-! ### Time Base Unit (chapter 1, 1.1) -/

/-- The source setting and the source in effect. -/
inductive Source where
  | mains
  | crystal
deriving DecidableEq, Repr

/-- The frequency setting and the frequency in effect. -/
inductive Frequency where
  | hz50
  | hz60
deriving DecidableEq, Repr

/-- The mains watch (R4). -/
inductive MainsWatch where
  | present
  | absent
deriving DecidableEq, Repr

/-- The time source state (R6). -/
inductive TimeSource where
  | crystal
  | mainsLocked
  | holdover
deriving DecidableEq, Repr

/-- The supply state (1.7). -/
inductive Supply where
  | mains
  | battery
  | low
deriving DecidableEq, Repr

/-- What ends the second in progress: a mains cycle (R3), or the crystal prescaler at a length (R1, R4). -/
inductive SecondEnd where
  | onCycle
  | onTick (length : Nat)
deriving DecidableEq, Repr

/-- The state of the Time Base Unit. The last seven fields are implied by R1, R3, R4, R5, R12, R15 and R16. -/
structure Tbu where
  sourceSetting : Source
  frequencySetting : Frequency
  trimSetting : Int
  sourceInEffect : Source
  frequencyInEffect : Frequency
  trimInEffect : Int
  prescaler : Nat
  cycleCounter : Nat
  mainsWatch : MainsWatch
  gapTime : Nat
  qualification : Nat
  timeSource : TimeSource
  trimAccumulator : Int
  calendar : Nat
  calendarValid : Bool
  pendingTime : Option Nat
  supply : Supply
  /-- The last two readings of the low-battery input, the latest first. -/
  lowBatterySamples : List Bool
  /-- The low-battery input as last read. -/
  lowBatteryInput : Bool
  /-- Time to the next low-battery sample (R15). -/
  lowBatteryTimer : Option Nat
  secondEnd : SecondEnd
  /-- Whether the mains watch was ABSENT when the second in progress began (R5). -/
  secondBeganAbsent : Bool
  /-- The last plant minute for which a minute boundary event was raised (R12). -/
  lastMinute : Nat
  /-- Whether the backup domain is intact (R16). -/
  backupIntact : Bool
  /-- Whether the TBU runs: it stops when the backup domain is lost (R16). -/
  running : Bool
deriving DecidableEq, Repr

/-- The clock quality of a TIME frame (R13). -/
inductive ClockQuality where
  | valid
  | holdover
  | invalid
deriving DecidableEq, Repr

/-! ### Gate Line Controller (chapter 2) -/

/-- The mode of a station (2.1). -/
inductive StationMode where
  | entry
  | exit
  | toggle
  | access
deriving DecidableEq, Repr

/-- The state of a station (2.1). -/
inductive StationState where
  | idle
  | contending
  | granted
  | hold
  | suspended
deriving DecidableEq, Repr

/-- The configuration fields of a configured station (2.1). -/
structure StationConfig where
  level : Fin 15
  mode : StationMode
  door : Option DoorId
  zone : Fin 4
  enabled : Bool
deriving DecidableEq, Repr

/-- A record of the station table; an unconfigured station has no configuration (2.1). -/
structure Station where
  config : Option StationConfig
  state : StationState
  timeouts : Nat
  probeTimer : Option Nat
deriving DecidableEq, Repr

/-- The line state (2.3). -/
inductive LineState where
  | free
  | round
  | grant
  | own
  | probeWait
deriving DecidableEq, Repr

/-- The current grant (R26). -/
structure Grant where
  station : StationId
  budget : Nat
  taken : Nat
  timer : Option Nat
deriving DecidableEq, Repr

/-- The outcome codes of the gate line REPLY (4.2, R28). -/
inductive ReplyCode where
  | ok
  | already
  | wait
  | clockUnset
  | unknownBadge
  | blocked
  | conflict
  | notPermitted
  | lockdown
  | locked
  | passback
  | outOfWindow
  | pending
  | noted
deriving DecidableEq, Repr

/-- The target of a display message: a station, or ALL (R36). -/
inductive DisplayTarget where
  | station (id : StationId)
  | all
deriving DecidableEq, Repr

/-- A message of the display queue (R36). -/
structure DisplayMessage where
  target : DisplayTarget
  text : List Nat
deriving DecidableEq, Repr

/-- A frame the GT20 sends on the gate line (2.2). -/
inductive GateFrame where
  | grant (level : Fin 15) (budget : Nat)
  | reply (level : Fin 15) (code : ReplyCode) (release : Bool) (last : Bool)
  | time (reading : Nat) (quality : ClockQuality)
  | probe (level : Fin 15)
  | display (level : Option (Fin 15)) (text : List Nat)
deriving DecidableEq, Repr

/-- The state of the Gate Line Controller (2.1, 2.3). -/
structure Glc where
  stations : Table 15 Station
  line : LineState
  grant : Option Grant
  /-- The frame the GT20 is sending on the gate line. -/
  sending : Option GateFrame
  /-- The station whose PROBE is being sent or waited for (R32). -/
  probed : Option StationId
  probeWait : Option Nat
  restTimer : Option Nat
  timePending : Bool
  pendingProbes : StationSet
  displayQueue : List DisplayMessage
  /-- Whether the attention wire is pulled (R24). -/
  attention : Bool
deriving DecidableEq, Repr

/-! ### Shift Plan Store (chapter 6) -/

/-- A break of a shift definition (6.1). -/
structure Break where
  offset : Nat
  length : Nat
  paid : Bool
deriving DecidableEq, Repr

/-- A shift definition (6.1). -/
structure ShiftDef where
  start : Nat
  length : Nat
  standardLength : Nat
  entryLead : Nat
  lateGrace : Nat
  latestIn : Nat
  leaveGrace : Nat
  overstayGrace : Nat
  unit : Nat
  autoCloseDelay : Nat
  breaks : List Break
deriving DecidableEq, Repr

/-- A crew's rota (6.2): the cycle length is the number of its days, and a day without a shift is REST. -/
structure Rota where
  anchor : Nat
  days : List (Option ShiftId)
deriving DecidableEq, Repr

/-- A pay class (6.4). -/
structure PayClass where
  baseRate : Nat
  overtimeFactor : Nat
  holidayFactor : Nat
  nightAdder : Nat
deriving DecidableEq, Repr

/-- The state of the Shift Plan Store. -/
structure Sps where
  shifts : Table 64 (Option ShiftDef)
  rotas : Table 32 Rota
  holidays : List Nat
  payClasses : Table 16 PayClass
deriving DecidableEq, Repr

/-- A break of a shift instance as an absolute interval, with its number (R106). -/
structure AbsBreak where
  number : Nat
  start : Nat
  stop : Nat
  paid : Bool
deriving DecidableEq, Repr

/-- A shift instance (R106). -/
structure ShiftInstance where
  crew : CrewId
  shift : ShiftId
  day : Nat
  start : Nat
  stop : Nat
  breaks : List AbsBreak
  holiday : Bool
  standardLength : Nat
  entryLead : Nat
  lateGrace : Nat
  latestIn : Nat
  leaveGrace : Nat
  overstayGrace : Nat
  unit : Nat
  autoCloseDelay : Nat
deriving DecidableEq, Repr

/-- The captured instance of a punch (R65). -/
inductive Captured where
  | none
  | unscheduled
  | shift (i : ShiftInstance)
deriving DecidableEq, Repr

/-! ### Badge Table (chapter 3, and the records of chapter 7) -/

/-- Presence (3.3). -/
inductive Presence where
  | inside
  | outside
  | unknown
deriving DecidableEq, Repr

/-- The last accepted punch (3.4). -/
structure LastPunch where
  station : StationId
  time : Nat
deriving DecidableEq, Repr

/-- What only a SCHEDULED record holds (7.1). -/
structure ScheduledPart where
  shift : ShiftId
  startDay : Nat
  start : Nat
  stop : Nat
  lateGrace : Nat
  leaveGrace : Nat
  overstayGrace : Nat
deriving DecidableEq, Repr

/-- An open shift record (7.1): SCHEDULED when it has a scheduled part, UNSCHEDULED when it has none. -/
structure OpenRecord where
  actualIn : Nat
  scheduled : Option ScheduledPart
  standardLength : Nat
  unit : Nat
  breaks : List AbsBreak
  holiday : Bool
  nightStart : Nat
  nightEnd : Nat
  rates : PayClass
  effectiveIn : Nat
  deadline : Nat
deriving DecidableEq, Repr

/-- Period totals of a badge (8.2). -/
structure Totals where
  regular : Nat
  overtime : Nat
  night : Nat
  holiday : Nat
  pay : Nat
  shifts : Nat
  missedOut : Nat
  saturated : Bool
deriving DecidableEq, Repr

/-- The flags of a badge entry (3.1). -/
structure BadgeFlags where
  blocked : Bool
  anytime : Bool
  noPay : Bool
  passbackExempt : Bool
deriving DecidableEq, Repr

/-- A badge entry (3.1). -/
structure Badge where
  number : Nat
  crew : CrewId
  payClass : ClassId
  doors : DoorSet
  flags : BadgeFlags
  presence : Presence
  lastPunch : Option LastPunch
  /-- The saved last punch; the saved value may itself be an absent punch. -/
  savedPunch : Option (Option LastPunch)
  record : Option OpenRecord
  current : Totals
  carry : Nat
  closed : Option Totals
deriving DecidableEq, Repr

/-- The state of the Badge Table: the entries, the close minute of the closed block while it is present, and the period
number (8.6). -/
structure Btb where
  entries : List Badge
  closedBlock : Option Nat
  period : Nat
deriving DecidableEq, Repr

/-! ### Punch Evaluator (chapter 4) -/

/-- The direction of a punch (R56). -/
inductive Direction where
  | entry
  | exit
  | access
deriving DecidableEq, Repr

/-- A pending passage (4.4). -/
structure Passage where
  door : DoorId
  badge : Nat
  station : StationId
  direction : Direction
  punchTime : Nat
  age : Nat
  arrival : Nat
  late : Bool
  captured : Captured
  creation : Nat
deriving DecidableEq, Repr

/-- The state of the Punch Evaluator: the pending passages by ascending door, and the conflict set. -/
structure Pev where
  passages : List Passage
  conflictSet : StationSet
deriving DecidableEq, Repr

/-! ### Door Controller (chapter 5) -/

/-- The active level of an input (5.1). -/
inductive ActiveLevel where
  | activeOpen
  | activeClosed
deriving DecidableEq, Repr

/-- An input with its conditioner (5.1). -/
structure Input where
  activeLevel : ActiveLevel
  /-- The filter time in ms. -/
  filterTime : Nat
  /-- Whether the accepted level is ACTIVE. -/
  accepted : Bool
  /-- The change in progress, as the time elapsed since the differing level was first seen. -/
  change : Option Nat
  lastSample : Option Bool
  /-- Whether the wired circuit is closed. -/
  closed : Bool
deriving DecidableEq, Repr

/-- The kind of a door (5.2). -/
inductive DoorKind where
  | swing
  | turnstile
deriving DecidableEq, Repr

/-- The modes a schedule or a default can give (5.3). -/
inductive StandingMode where
  | card
  | locked
  | free
deriving DecidableEq, Repr

/-- The effective mode of a door (R86). -/
inductive DoorMode where
  | card
  | locked
  | free
  | lockdown
deriving DecidableEq, Repr

/-- The fail mode of a door (5.2). -/
inductive FailMode where
  | safe
  | secure
deriving DecidableEq, Repr

/-- The override of a door (5.2). -/
inductive Override where
  | normal
  | lockdown
  | holdFree
deriving DecidableEq, Repr

/-- The state of a door (5.2). -/
inductive DoorState where
  | secure
  | released
  | opened
  | held
  | forced
  | free
deriving DecidableEq, Repr

/-- The alarm bell of a door (5.2). -/
structure AlarmBell where
  outputs : OutputSet
  pattern : PatternId
deriving DecidableEq, Repr

/-- The configuration fields of a door (5.2). -/
structure DoorConfig where
  kind : DoorKind
  contact : InputId
  button : Option InputId
  releaseTime : Nat
  heldLimit : Nat
  schedule : Option ScheduleId
  defaultMode : StandingMode
  failMode : FailMode
  alarmBell : Option AlarmBell
deriving DecidableEq, Repr

/-- A configured door (5.2). -/
structure Door where
  config : DoorConfig
  override : Override
  mode : DoorMode
  state : DoorState
  releaseTimer : Option Nat
  heldTimer : Option Nat
deriving DecidableEq, Repr

/-- A window of a door schedule (5.3). -/
structure Window where
  weekdays : WeekdaySet
  start : Nat
  stop : Nat
  mode : StandingMode
deriving DecidableEq, Repr

/-- The alarm state (5.7). -/
inductive AlarmState where
  | off
  | pulsing
  | latched
deriving DecidableEq, Repr

/-- The state of the Door Controller: an unconfigured door has no record. -/
structure Drc where
  doors : Table 16 (Option Door)
  schedules : Table 8 (List Window)
  inputs : Table 33 Input
  alarm : AlarmState
  pulseTimer : Option Nat
  /-- Time to the next sample of the inputs in BATTERY (R79). -/
  sampleTimer : Option Nat
deriving DecidableEq, Repr

/-! ### Bell Controller (chapter 9) -/

/-- The edge of a SHIFT bell entry: START, END, or the start or end of break 1, 2 or 3 (9.1). -/
inductive BellEdge where
  | start
  | stop
  | breakStart (number : Fin 3)
  | breakEnd (number : Fin 3)
deriving DecidableEq, Repr

/-- When a bell entry falls due (9.1). -/
inductive BellTrigger where
  | fixed (minute : Nat) (weekdays : WeekdaySet)
  | shift (crew : CrewId) (edge : BellEdge) (offset : Int)
deriving DecidableEq, Repr

/-- A defined bell entry (9.1). -/
structure BellEntry where
  trigger : BellTrigger
  /-- Whether the holiday action is SKIP. -/
  skipHolidays : Bool
  outputs : OutputSet
  pattern : PatternId
  priority : Fin 4
  oneShot : Bool
  armed : Bool
  lastRung : Option Nat
deriving DecidableEq, Repr

/-- A step of a pattern, in units of 100 ms (9.2). -/
structure PatternStep where
  on : Nat
  off : Nat
deriving DecidableEq, Repr

/-- A pattern (9.2). -/
structure Pattern where
  steps : List PatternStep
  repeats : Nat
deriving DecidableEq, Repr

/-- The source of a ring (9.2). -/
inductive RingSource where
  | entry (n : BellId)
  | door (n : DoorId)
  | manual
  | evacuation
deriving DecidableEq, Repr

/-- A ring as requested, and as it waits (9.2). -/
structure Ring where
  source : RingSource
  priority : Fin 4
  pattern : PatternId
deriving DecidableEq, Repr

/-- The phase of a playing ring (9.2). -/
inductive Phase where
  | on
  | off
deriving DecidableEq, Repr

/-- The ring an output is playing (9.2). -/
structure CurrentRing where
  ring : Ring
  /-- Repetitions left; absent for ENDLESS. -/
  repsLeft : Option Nat
  ending : Bool
  /-- The copy of the pattern's steps made at the start of the repetition. -/
  steps : List PatternStep
  /-- The step being played, 1 for the first. -/
  position : Nat
  phase : Phase
  timer : Nat
deriving DecidableEq, Repr

/-- A bell output (9.5). -/
structure BellOutput where
  current : Option CurrentRing
  waiting : List Ring
deriving DecidableEq, Repr

/-- The state of the Bell Controller: an undefined entry has no record. -/
structure Blc where
  entries : Table 96 (Option BellEntry)
  patterns : Table 16 Pattern
  outputs : Table 8 BellOutput
deriving DecidableEq, Repr

/-! ### Report Store (chapter 10, 10.1 and 10.2) -/

/-- The result of a PUNCH report (R58). -/
inductive PunchResult where
  | accepted
  | cancelled
  | refused
deriving DecidableEq, Repr

/-- The flags of a PUNCH report (R58). -/
structure PunchFlags where
  late : Bool
  stale : Bool
  freePass : Bool
  noRecord : Bool
  openKept : Bool
deriving DecidableEq, Repr

/-- A PUNCH report (R58). -/
structure PunchReport where
  badge : Nat
  station : StationId
  door : Option DoorId
  direction : Option Direction
  result : PunchResult
  reason : Option ReplyCode
  flags : PunchFlags
  age : Nat
  punchTime : Nat
  arrival : Nat
  creation : Nat
  finish : Nat
deriving DecidableEq, Repr

/-- The cause of a close (8.1). -/
inductive CloseCause where
  | punch
  | auto
  | manual
deriving DecidableEq, Repr

/-- A closed shift record (R131). -/
structure ClosedRecord where
  badge : Nat
  scheduled : Option ScheduledPart
  actualIn : Nat
  /-- The out minute, absent when the effective out was fixed. -/
  outMinute : Option Nat
  effectiveIn : Nat
  effectiveOut : Nat
  worked : Nat
  regular : Nat
  overtime : Nat
  night : Nat
  holiday : Nat
  pay : Nat
  carry : Nat
  holidayFlag : Bool
  clamped : Bool
  timeReversed : Bool
deriving DecidableEq, Repr

/-- A SHIFT_CLOSE report (R137). -/
structure ShiftCloseReport where
  record : ClosedRecord
  cause : CloseCause
  period : Nat
  presence : Presence
  saturated : Bool
  reading : Nat
deriving DecidableEq, Repr

/-- The event of a DOOR report (R100). -/
inductive DoorEvent where
  | forced
  | held
  | closedAfterAlarm
deriving DecidableEq, Repr

/-- A DOOR report (R100). -/
structure DoorReport where
  door : DoorId
  kind : DoorKind
  event : DoorEvent
  /-- For CLOSED_AFTER_ALARM, the event it ends. -/
  ended : Option DoorEvent
  mode : DoorMode
  state : DoorState
  reading : Nat
deriving DecidableEq, Repr

/-- The event of a STATION report (R33). -/
inductive StationEvent where
  | suspended
  | restored
  | tamper
  | readerFault
deriving DecidableEq, Repr

/-- A STATION report (R33). -/
structure StationReport where
  station : StationId
  event : StationEvent
  reading : Nat
deriving DecidableEq, Repr

/-- The event of a SUPPLY report (R19). -/
inductive SupplyEvent where
  | mainsLost
  | mainsRestored
  | lowBattery
  | warmStart
  | coldStart
  | timeSource
deriving DecidableEq, Repr

/-- A SUPPLY report (R19). -/
structure SupplyReport where
  event : SupplyEvent
  supply : Supply
  timeSource : TimeSource
  /-- For TIME_SOURCE, the time source state before it. -/
  before : Option TimeSource
  reading : Nat
deriving DecidableEq, Repr

/-- The cause of a TIME report (R19). -/
inductive TimeCause where
  | setTime
  | expiry
deriving DecidableEq, Repr

/-- A TIME report (R19). -/
structure TimeReport where
  cause : TimeCause
  oldReading : Nat
  newReading : Nat
  step : Int
  validBefore : Bool
  reading : Nat
deriving DecidableEq, Repr

/-- A CONFLICT report (R53). -/
structure ConflictReport where
  badge : Nat
  station : StationId
  lastStation : StationId
  zone : Fin 4
  punchTime : Nat
  lastTime : Nat
  reading : Nat
deriving DecidableEq, Repr

/-- The content of a report (R172). -/
inductive ReportBody where
  | punch (r : PunchReport)
  | shiftClose (r : ShiftCloseReport)
  | door (r : DoorReport)
  | station (r : StationReport)
  | supply (r : SupplyReport)
  | time (r : TimeReport)
  | conflict (r : ConflictReport)
deriving DecidableEq, Repr

/-- A record of the report store (R172). -/
structure Report where
  sequence : Nat
  owed : Bool
  body : ReportBody
deriving DecidableEq, Repr

/-- The source of a non-punch report, which names its owed flag (R170). -/
inductive ReportSource where
  | supply
  | time
  | conflict
  | station (id : StationId)
  | door (id : DoorId)
deriving DecidableEq, Repr

/-- The owed flags (10.1). -/
structure Owed where
  supply : Option ReportBody
  time : Option ReportBody
  conflict : Option ReportBody
  stations : Table 15 (Option ReportBody)
  doors : Table 16 (Option ReportBody)
deriving DecidableEq, Repr

/-- The state of the Report Store. -/
structure Rps where
  records : List Report
  nextSequence : Nat
  owed : Owed
  pause : Bool
deriving DecidableEq, Repr

/-! ### Office Link Controller (chapter 10, 10.3 to 10.7) -/

/-- The reply statuses (3.6). -/
inductive Status where
  | ok
  | badArg
  | unknownKind
  | tableFull
  | notFound
  | busy
  | duplicateLevel
  | queueFull
  | closedPending
  | noClosed
  | clockUnset
deriving DecidableEq, Repr

/-- The alarm output mode (5.7). -/
inductive AlarmMode where
  | pulsed
  | latched
deriving DecidableEq, Repr

/-- The plant settings the OLC holds (10.5). -/
structure Settings where
  duplicateWindow : Nat
  conflictWindow : Nat
  staleLimit : Nat
  burstBudget : Nat
  catchUpLimit : Nat
  nightStart : Nat
  nightEnd : Nat
  evacuationPattern : PatternId
  alarmMode : AlarmMode
deriving DecidableEq, Repr

/-- What became of a manual ring request (R161). -/
inductive RingFate where
  | started
  | queued
  | dropped
  | noPattern
deriving DecidableEq, Repr

/-- The result fields of an OK reply, by command. -/
inductive ReplyResult where
  | none
  | station (r : Station)
  | badge (b : Badge) (pendingDoor : Option DoorId)
  | conflictSet (ids : List StationId)
  | input (activeLevel : ActiveLevel) (filterTime : Nat) (accepted : Bool)
  | door (d : Option Door) (contactLevel : Bool) (releaseOutput : Bool)
  | schedule (windows : List Window)
  | doorCommand (doors : List (DoorId × DoorMode × DoorState))
  | alarm (found : AlarmState)
  | shift (d : Option ShiftDef)
  | rota (r : Rota)
  | holidays (days : List Nat)
  | payClass (p : PayClass)
  | closeRecord (effectiveIn : Nat) (effectiveOut : Nat) (worked : Nat) (pay : Nat)
  | closePeriod (closeMinute : Nat) (period : Nat) (entries : Nat)
  | totals (badge : Nat) (t : Totals) (carry : Nat) (period : Nat) (closeMinute : Option Nat)
  | bell (e : Option BellEntry)
  | pattern (p : Pattern)
  | bellRing (fates : List (OutputId × RingFate))
  | bellStop (found : List (OutputId × Bool × Nat))
  | settings (s : Settings) (frequency : Frequency) (source : Source) (trim : Int)
  | status (supply : Supply) (timeSource : TimeSource) (valid : Bool) (calendar : Nat) (records : Nat) (spare : Nat)
      (pause : Bool) (owed : Bool) (conflict : Bool) (closedBlock : Bool) (passages : Nat)
  | ident
deriving DecidableEq, Repr

/-- A REPLY of the office link (R177): the kind of the command it answers, its status and its result fields. -/
structure Reply where
  kind : Nat
  status : Status
  result : ReplyResult
deriving DecidableEq, Repr

/-- What the office link's transmitter is sending (R173). -/
inductive Transmitter where
  | idle
  | reply
  | report
deriving DecidableEq, Repr

/-- The state of the Office Link Controller. -/
structure Olc where
  /-- The command waiting in the assembly (R176). -/
  assembly : Option Instr
  slot : Option Reply
  transmitter : Transmitter
  /-- Whether the ready wire is asserted (R173). -/
  ready : Bool
  settings : Settings
deriving DecidableEq, Repr

/-! ### The whole part -/

/-- The state of the GT20, the commands and events waiting to be taken, and the number of free values drawn so far. -/
structure State where
  tbu : Tbu
  glc : Glc
  pev : Pev
  btb : Btb
  sps : Sps
  drc : Drc
  blc : Blc
  rps : Rps
  olc : Olc
  /-- Commands and events waiting, the first to be taken at the front (the model's own field). -/
  pending : List Instr
  /-- How many free choices have been drawn (the model's own field, log 9). -/
  draws : Nat
deriving DecidableEq, Repr

/-- This part has no fault: the manual gives every command and event an effect, if only none, in every state. Nothing
raises a fault, which is safe. -/
inductive Fault where
deriving DecidableEq, Repr

/-- Why a step gives no meaning. Safe: a refused step proves nothing about the part. -/
inductive Refusal where
  /-- Raised by the dispatcher for a row of the table without a meaning; no row is left without one. -/
  | notModelled (mnemonic : String)
deriving DecidableEq, Repr

/-! ### Cold values -/

/-- R40: the record of an unconfigured station. -/
def Station.cold : Station := ⟨none, .idle, 0, none⟩

/-- R115: a rota of one REST day. -/
def Rota.cold : Rota := ⟨0, [none]⟩

/-- R115: the rates of an unloaded pay class. -/
def PayClass.cold : PayClass := ⟨0, 100, 100, 0⟩

/-- R102: an input at its cold settings, its accepted level read once from its circuit. -/
def Input.cold (closed : Bool) : Input := ⟨.activeOpen, 30, !closed, none, none, closed⟩

/-- 9.2: an empty pattern. DESIGN CHOICE (log 38): its repeat field, which PATTERN_GET returns, is 0; the manual gives none. -/
def Pattern.cold : Pattern := ⟨[], 0⟩

/-- R167: an idle output. -/
def BellOutput.cold : BellOutput := ⟨none, []⟩

/-- R179: the default settings of 10.5. -/
def Settings.cold : Settings := ⟨60, 20, 15, 2, 300, 1320, 360, 0, .pulsed⟩

/-- R184: every owed flag clear. -/
def Owed.clear : Owed := ⟨none, none, none, Table.fill 15 none, Table.fill 16 none⟩

/-- R42, R143: totals of zero with SATURATED clear. -/
def Totals.zero : Totals := ⟨0, 0, 0, 0, 0, 0, 0, false⟩

/-- R17: the TBU after a cold start, its first second beginning at the start and driven by the mains. -/
def Tbu.cold : Tbu where
  sourceSetting := .mains
  frequencySetting := .hz50
  trimSetting := 0
  sourceInEffect := .mains
  frequencyInEffect := .hz50
  trimInEffect := 0
  prescaler := 0
  cycleCounter := 0
  mainsWatch := .present
  gapTime := 0
  qualification := 0
  timeSource := .mainsLocked
  trimAccumulator := 0
  calendar := 0
  calendarValid := false
  pendingTime := none
  supply := .mains
  lowBatterySamples := []
  lowBatteryInput := false
  lowBatteryTimer := none
  secondEnd := .onCycle
  secondBeganAbsent := false
  lastMinute := 0
  backupIntact := true
  running := true

/-- R40, with the attention wire released; the RESTART minute boundary event of the cold start has made the TIME
broadcast pending and R34 has begun it on the free line. -/
def Glc.cold : Glc where
  stations := Table.fill 15 Station.cold
  line := .own
  grant := none
  sending := some (.time 0 .invalid)
  probed := none
  probeWait := none
  restTimer := none
  timePending := false
  pendingProbes := 0
  displayQueue := []
  attention := false

/-- R77, R54: no passage and an empty conflict set. -/
def Pev.cold : Pev := ⟨[], 0⟩

/-- R54, R148: an empty badge table, no closed block, period 0. -/
def Btb.cold : Btb := ⟨[], none, 0⟩

/-- R115. -/
def Sps.cold : Sps := ⟨Table.fill 64 none, Table.fill 32 Rota.cold, [], Table.fill 16 PayClass.cold⟩

/-- R102, with every circuit closed. -/
def Drc.cold : Drc :=
  ⟨Table.fill 16 none, Table.fill 8 [], Table.fill 33 (Input.cold true), .off, none, none⟩

/-- R167. -/
def Blc.cold : Blc := ⟨Table.fill 96 none, Table.fill 16 Pattern.cold, Table.fill 8 BellOutput.cold⟩

/-- R17: the COLD_START report, the first record of the store. -/
def coldStartReport : SupplyReport := ⟨.coldStart, .mains, .mainsLocked, none, 0⟩

/-- R184: the store with the COLD_START report as its first record, sequence number 0. -/
def Rps.cold : Rps := ⟨[⟨0, false, .supply coldStartReport⟩], 1, Owed.clear, false⟩

/-- R184, R179, with the ready wire released. -/
def Olc.cold : Olc := ⟨none, none, .idle, false, Settings.cold⟩

/-- The GT20 right after a cold start (R17, R40, R54, R77, R102, R115, R148, R167, R184): the COLD_START report stored
and the RESTART minute boundary event for plant minute 0 taken. -/
def State.reset : State :=
  { tbu := Tbu.cold, glc := Glc.cold, pev := Pev.cold, btb := Btb.cold, sps := Sps.cold, drc := Drc.cold,
    blc := Blc.cold, rps := Rps.cold, olc := Olc.cold, pending := [], draws := 0 }

end Sys2Proof.Machine
end

