-- ==== Sys2Proof/Machine/Flags.lean ====
section
/-!
DEFINITION. What the part derives from its state at an instant: the calendar's units (00_scope.md, 3.2), the spare
places of the report store, the clock quality, the logical level of an input and the level of every wired output.
-/

namespace Sys2Proof.Machine

open Sys2Proof

/-! ### Calendar units (00_scope.md, 3.2) -/

/-- The plant minute of a calendar reading. -/
def plantMinute (reading : Nat) : Nat := reading / 60

/-- The day number of a plant minute. -/
def dayOf (minute : Nat) : Nat := minute / 1440

/-- The minute of day of a plant minute. -/
def minuteOfDay (minute : Nat) : Nat := minute % 1440

/-- The weekday of a day number, 0 Monday. -/
def weekday (day : Nat) : Nat := (day + 5) % 7

/-- Whether a year of the calendar's range is a leap year. -/
def leapYear (year : Nat) : Bool := year % 4 == 0

/-- The days of a month. -/
def daysInMonth (year month : Nat) : Nat :=
  match month with
  | 2 => if leapYear year then 29 else 28
  | 4 => 30
  | 6 => 30
  | 9 => 30
  | 11 => 30
  | _ => 31

/-- Days from the epoch to the first day of a year. -/
def daysToYear (year : Nat) : Nat :=
  ((List.range (year - 2000)).map fun k => if leapYear (2000 + k) then 366 else 365).sum

/-- Days from the first day of a year to the first day of a month. -/
def daysToMonth (year month : Nat) : Nat :=
  ((List.range (month - 1)).map fun k => daysInMonth year (k + 1)).sum

/-- The calendar reading of a date and time. -/
def readingOf (year month day hour minute second : Nat) : Nat :=
  (daysToYear year + daysToMonth year month + (day - 1)) * 86400 + hour * 3600 + minute * 60 + second

/-- The plant minute of the calendar. -/
def State.minute (s : State) : Nat := plantMinute s.tbu.calendar

/-- Whether the part is quiescent (R15). -/
def State.isLow (s : State) : Bool := s.tbu.supply == .low

/-! ### Report store (10.1) -/

/-- Free places: 4,096 less the records held. -/
def State.freePlaces (s : State) : Nat := Config.storeCapacity - s.rps.records.length

/-- Spare places: the free places less twice the number of pending passages. -/
def State.sparePlaces (s : State) : Nat := s.freePlaces - 2 * s.pev.passages.length

/-- The report an owed flag holds. -/
def Owed.held (o : Owed) : ReportSource → Option ReportBody
  | .supply => o.supply
  | .time => o.time
  | .conflict => o.conflict
  | .station id => o.stations.get id
  | .door id => o.doors.get id

/-- The owed flags with the flag of one source replaced. -/
def Owed.put (o : Owed) (src : ReportSource) (b : Option ReportBody) : Owed :=
  match src with
  | .supply => { o with supply := b }
  | .time => { o with time := b }
  | .conflict => { o with conflict := b }
  | .station id => { o with stations := o.stations.set id b }
  | .door id => { o with doors := o.doors.set id b }

/-- The sources in the order of R171. -/
def emissionOrder : List ReportSource :=
  [.supply, .time, .conflict] ++ (List.finRange 15).map .station ++ (List.finRange 16).map .door

/-- Whether any owed flag holds a report. -/
def Owed.any (o : Owed) : Bool := emissionOrder.any fun src => (o.held src).isSome

/-! ### Time base -/

/-- R13: the clock quality. -/
def Tbu.quality (t : Tbu) : ClockQuality :=
  if !t.calendarValid then .invalid
  else if t.timeSource == .holdover then .holdover
  else .valid

/-- R6: the time source state that the source in effect and the mains watch give. -/
def timeSourceOf : Source → MainsWatch → TimeSource
  | .crystal, _ => .crystal
  | .mains, .present => .mainsLocked
  | .mains, .absent => .holdover

/-- The mains frequency in cycles per second. -/
def Frequency.cycles : Frequency → Nat
  | .hz50 => 50
  | .hz60 => 60

/-- R5: whether a second with so many cycles is good. -/
def Frequency.goodSecond (f : Frequency) (cycles : Nat) : Bool :=
  f.cycles ≤ cycles + 1 && cycles ≤ f.cycles + 1

/-! ### Inputs and outputs -/

/-- 5.1: whether an input's circuit reads ACTIVE under its active level. -/
def Input.logical (i : Input) : Bool :=
  match i.activeLevel with
  | .activeOpen => !i.closed
  | .activeClosed => i.closed

/-- The accepted level of an input. -/
def State.accepted (s : State) (i : InputId) : Bool := (s.drc.inputs.get i).accepted

/-- The evacuation input. -/
def evacuationInput : InputId := 32

/-- R96: whether a door's release output is active. -/
def State.releaseOutput (s : State) (d : DoorId) : Bool :=
  match s.drc.doors.get d with
  | none => false
  | some r => (r.state == .released || r.state == .free) && !s.isLow

/-- R98: whether the alarm output is active. -/
def State.alarmOutput (s : State) : Bool := s.drc.alarm != .off && !s.isLow

/-- R151: whether a bell output is active. -/
def State.bellOutput (s : State) (o : OutputId) : Bool :=
  match (s.blc.outputs.get o).current with
  | none => false
  | some r => r.phase == .on && !s.isLow

/-! ### Flags of a punch (R55) -/

/-- R55: the punch time; an age above the arrival reading gives the epoch. -/
def punchTime (arrival age : Nat) : Nat := arrival - age

/-- R55: LATE. -/
def isLate (age : Nat) : Bool := 60 ≤ age

/-- R55: STALE. -/
def isStale (staleLimit age : Nat) : Bool := staleLimit < age

end Sys2Proof.Machine
end

