-- ==== Sys2Proof/Machine/Ops.lean ====
section
/-!
DEFINITION. The shared operations on the state: replacing one block, the rows of the tables, the badge table, the
pending passage list, and the report store with its owed flags (R168 to R171).
-/

namespace Sys2Proof.Machine

open Sys2Proof

/-! ### Replacing one block -/

/-- The state with its Time Base Unit replaced. -/
def State.withTbu (s : State) (b : Tbu) : State := { s with tbu := b }
/-- The state with its Gate Line Controller replaced. -/
def State.withGlc (s : State) (b : Glc) : State := { s with glc := b }
/-- The state with its Punch Evaluator replaced. -/
def State.withPev (s : State) (b : Pev) : State := { s with pev := b }
/-- The state with its Badge Table replaced. -/
def State.withBtb (s : State) (b : Btb) : State := { s with btb := b }
/-- The state with its Shift Plan Store replaced. -/
def State.withSps (s : State) (b : Sps) : State := { s with sps := b }
/-- The state with its Door Controller replaced. -/
def State.withDrc (s : State) (b : Drc) : State := { s with drc := b }
/-- The state with its Bell Controller replaced. -/
def State.withBlc (s : State) (b : Blc) : State := { s with blc := b }
/-- The state with its Report Store replaced. -/
def State.withRps (s : State) (b : Rps) : State := { s with rps := b }
/-- The state with its Office Link Controller replaced. -/
def State.withOlc (s : State) (b : Olc) : State := { s with olc := b }
/-- The state with its queue replaced. -/
def State.withPending (s : State) (q : List Instr) : State := { s with pending := q }
/-- The state with its count of free choices replaced. -/
def State.withDraws (s : State) (n : Nat) : State := { s with draws := n }

/-! ### Rows -/

/-- The state with one station record replaced. -/
def State.setStation (s : State) (id : StationId) (r : Station) : State :=
  s.withGlc { s.glc with stations := s.glc.stations.set id r }

/-- The state with one door replaced. -/
def State.setDoor (s : State) (d : DoorId) (r : Option Door) : State :=
  s.withDrc { s.drc with doors := s.drc.doors.set d r }

/-- The state with one input replaced. -/
def State.setInput (s : State) (i : InputId) (r : Input) : State :=
  s.withDrc { s.drc with inputs := s.drc.inputs.set i r }

/-- The configuration of a station, absent for an unconfigured one. -/
def State.stationConfig (s : State) (id : StationId) : Option StationConfig := (s.glc.stations.get id).config

/-! ### Badge table (R41) -/

/-- The entry with a badge number. -/
def State.findBadge (s : State) (number : Nat) : Option Badge :=
  s.btb.entries.find? fun b => b.number == number

/-- The state with `f` applied to the entry of a badge number. -/
def State.updateBadge (s : State) (number : Nat) (f : Badge → Badge) : State :=
  s.withBtb { s.btb with entries := s.btb.entries.map fun b => if b.number = number then f b else b }

/-- R41: a new entry takes its place between the next lower and the next higher number. -/
def insertBadge (e : Badge) : List Badge → List Badge
  | [] => [e]
  | b :: rest => if e.number < b.number then e :: b :: rest else b :: insertBadge e rest

/-- R45: the entry with the smallest number above the one given. -/
def State.nextBadge (s : State) (number : Nat) : Option Badge :=
  s.btb.entries.find? fun b => decide (number < b.number)

/-- 3.1: whether totals are non-zero. -/
def Totals.nonZero (t : Totals) : Bool :=
  0 < t.regular || 0 < t.overtime || 0 < t.night || 0 < t.holiday || 0 < t.pay || 0 < t.shifts || 0 < t.missedOut
    || t.saturated

/-! ### Pending passages (R69) -/

/-- The passage at a door. -/
def State.passageAt (s : State) (d : DoorId) : Option Passage :=
  s.pev.passages.find? fun p => p.door == d

/-- The passage of a badge. -/
def State.passageOf (s : State) (badge : Nat) : Option Passage :=
  s.pev.passages.find? fun p => p.badge == badge

/-- A passage in its place by ascending door. -/
def insertPassage (p : Passage) : List Passage → List Passage
  | [] => [p]
  | q :: rest => if p.door ≤ q.door then p :: q :: rest else q :: insertPassage p rest

/-- The state with the passages of a door removed. -/
def State.removePassage (s : State) (d : DoorId) : State :=
  s.withPev { s.pev with passages := s.pev.passages.filter fun p => p.door != d }

/-! ### Report store -/

/-- R168: a record joins at the tail with the next sequence number. -/
def State.store (s : State) (owed : Bool) (body : ReportBody) : State :=
  s.withRps { s.rps with
    records := s.rps.records ++ [⟨s.rps.nextSequence, owed, body⟩]
    nextSequence := (s.rps.nextSequence + 1) % 65536 }

/-- The state with one owed flag replaced. -/
def State.setOwed (s : State) (src : ReportSource) (b : Option ReportBody) : State :=
  s.withRps { s.rps with owed := s.rps.owed.put src b }

/-- R170: a non-punch report is stored, or becomes owed under its source. -/
def State.nonPunch (s : State) (src : ReportSource) (body : ReportBody) : State :=
  if 1 ≤ s.sparePlaces ∧ s.rps.owed.held src = none then s.store false body
  else s.setOwed src (some body)

/-- R171: one source's owed report is emitted when it is held and a spare place exists. -/
def State.emitSource (s : State) (src : ReportSource) : State :=
  match s.rps.owed.held src with
  | none => s
  | some body => if 1 ≤ s.sparePlaces then (s.setOwed src none).store true body else s

/-- R171: the owed reports are emitted in order while spare places last. -/
def State.emitOwed (s : State) : State := emissionOrder.foldl State.emitSource s

/-- R168: the record at the head leaves the store, and owed reports are emitted (R171). -/
def State.depart (s : State) : State :=
  (s.withRps { s.rps with records := s.rps.records.tail }).emitOwed

/-! ### Non-punch reports -/

/-- R19: a SUPPLY report with the states after the event. -/
def State.supplyReport (s : State) (event : SupplyEvent) (before : Option TimeSource) : State :=
  s.nonPunch .supply (.supply ⟨event, s.tbu.supply, s.tbu.timeSource, before, s.tbu.calendar⟩)

/-- R33: a STATION report. -/
def State.stationReport (s : State) (id : StationId) (event : StationEvent) : State :=
  s.nonPunch (.station id) (.station ⟨id, event, s.tbu.calendar⟩)

/-! ### Free choices -/

/-- Draws the next free choice (log 9). -/
def State.draw (s : State) : Bool × State := (Config.freeChoice s.draws, s.withDraws (s.draws + 1))

end Sys2Proof.Machine
end

