-- ==== Sys2Proof/Machine/Operands.lean ====
section
/-!
DEFINITION. The operands of the commands: the code of every named list of values (R185), and for every command the range
checks its rule names, which turn its raw fields into what the command works with, or into nothing (BAD_ARG).
-/

namespace Sys2Proof.Machine

open Sys2Proof

/-! ### Codes (R185: 0 for the first value of the list, 1 for the next, and so on) -/

/-- A yes-or-no field. -/
def yesNo : Nat → Option Bool
  | 0 => some false
  | 1 => some true
  | _ => none

/-- The value of a named list with a code. -/
def ofCode {α : Type} (values : List α) (code : Nat) : Option α := values[code]?

/-- The code of a value in its named list. -/
def codeIn {α : Type} [DecidableEq α] (values : List α) (a : α) : Nat := values.idxOf a

/-- 2.1. -/
def stationModes : List StationMode := [.entry, .exit, .toggle, .access]
/-- 2.1. -/
def stationStates : List StationState := [.idle, .contending, .granted, .hold, .suspended]
/-- 3.1. -/
def presences : List Presence := [.inside, .outside, .unknown]
/-- 5.1. -/
def activeLevels : List ActiveLevel := [.activeOpen, .activeClosed]
/-- 5.2. -/
def doorKinds : List DoorKind := [.swing, .turnstile]
/-- 5.2: the default mode. -/
def defaultModes : List StandingMode := [.card, .locked, .free]
/-- 5.3: the mode of a window. -/
def windowModes : List StandingMode := [.card, .free, .locked]
/-- 5.2. -/
def doorModes : List DoorMode := [.card, .locked, .free, .lockdown]
/-- 5.2. -/
def failModes : List FailMode := [.safe, .secure]
/-- 5.2. -/
def overrides : List Override := [.normal, .lockdown, .holdFree]
/-- 5.2. -/
def doorStates : List DoorState := [.secure, .released, .opened, .held, .forced, .free]
/-- 5.7. -/
def alarmStates : List AlarmState := [.off, .pulsing, .latched]
/-- 10.5. -/
def alarmModes : List AlarmMode := [.pulsed, .latched]
/-- 10.5. -/
def sources : List Source := [.mains, .crystal]
/-- 1.1. -/
def supplies : List Supply := [.mains, .battery, .low]
/-- R185, SUPPLY report. -/
def timeSources : List TimeSource := [.crystal, .mainsLocked, .holdover]
/-- R185, TIME frame. -/
def qualities : List ClockQuality := [.valid, .holdover, .invalid]
/-- 9.1. -/
def bellEdges : List BellEdge :=
  [.start, .stop, .breakStart 0, .breakEnd 0, .breakStart 1, .breakEnd 1, .breakStart 2, .breakEnd 2]
/-- R161. -/
def ringFates : List RingFate := [.started, .queued, .dropped, .noPattern]

/-- 3.6, R185: the statuses in the order of their codes. -/
def statuses : List Status :=
  [.ok, .badArg, .unknownKind, .tableFull, .notFound, .busy, .duplicateLevel, .queueFull, .closedPending, .noClosed,
    .clockUnset]

/-- R45, R145: the selectors. -/
inductive Selector where
  | exact
  | next
deriving DecidableEq, Repr

/-- R45. -/
def selectors : List Selector := [.exact, .next]

/-- An index of a table, or absent as FF hex. -/
def optionalIndex (n k : Nat) : Option (Option (Fin n)) :=
  if k = noneByte then some none else (toFin? n k).map some

/-! ### Range checks, command by command -/

/-- R10: the reading a date and time stand for. -/
def checkSetTime (a : SetTimeArgs) : Option Nat :=
  if 2000 ≤ a.year ∧ a.year ≤ 2099 ∧ 1 ≤ a.month ∧ a.month ≤ 12 ∧ 1 ≤ a.day ∧ a.day ≤ daysInMonth a.year a.month
      ∧ a.hour ≤ 23 ∧ a.minute ≤ 59 ∧ a.second ≤ 59 then
    some (readingOf a.year a.month a.day a.hour a.minute a.second)
  else none

/-- R20: the station, the configured flag and the configuration fields. -/
def checkStationPut (a : StationPutArgs) : Option (StationId × Bool × StationConfig) := do
  let id ← toFin? 15 a.station
  let configured ← yesNo a.configured
  let level ← toFin? 15 a.level
  let mode ← ofCode stationModes a.mode
  let door ← optionalIndex 16 a.door
  let zone ← toFin? 4 a.zone
  let enabled ← yesNo a.enabled
  some (id, configured, ⟨level, mode, door, zone, enabled⟩)

/-- R36: a station 0..14 or ALL, and at most 32 characters in 20..7E hex. -/
def checkDisplay (a : DisplayArgs) : Option DisplayMessage :=
  if 32 < a.text.length ∨ a.text.any (fun c => c < 32 || 126 < c) then none
  else if a.target = allByte then some ⟨.all, a.text⟩
  else (toFin? 15 a.target).map fun id => ⟨.station id, a.text⟩

/-- R41: a badge number of an entry. -/
def badgeNumber? (n : Nat) : Option Nat :=
  if 1 ≤ n ∧ n ≤ Config.maxBadgeNumber then some n else none

/-- R45, R145: with EXACT a badge number, with NEXT any start of a walk. -/
def walkNumber? (sel : Selector) (n : Nat) : Option Nat :=
  match sel with
  | .exact => badgeNumber? n
  | .next => if n ≤ Config.maxBadgeNumber then some n else none

/-- The configuration fields of BADGE_PUT. -/
structure BadgeConfig where
  number : Nat
  crew : CrewId
  payClass : ClassId
  doors : DoorSet
  flags : BadgeFlags
deriving DecidableEq, Repr

/-- 3.1, R185: the flag set, bit 0 BLOCKED, 1 ANYTIME, 2 NO_PAY, 3 PASSBACK_EXEMPT. -/
def flagsOf (bits : Nat) : Option BadgeFlags :=
  if bits < 16 then some ⟨bits.testBit 0, bits.testBit 1, bits.testBit 2, bits.testBit 3⟩ else none

/-- R42, check 1. -/
def checkBadgePut (a : BadgePutArgs) : Option BadgeConfig := do
  let number ← badgeNumber? a.badge
  let crew ← toFin? 32 a.crew
  let payClass ← toFin? 16 a.payClass
  let flags ← flagsOf a.flags
  if a.doors < 65536 then some ⟨number, crew, payClass, BitVec.ofNat 16 a.doors, flags⟩ else none

/-- R45. -/
def checkBadgeGet (a : BadgeGetArgs) : Option (Selector × Nat) := do
  let sel ← ofCode selectors a.selector
  let n ← walkNumber? sel a.badge
  some (sel, n)

/-- R47, check 1. -/
def checkPresenceSet (a : PresenceSetArgs) : Option (Nat × Presence) := do
  let n ← badgeNumber? a.badge
  let p ← ofCode presences a.presence
  some (n, p)

/-- R81. -/
def checkInputPut (a : InputPutArgs) : Option (InputId × ActiveLevel × Nat) := do
  let i ← toFin? 33 a.input
  let level ← ofCode activeLevels a.activeLevel
  if 10 ≤ a.filterTime ∧ a.filterTime ≤ 150 ∧ a.filterTime % 10 = 0 then some (i, level, a.filterTime) else none

/-- 5.2: the contact input 0..15 of a door. -/
def contactInput? (k : Nat) : Option InputId := if k < 16 then toFin? 33 k else none

/-- 5.2: the button input 16..31 of a door, or none. -/
def buttonInput? (k : Nat) : Option (Option InputId) :=
  if k = noneByte then some none
  else if 16 ≤ k ∧ k < 32 then (toFin? 33 k).map some
  else none

/-- R82: the alarm bell, absent, or a non-empty set of outputs and a pattern. -/
def alarmBell? (present outputs pattern : Nat) : Option (Option AlarmBell) := do
  if ← yesNo present then
    let p ← toFin? 16 pattern
    if 1 ≤ outputs ∧ outputs < 256 then some (some ⟨BitVec.ofNat 8 outputs, p⟩) else none
  else some none

/-- R82: the door and, for a configured one, its configuration fields. -/
def checkDoorPut (a : DoorPutArgs) : Option (DoorId × Option DoorConfig) := do
  let d ← toFin? 16 a.door
  if ← yesNo a.configured then
    let kind ← ofCode doorKinds a.kind
    let contact ← contactInput? a.contact
    let button ← buttonInput? a.button
    let schedule ← optionalIndex 8 a.schedule
    let defaultMode ← ofCode defaultModes a.defaultMode
    let failMode ← ofCode failModes a.failMode
    let bell ← alarmBell? a.bellPresent a.bellOutputs a.bellPattern
    if 1 ≤ a.releaseTime ∧ a.releaseTime ≤ 30 ∧ a.heldLimit ≤ 600 then
      some (d, some ⟨kind, contact, button, a.releaseTime, a.heldLimit, schedule, defaultMode, failMode, bell⟩)
    else none
  else some (d, none)

/-- R84: one window. -/
def checkWindow (a : WindowArgs) : Option Window := do
  let mode ← ofCode windowModes a.mode
  if a.weekdays < 128 ∧ a.start ≤ 1439 ∧ a.stop ≤ 1439 then
    some ⟨BitVec.ofNat 7 a.weekdays, a.start, a.stop, mode⟩
  else none

/-- R84: the schedule and at most 8 windows. -/
def checkSchedulePut (a : SchedulePutArgs) : Option (ScheduleId × List Window) := do
  let n ← toFin? 8 a.schedule
  let windows ← a.windows.mapM checkWindow
  if windows.length ≤ 8 then some (n, windows) else none

/-- R87: a door, or ALL. -/
inductive DoorTarget where
  | one (d : DoorId)
  | all
deriving DecidableEq, Repr

/-- R87. -/
def checkDoorTarget (k : Nat) : Option DoorTarget :=
  if k = allByte then some .all else (toFin? 16 k).map .one

/-- 6.1: the range of one break. -/
def checkBreak (a : BreakArgs) : Option Break := do
  let paid ← yesNo a.paid
  if a.offset ≤ 959 ∧ 1 ≤ a.length ∧ a.length ≤ 120 then some ⟨a.offset, a.length, paid⟩ else none

/-- R103: the breaks are in strictly ascending order of offset, and none begins before the previous one has ended. -/
def breaksInOrder : List Break → Bool
  | [] => true
  | [_] => true
  | a :: b :: rest => decide (a.offset < b.offset) && decide (a.offset + a.length ≤ b.offset) && breaksInOrder (b :: rest)

/-- R103: the shift id and, with the defined flag yes, the definition. -/
def checkShiftPut (a : ShiftPutArgs) : Option (ShiftId × Option ShiftDef) := do
  let id ← toFin? 64 a.shift
  if ← yesNo a.defined then
    let breaks ← a.breaks.mapM checkBreak
    if a.start ≤ 1439 ∧ 1 ≤ a.length ∧ a.length ≤ 960 ∧ a.standardLength ≤ 960 ∧ a.entryLead ≤ 240 ∧ a.lateGrace ≤ 60
        ∧ a.latestIn ≤ 480 ∧ a.leaveGrace ≤ 60 ∧ a.overstayGrace ≤ 60 ∧ a.unit ∈ [1, 5, 6, 10, 15, 30]
        ∧ a.autoCloseDelay ≤ 480 ∧ breaks.length ≤ 3 ∧ breaks.all (fun b => b.offset + b.length ≤ a.length)
        ∧ breaksInOrder breaks then
      some (id, some ⟨a.start, a.length, a.standardLength, a.entryLead, a.lateGrace, a.latestIn, a.leaveGrace,
        a.overstayGrace, a.unit, a.autoCloseDelay, breaks⟩)
    else none
  else some (id, none)

/-- R105: a shift id, or REST as FF hex. -/
def rotaDay? (k : Nat) : Option (Option ShiftId) := optionalIndex 64 k

/-- R105: the crew and its rota. -/
def checkRotaPut (a : RotaPutArgs) : Option (CrewId × Rota) := do
  let crew ← toFin? 32 a.crew
  let days ← a.entries.mapM rotaDay?
  if 1 ≤ a.cycleLength ∧ a.cycleLength ≤ 28 ∧ a.anchor ≤ Config.lastDay ∧ a.entries.length = a.cycleLength then
    some (crew, ⟨a.anchor, days⟩)
  else none

/-- R107: a day number. -/
def checkDay (d : Nat) : Option Nat := if d ≤ Config.lastDay then some d else none

/-- R109. -/
def checkPayClassPut (a : PayClassPutArgs) : Option (ClassId × PayClass) := do
  let c ← toFin? 16 a.payClass
  if a.baseRate ≤ 65535 ∧ 100 ≤ a.overtimeFactor ∧ a.overtimeFactor ≤ 300 ∧ 100 ≤ a.holidayFactor
      ∧ a.holidayFactor ≤ 300 ∧ a.nightAdder ≤ 65535 then
    some (c, ⟨a.baseRate, a.overtimeFactor, a.holidayFactor, a.nightAdder⟩)
  else none

/-- R141, check 1: the badge number and the out time. -/
def checkCloseRecord (a : CloseRecordArgs) : Option (Nat × Nat) := do
  let n ← badgeNumber? a.badge
  if a.outTime ≤ Config.lastReading then some (n, a.outTime) else none

/-- R145: the badge, the selector, and whether the choice is CLOSED. -/
def checkTotalsGet (a : TotalsGetArgs) : Option (Nat × Selector × Bool) := do
  let sel ← ofCode selectors a.selector
  let n ← walkNumber? sel a.badge
  let closed ← ofCode [false, true] a.choice
  some (n, sel, closed)

/-- A non-empty set of bell outputs (R149, R161, R162). -/
def outputs? (bits : Nat) : Option OutputSet :=
  if 1 ≤ bits ∧ bits < 256 then some (BitVec.ofNat 8 bits) else none

/-- R149: when the entry falls due, from the fields of its own kind. -/
def bellTrigger? (a : BellPutArgs) : Option BellTrigger :=
  match a.kind with
  | 0 => if a.minute ≤ 1439 ∧ a.weekdays < 128 then some (.fixed a.minute (BitVec.ofNat 7 a.weekdays)) else none
  | 1 => do
    let crew ← toFin? 32 a.crew
    let edge ← ofCode bellEdges a.edge
    if -60 ≤ a.offset ∧ a.offset ≤ 60 then some (.shift crew edge a.offset) else none
  | _ => none

/-- R149: the entry number and, for a defined entry, its configuration, armed and with its last rung absent. -/
def checkBellPut (a : BellPutArgs) : Option (BellId × Option BellEntry) := do
  let n ← toFin? 96 a.entry
  if ← yesNo a.defined then
    let trigger ← bellTrigger? a
    let skip ← ofCode [false, true] a.holidayAction
    let outputs ← outputs? a.outputs
    let pattern ← toFin? 16 a.pattern
    let priority ← toFin? 4 a.priority
    let oneShot ← ofCode [false, true] a.recurrence
    some (n, some ⟨trigger, skip, outputs, pattern, priority, oneShot, true, none⟩)
  else some (n, none)

/-- R150: one step. -/
def checkStep (a : StepArgs) : Option PatternStep :=
  if 1 ≤ a.on ∧ a.on ≤ 255 ∧ 1 ≤ a.off ∧ a.off ≤ 255 then some ⟨a.on, a.off⟩ else none

/-- R150. -/
def checkPatternPut (a : PatternPutArgs) : Option (PatternId × Pattern) := do
  let n ← toFin? 16 a.pattern
  let steps ← a.steps.mapM checkStep
  if steps.length ≤ 8 ∧ a.repeats ≤ 15 then some (n, ⟨steps, a.repeats⟩) else none

/-- R161. -/
def checkBellRing (a : BellRingArgs) : Option (OutputSet × Ring) := do
  let outputs ← outputs? a.outputs
  let pattern ← toFin? 16 a.pattern
  let priority ← toFin? 4 a.priority
  some (outputs, ⟨.manual, priority, pattern⟩)

/-- 10.5: the mains frequency in Hz. -/
def frequency? : Nat → Option Frequency
  | 50 => some .hz50
  | 60 => some .hz60
  | _ => none

/-- R178: the settings of the OLC and the three of the TBU. -/
def checkSettingsPut (a : SettingsPutArgs) : Option (Settings × Frequency × Source × Int) := do
  let pattern ← toFin? 16 a.evacuationPattern
  let alarmMode ← ofCode alarmModes a.alarmMode
  let frequency ← frequency? a.frequency
  let source ← ofCode sources a.source
  if a.duplicateWindow ≤ 120 ∧ a.conflictWindow ≤ 120 ∧ a.staleLimit ≤ 60 ∧ 1 ≤ a.burstBudget ∧ a.burstBudget ≤ 4
      ∧ a.catchUpLimit ≤ 900 ∧ a.nightStart ≤ 1439 ∧ a.nightEnd ≤ 1439 ∧ -999 ≤ a.trim ∧ a.trim ≤ 999 then
    some (⟨a.duplicateWindow, a.conflictWindow, a.staleLimit, a.burstBudget, a.catchUpLimit, a.nightStart, a.nightEnd,
      pattern, alarmMode⟩, frequency, source, a.trim)
  else none

end Sys2Proof.Machine
end

