-- ==== Sys2Proof/Machine/Shifts.lean ====
section
/-!
DEFINITION. Shift instances and shift matching (chapter 6).
-/

namespace Sys2Proof.Machine

open Sys2Proof

/-- R106: whether a day is in the holiday list. -/
def Sps.isHoliday (p : Sps) (day : Nat) : Bool := p.holidays.contains day

/-- R106: the rota day of a crew on a day number; the remainder is taken upward for a day before the anchor. -/
def Rota.dayOn (r : Rota) (day : Nat) : Option ShiftId :=
  (r.days[(((day : Int) - (r.anchor : Int)) % (r.days.length : Int)).toNat]?).join

/-- R106: the breaks of a definition as absolute intervals from `start`, numbered from 1. -/
def absBreaks (start : Nat) (breaks : List Break) : List AbsBreak :=
  breaks.zipIdx.map fun (b, k) => ⟨k + 1, start + b.offset, start + b.offset + b.length, b.paid⟩

/-- R106: the instance of a definition on a day. -/
def instanceOf (crew : CrewId) (id : ShiftId) (d : ShiftDef) (day : Nat) (holiday : Bool) : ShiftInstance :=
  let start := day * 1440 + d.start
  { crew := crew, shift := id, day := day, start := start, stop := start + d.length,
    breaks := absBreaks start d.breaks, holiday := holiday, standardLength := d.standardLength,
    entryLead := d.entryLead, lateGrace := d.lateGrace, latestIn := d.latestIn, leaveGrace := d.leaveGrace,
    overstayGrace := d.overstayGrace, unit := d.unit, autoCloseDelay := d.autoCloseDelay }

/-- R106: the instance of a crew on a day, from the tables as they stand. -/
def Sps.crewInstance (p : Sps) (crew : CrewId) (day : Nat) : Option ShiftInstance :=
  if Config.lastDay < day then none
  else do
    let id ← (p.rotas.get crew).dayOn day
    let d ← p.shifts.get id
    some (instanceOf crew id d day (p.isHoliday day))

/-- R110, R154: the day before a minute's day, the day itself and the day after. -/
def nearDays (minute : Nat) : List Nat :=
  let d := dayOf minute
  if d = 0 then [0, 1] else [d - 1, d, d + 1]

/-- R110, R154: the crew's instances on those days. -/
def Sps.nearInstances (p : Sps) (crew : CrewId) (minute : Nat) : List ShiftInstance :=
  (nearDays minute).filterMap (p.crewInstance crew)

/-- R110: whether a minute lies in the entry window of an instance. -/
def ShiftInstance.window (i : ShiftInstance) (t : Nat) : Bool :=
  decide (i.start ≤ t + i.entryLead) && decide (t ≤ i.start + i.latestIn)

/-- R111: the distance between a minute and the start of an instance. -/
def ShiftInstance.distance (i : ShiftInstance) (t : Nat) : Nat :=
  if i.start ≤ t then t - i.start else i.start - t

/-- R111: whether `i` goes before `j`: by the smaller distance, at one distance by the earlier start. -/
def ShiftInstance.nearer (t : Nat) (i j : ShiftInstance) : Bool :=
  decide (i.distance t < j.distance t) || (i.distance t == j.distance t && decide (i.start < j.start))

/-- R111: the nearest of a list of candidates. -/
def nearest (t : Nat) : List ShiftInstance → Option ShiftInstance
  | [] => none
  | i :: rest =>
    match nearest t rest with
    | none => some i
    | some j => if ShiftInstance.nearer t j i then some j else some i

/-- R110, R111: the instance a crew's worker is coming to at plant minute `t`; nothing is unscheduled. -/
def Sps.matchShift (p : Sps) (crew : CrewId) (t : Nat) : Option ShiftInstance :=
  nearest t ((p.nearInstances crew t).filter fun i => i.window t)

end Sys2Proof.Machine
end

