-- ==== Sys2Proof/Machine/Bells.lean ====
section
/-!
DEFINITION. Rings, the service of each bell output, due entries and the reactions of the Bell Controller (chapter 9).
-/

namespace Sys2Proof.Machine

open Sys2Proof

/-! ### Rings (9.2) -/

/-- The ring at the first step of a repetition. -/
def atStep (ring : Ring) (left : Option Nat) (ending : Bool) (steps : List PatternStep) (first : PatternStep) :
    CurrentRing :=
  ⟨ring, left, ending, steps, 1, .on, first.on * Config.patternUnit⟩

/-- R151: a ring that starts; nothing when its pattern is empty. -/
def startRing (patterns : Table 16 Pattern) (ring : Ring) : Option CurrentRing :=
  let p := patterns.get ring.pattern
  match p.steps with
  | [] => none
  | first :: _ =>
    some (atStep ring (if ring.source = .evacuation then none else some (p.repeats + 1)) false p.steps first)

/-- R160: the head of the waiting list starts; a head with an empty pattern is discarded and the next is tried. -/
def startNext (patterns : Table 16 Pattern) : List Ring → BellOutput
  | [] => ⟨none, []⟩
  | r :: rest =>
    match startRing patterns r with
    | some c => ⟨some c, rest⟩
    | none => startNext patterns rest

/-- R151: a new repetition reads the pattern again; nothing when it is empty. -/
def newRepetition (patterns : Table 16 Pattern) (c : CurrentRing) (left : Option Nat) : Option CurrentRing :=
  match (patterns.get c.ring.pattern).steps with
  | [] => none
  | first :: rest => some (atStep c.ring left c.ending (first :: rest) first)

/-- R151: what follows the off time of the last step; nothing when the ring ends. -/
def repetitionEnd (patterns : Table 16 Pattern) (c : CurrentRing) : Option CurrentRing :=
  match c.repsLeft with
  | none => if c.ending then none else newRepetition patterns c none
  | some n => if n ≤ 1 then none else newRepetition patterns c (some (n - 1))

/-- R151: the phase timer of a ring runs out; nothing when the ring ends. -/
def advanceRing (patterns : Table 16 Pattern) (c : CurrentRing) : Option CurrentRing :=
  match c.phase with
  | .on =>
    match c.steps[c.position - 1]? with
    | some st => some { c with phase := .off, timer := st.off * Config.patternUnit }
    | none => none
  | .off =>
    match c.steps[c.position]? with
    | some st => some { c with position := c.position + 1, phase := .on, timer := st.on * Config.patternUnit }
    | none => repetitionEnd patterns c

/-- R151, R160: an output whose ring's phase timer ran out. -/
def BellOutput.phaseEnd (patterns : Table 16 Pattern) (o : BellOutput) : BellOutput :=
  match o.current with
  | none => o
  | some c =>
    match advanceRing patterns c with
    | some c' => { o with current := some c' }
    | none => startNext patterns o.waiting

/-! ### Requests (9.5) -/

/-- R157: whether a request merges with a ring of the output. -/
def BellOutput.merges (o : BellOutput) (r : Ring) : Bool :=
  match r.source with
  | .manual => false
  | .evacuation => false
  | _ => (match o.current with
      | some c => c.ring.source == r.source
      | none => false) || o.waiting.any fun w => w.source == r.source

/-- R159: a waiting ring's place, after every ring of equal or higher priority. -/
def insertRing (r : Ring) : List Ring → List Ring
  | [] => [r]
  | w :: rest => if w.priority < r.priority then r :: w :: rest else w :: insertRing r rest

/-- R159: the waiting list after a request, and whether the request joined it. -/
def joinWaiting (r : Ring) (waiting : List Ring) : List Ring × Bool :=
  if waiting.length < Config.waitingCapacity then (insertRing r waiting, true)
  else
    match waiting.getLast? with
    | some l => if l.priority < r.priority then (insertRing r waiting.dropLast, true) else (waiting, false)
    | none => (waiting, false)

/-- R157 to R160: an output serves a request; what became of it is as R161 names it, a merged request counting as
dropped. -/
def BellOutput.serve (patterns : Table 16 Pattern) (o : BellOutput) (r : Ring) : BellOutput × RingFate :=
  match startRing patterns r with
  | none => (o, .noPattern)
  | some started =>
    if o.merges r then (o, .dropped)
    else
      match o.current with
      | none => ({ o with current := some started }, .started)
      | some c =>
        if c.ring.priority < r.priority then ({ o with current := some started }, .started)
        else
          let j := joinWaiting r o.waiting
          ({ o with waiting := j.1 }, if j.2 then .queued else .dropped)

/-- R166, R157: a request on arrival; in BATTERY a request of priority below 3 is dropped first. -/
def BellOutput.request (patterns : Table 16 Pattern) (battery : Bool) (o : BellOutput) (r : Ring) :
    BellOutput × RingFate :=
  if battery && decide (r.priority < 3) then (o, .dropped) else o.serve patterns r

/-- A request sent to each output of a set (R152, R161, R163): the outputs touch different state. -/
def Blc.requestAll (b : Blc) (battery : Bool) (outputs : OutputSet) (r : Ring) : Blc :=
  { b with outputs := b.outputs.mapRows fun i o =>
      if inSet outputs i then (o.request b.patterns battery r).1 else o }

/-- R161: what became of the request at each output of a set, in ascending order. -/
def Blc.fates (b : Blc) (battery : Bool) (outputs : OutputSet) (r : Ring) : List (OutputId × RingFate) :=
  (members outputs).map fun i => (i, ((b.outputs.get i).request b.patterns battery r).2)

/-! ### Due entries (9.3, 9.4) -/

/-- R153: a FIXED entry is due. -/
def fixedDue (p : Sps) (minute : Nat) (weekdays : WeekdaySet) (skip : Bool) (m : Nat) : Bool :=
  minuteOfDay m == minute && inSet weekdays (weekday (dayOf m)) && (!skip || !p.isHoliday (dayOf m))

/-- R154: the plant minute of an edge of an instance, if it has that edge. -/
def edgeMinute (i : ShiftInstance) : BellEdge → Option Nat
  | .start => some i.start
  | .stop => some i.stop
  | .breakStart k => (i.breaks[k.val]?).map fun b => b.start
  | .breakEnd k => (i.breaks[k.val]?).map fun b => b.stop

/-- R154: a SHIFT entry is due on one instance. -/
def instanceDue (i : ShiftInstance) (edge : BellEdge) (offset : Int) (skip : Bool) (m : Nat) : Bool :=
  match edgeMinute i edge with
  | none => false
  | some e => decide ((e : Int) + offset = (m : Int)) && (!skip || !i.holiday)

/-- R153, R154: an entry is due at plant minute `m`. -/
def BellEntry.due (p : Sps) (e : BellEntry) (m : Nat) : Bool :=
  match e.trigger with
  | .fixed minute weekdays => fixedDue p minute weekdays e.skipHolidays m
  | .shift crew edge offset =>
    (p.nearInstances crew m).any fun i => instanceDue i edge offset e.skipHolidays m

/-- R155: an entry is held back at `m` when `m` is not after its last rung. -/
def BellEntry.heldBack (e : BellEntry) (m : Nat) : Bool :=
  match e.lastRung with
  | none => false
  | some l => decide (m ≤ l)

/-- R152: whether an entry rings at `m`. -/
def BellEntry.rings (p : Sps) (e : BellEntry) (m : Nat) : Bool := e.armed && e.due p m && !e.heldBack m

/-- R152: one entry is evaluated at one minute. -/
def Blc.evaluateEntry (p : Sps) (battery : Bool) (m : Nat) (b : Blc) (n : BellId) : Blc :=
  match b.entries.get n with
  | none => b
  | some e =>
    if e.rings p m then
      ({ b with entries := b.entries.set n (some { e with lastRung := some m, armed := !e.oneShot }) }).requestAll
        battery e.outputs ⟨.entry n, e.priority, e.pattern⟩
    else b

/-- R152: one minute is evaluated, the entries in ascending number. -/
def Blc.evaluateMinute (p : Sps) (battery : Bool) (b : Blc) (m : Nat) : Blc :=
  (List.finRange 96).foldl (Blc.evaluateEntry p battery m) b

/-- R152: the minutes of one event are evaluated in ascending order. -/
def Blc.evaluate (p : Sps) (battery : Bool) (minutes : List Nat) (b : Blc) : Blc :=
  minutes.foldl (Blc.evaluateMinute p battery) b

/-- R152, R156: the minutes an event calls for: those of a catch-up, then the new plant minute. -/
def minutesToEvaluate (catchUpLimit : Nat) (new : Nat) (old : Option (Nat × Int)) : List Nat :=
  match old with
  | none => [new]
  | some (oldMinute, step) =>
    if step ≤ (catchUpLimit : Int) then List.range' (oldMinute + 1) (new - oldMinute - 1) ++ [new] else [new]

/-! ### Evacuation (9.6) -/

/-- R164: one output serves an evacuation request. -/
def BellOutput.evacuate (patterns : Table 16 Pattern) (pattern : PatternId) (o : BellOutput) : BellOutput :=
  match o.current with
  | some c =>
    if c.ring.source = .evacuation then { o with current := some { c with ending := false } }
    else
      match startRing patterns ⟨.evacuation, 3, pattern⟩ with
      | none => o
      | some started => { o with current := some started }
  | none =>
    match startRing patterns ⟨.evacuation, 3, pattern⟩ with
    | none => o
    | some started => { o with current := some started }

/-- R165: one output takes the end of the evacuation. -/
def BellOutput.endEvacuation (o : BellOutput) : BellOutput :=
  match o.current with
  | some c => if c.ring.source = .evacuation then { o with current := some { c with ending := true } } else o
  | none => o

/-- R164: the evacuation request to every output. -/
def Blc.evacuate (b : Blc) (pattern : PatternId) : Blc :=
  { b with outputs := b.outputs.map (BellOutput.evacuate b.patterns pattern) }

/-- R165. -/
def Blc.endEvacuation (b : Blc) : Blc := { b with outputs := b.outputs.map BellOutput.endEvacuation }

/-! ### Supply (R166) -/

/-- R166: an output on entry to BATTERY. -/
def BellOutput.suppress (patterns : Table 16 Pattern) (o : BellOutput) : BellOutput :=
  let kept := o.waiting.filter fun w => decide (3 ≤ w.priority)
  match o.current with
  | none => { o with waiting := kept }
  | some c => if c.ring.priority < 3 then startNext patterns kept else { o with waiting := kept }

/-- R166: entry to BATTERY. -/
def Blc.suppress (b : Blc) : Blc := { b with outputs := b.outputs.map (BellOutput.suppress b.patterns) }

/-- R166, R167: every ring ends and every waiting list is emptied. -/
def Blc.silence (b : Blc) : Blc := { b with outputs := Table.fill 8 BellOutput.cold }

/-- Whether the part is in BATTERY. -/
def State.onBattery (s : State) : Bool := s.tbu.supply == .battery

end Sys2Proof.Machine
end

