-- ==== Sys2Proof/Machine/Pay.lean ====
section
/-!
DEFINITION. The shift pay computation (chapter 7) and the closing of records with the period totals (chapter 8).
-/

namespace Sys2Proof.Machine

open Sys2Proof

/-! ### Rounding (00_scope.md, 3.3) -/

/-- The largest multiple of the unit not above `t`. -/
def roundDown (unit t : Nat) : Nat := t / unit * unit

/-- The smallest multiple of the unit not below `t`. -/
def roundUp (unit t : Nat) : Nat := (t + unit - 1) / unit * unit

/-! ### Building an open record -/

/-- R119: the effective in of a scheduled attendance. -/
def scheduledIn (i : ShiftInstance) (actualIn : Nat) : Nat :=
  if actualIn ≤ i.start + i.lateGrace then i.start else roundUp i.unit actualIn

/-- R117, R119: the record of a captured instance. -/
def scheduledRecord (i : ShiftInstance) (actualIn : Nat) (rates : PayClass) (set : Settings) : OpenRecord where
  actualIn := actualIn
  scheduled := some ⟨i.shift, i.day, i.start, i.stop, i.lateGrace, i.leaveGrace, i.overstayGrace⟩
  standardLength := i.standardLength
  unit := i.unit
  breaks := i.breaks
  holiday := i.holiday
  nightStart := set.nightStart
  nightEnd := set.nightEnd
  rates := rates
  effectiveIn := scheduledIn i actualIn
  deadline := i.stop + i.autoCloseDelay

/-- R118, R119: the record of unscheduled work. -/
def unscheduledRecord (actualIn : Nat) (rates : PayClass) (set : Settings) : OpenRecord where
  actualIn := actualIn
  scheduled := none
  standardLength := 0
  unit := 15
  breaks := []
  holiday := false
  nightStart := set.nightStart
  nightEnd := set.nightEnd
  rates := rates
  effectiveIn := roundUp 15 actualIn
  deadline := roundUp 15 actualIn + 960

/-- R117, R118: the record an ENTRY commit builds from the captured instance and the punch time. -/
def buildRecord (c : Captured) (time : Nat) (rates : PayClass) (set : Settings) : OpenRecord :=
  match c with
  | .shift i => scheduledRecord i (plantMinute time) rates set
  | .unscheduled => unscheduledRecord (plantMinute time) rates set
  | .none => unscheduledRecord (plantMinute time) rates set

/-! ### The computation of a close -/

/-- R121: the two forms a close hands to the computation. -/
inductive CloseForm where
  | outTime (reading : Nat)
  | fixedOut (minute : Nat)
deriving DecidableEq, Repr

/-- R122, R123: the effective out of a close by out time. -/
def effectiveOutAt (r : OpenRecord) (t : Nat) : Nat :=
  match r.scheduled with
  | none => roundDown 15 t
  | some p =>
    if t + p.leaveGrace < p.stop then roundDown r.unit t
    else if t ≤ p.stop + p.overstayGrace then p.stop
    else roundDown r.unit t

/-- R122, R123: the effective out. -/
def effectiveOut (r : OpenRecord) : CloseForm → Nat
  | .outTime reading => effectiveOutAt r (plantMinute reading)
  | .fixedOut m => m

/-- 7.3: the minutes two intervals have in common. -/
def overlap (a b c d : Int) : Nat := (min b d - max a c).toNat

/-- R124: the span of an attendance. -/
def span (effIn effOut : Nat) : Nat := effOut - effIn

/-- R124: the overlap of the unpaid breaks with the attendance. -/
def deduction (breaks : List AbsBreak) (effIn effOut : Nat) : Nat :=
  ((breaks.filter fun b => !b.paid).map fun b => overlap b.start b.stop effIn effOut).sum

/-- R125: the worked minutes before the cap. -/
def uncapped (r : OpenRecord) (effOut : Nat) : Nat :=
  span r.effectiveIn effOut - deduction r.breaks r.effectiveIn effOut

/-- R125: the worked minutes. -/
def worked (r : OpenRecord) (effOut : Nat) : Nat := min (uncapped r effOut) Config.maxWorked

/-- R126: the night window that belongs to a day. -/
def nightWindow (nightStart nightEnd : Nat) (day : Int) : Int × Int :=
  if nightStart < nightEnd then (day * 1440 + nightStart, day * 1440 + nightEnd)
  else (day * 1440 + nightStart, (day + 1) * 1440 + nightEnd)

/-- R126: the night windows of a close, from the day before the effective in to the day of the effective out. -/
def nightWindows (nightStart nightEnd effIn effOut : Nat) : List (Int × Int) :=
  if nightStart = nightEnd then []
  else
    (List.range (dayOf effOut + 2 - dayOf effIn)).map fun k =>
      nightWindow nightStart nightEnd ((dayOf effIn : Int) - 1 + k)

/-- R126: the night overlap. -/
def nightOverlap (windows : List (Int × Int)) (effIn effOut : Nat) : Nat :=
  (windows.map fun w => overlap w.1 w.2 effIn effOut).sum

/-- R126: the overlap of the unpaid breaks inside the attendance with the night windows. -/
def nightBreakOverlap (windows : List (Int × Int)) (breaks : List AbsBreak) (effIn effOut : Nat) : Nat :=
  ((breaks.filter fun b => !b.paid).map fun b =>
    (windows.map fun w => overlap w.1 w.2 (max (b.start : Int) effIn) (min (b.stop : Int) effOut)).sum).sum

/-- R126: the night minutes. -/
def nightMinutes (r : OpenRecord) (effOut : Nat) : Nat :=
  let windows := nightWindows r.nightStart r.nightEnd r.effectiveIn effOut
  min (nightOverlap windows r.effectiveIn effOut - nightBreakOverlap windows r.breaks r.effectiveIn effOut)
    (worked r effOut)

/-- R127: the regular, overtime and holiday minutes of so many worked minutes. -/
def buckets (r : OpenRecord) (w : Nat) : Nat × Nat × Nat :=
  match r.scheduled with
  | none => (0, w, 0)
  | some _ =>
    if r.holiday then (0, 0, w)
    else (min w r.standardLength, w - min w r.standardLength, 0)

/-- R128: the pay value of a close. -/
def payValue (rates : PayClass) (regular overtime holiday night carry : Nat) : Nat :=
  regular * rates.baseRate * 100 + overtime * rates.baseRate * rates.overtimeFactor
    + holiday * rates.baseRate * rates.holidayFactor + night * rates.nightAdder * 100 + carry

/-- R121 to R131: the closed record of a badge's open record. -/
def computeClose (badge : Nat) (carry : Nat) (r : OpenRecord) (form : CloseForm) : ClosedRecord :=
  let out := effectiveOut r form
  let w := worked r out
  let b := buckets r w
  let n := nightMinutes r out
  let v := payValue r.rates b.1 b.2.1 b.2.2 n carry
  { badge := badge
    scheduled := r.scheduled
    actualIn := r.actualIn
    outMinute := match form with
      | .outTime reading => some (plantMinute reading)
      | .fixedOut _ => none
    effectiveIn := r.effectiveIn
    effectiveOut := out
    worked := w
    regular := b.1
    overtime := b.2.1
    night := n
    holiday := b.2.2
    pay := v / Config.unitsPerCent
    carry := v % Config.unitsPerCent
    holidayFlag := r.holiday
    clamped := decide (Config.maxWorked < uncapped r out)
    timeReversed := decide (out < r.effectiveIn) }

/-! ### Totals (R135) -/

/-- R135: an addition that stops at the maximum. -/
def saturate (limit total added : Nat) : Nat := min (total + added) limit

/-- R134, R135: whether an addition of a close saturates a total. -/
def closeSaturates (t : Totals) (c : ClosedRecord) (missed : Nat) : Bool :=
  decide (Config.maxCount < t.regular + c.regular) || decide (Config.maxCount < t.overtime + c.overtime)
    || decide (Config.maxCount < t.night + c.night) || decide (Config.maxCount < t.holiday + c.holiday)
    || decide (Config.maxPay < t.pay + c.pay) || decide (Config.maxCount < t.shifts + 1)
    || decide (Config.maxCount < t.missedOut + missed)

/-- R134, R135: the current totals after a close. -/
def addClose (t : Totals) (c : ClosedRecord) (missed : Nat) : Totals where
  regular := saturate Config.maxCount t.regular c.regular
  overtime := saturate Config.maxCount t.overtime c.overtime
  night := saturate Config.maxCount t.night c.night
  holiday := saturate Config.maxCount t.holiday c.holiday
  pay := saturate Config.maxPay t.pay c.pay
  shifts := saturate Config.maxCount t.shifts 1
  missedOut := saturate Config.maxCount t.missedOut missed
  saturated := t.saturated || closeSaturates t c missed

/-! ### Closing (R134) -/

/-- 8.1: what a cause adds to the missed-out count. -/
def CloseCause.missed : CloseCause → Nat
  | .auto => 1
  | _ => 0

/-- 8.1: the presence a cause gives. -/
def CloseCause.presence : CloseCause → Presence
  | .auto => .unknown
  | _ => .outside

/-- R134: the badge entry after a close. -/
def Badge.afterClose (b : Badge) (c : ClosedRecord) (cause : CloseCause) : Badge :=
  { b with
    current := addClose b.current c cause.missed
    carry := c.carry
    record := none
    presence := cause.presence }

/-- R137: the SHIFT_CLOSE report of a close. -/
def shiftCloseReport (s : State) (b : Badge) (c : ClosedRecord) (cause : CloseCause) : ShiftCloseReport :=
  ⟨c, cause, s.btb.period, cause.presence, closeSaturates b.current c cause.missed, s.tbu.calendar⟩

/-- R134: the close of a badge's open record, with its SHIFT_CLOSE report. -/
def State.closeRecord (s : State) (b : Badge) (r : OpenRecord) (cause : CloseCause) (form : CloseForm) : State :=
  let c := computeClose b.number b.carry r form
  (s.updateBadge b.number fun e => e.afterClose c cause).store false
    (.shiftClose (shiftCloseReport s b c cause))

/-! ### The auto-close walk (R138, R139) -/

/-- R139: the fixed effective out of an automatic close. -/
def OpenRecord.fixedOut (r : OpenRecord) : Nat :=
  match r.scheduled with
  | none => r.effectiveIn
  | some p => p.stop

/-- R138: the walk over the badges that remain; it ends where no spare place is left. -/
def autoCloseFrom (now : Nat) : List Badge → State → State
  | [], s => s
  | b :: rest, s =>
    match b.record with
    | none => autoCloseFrom now rest s
    | some r =>
      if now < r.deadline then autoCloseFrom now rest s
      else if (s.passageOf b.number).isSome then autoCloseFrom now rest s
      else if s.sparePlaces < 1 then s
      else autoCloseFrom now rest (s.closeRecord b r .auto (.fixedOut r.fixedOut))

/-- R138: the walk at a minute boundary event. -/
def State.autoClose (s : State) (now : Nat) : State := autoCloseFrom now s.btb.entries s

end Sys2Proof.Machine
end

