-- ==== Sys2Proof/Machine/Passages.lean ====
section
/-!
DEFINITION. Commit and cancel of accepted punches and pending passages (chapter 4, 4.4 to 4.7).
-/

namespace Sys2Proof.Machine

open Sys2Proof

/-- An accepted punch, as its commit and its PUNCH report need it (R58, R71). -/
structure Accepted where
  badge : Nat
  station : StationId
  door : Option DoorId
  direction : Direction
  punchTime : Nat
  age : Nat
  arrival : Nat
  captured : Captured
  creation : Nat
  flags : PunchFlags
deriving DecidableEq, Repr

/-- The flags of a punch that has only those of its age (R55). -/
def ageFlags (late stale : Bool) : PunchFlags := ⟨late, stale, false, false, false⟩

/-- R71: a pending passage as the accepted punch it came from. -/
def Passage.accepted (p : Passage) : Accepted :=
  ⟨p.badge, p.station, some p.door, p.direction, p.punchTime, p.age, p.arrival, p.captured, p.creation,
    ageFlags p.late false⟩

/-- R58: the PUNCH report of an accepted punch at its commit or cancel. -/
def Accepted.report (a : Accepted) (result : PunchResult) (finish : Nat) : ReportBody :=
  .punch ⟨a.badge, a.station, a.door, some a.direction, result, none, a.flags, a.age, a.punchTime, a.arrival,
    a.creation, finish⟩

/-- R72: the badge entry after an ENTRY commit. -/
def Badge.afterEntry (b : Badge) (a : Accepted) (rates : PayClass) (set : Settings) : Badge :=
  { b with
    presence := .inside
    record := if b.flags.noPay || b.record.isSome then b.record
      else some (buildRecord a.captured a.punchTime rates set) }

/-- R72: an ENTRY commit, reported with OPEN_KEPT when the badge already holds a record. -/
def State.commitEntry (s : State) (a : Accepted) (b : Badge) : State :=
  let a' := { a with flags := { a.flags with openKept := !b.flags.noPay && b.record.isSome } }
  (s.updateBadge b.number fun e => e.afterEntry a (s.sps.payClasses.get e.payClass) s.olc.settings).store false
    (a'.report .accepted s.tbu.calendar)

/-- R73: an EXIT commit closes the open record, or is reported with NO_RECORD. -/
def State.commitExit (s : State) (a : Accepted) (b : Badge) : State :=
  match b.record with
  | some r =>
    (s.store false (a.report .accepted s.tbu.calendar)).closeRecord b r .punch (.outTime a.punchTime)
  | none =>
    (s.updateBadge b.number fun e => { e with presence := .outside }).store false
      ({ a with flags := { a.flags with noRecord := true } }.report .accepted s.tbu.calendar)

/-- R71 to R73: the work of a commit on the badge and its reports. -/
def State.commitWork (s : State) (a : Accepted) : State :=
  match s.findBadge a.badge with
  | none => s.store false (a.report .accepted s.tbu.calendar)
  | some b =>
    match a.direction with
    | .entry => s.commitEntry a b
    | .exit => s.commitExit a b
    | .access => s.store false (a.report .accepted s.tbu.calendar)

/-- R71, R75: the pending passage at a door commits, with FREE_PASS when the door became FREE; then owed reports are
emitted (R171). A door with no passage is left as it stands (R70). -/
def State.commitPassage (s : State) (d : DoorId) (freePass : Bool) : State :=
  match s.passageAt d with
  | none => s
  | some p =>
    let a := { p.accepted with flags := { p.accepted.flags with freePass := freePass } }
    (((s.removePassage d).updateBadge p.badge fun b => { b with savedPunch := none }).commitWork a).emitOwed

/-- R49: the badge entry after a cancel. -/
def Badge.afterCancel (b : Badge) : Badge :=
  { b with lastPunch := b.savedPunch.join, savedPunch := none }

/-- R74: the pending passage at a door is withdrawn; then owed reports are emitted (R171). -/
def State.cancelPassage (s : State) (d : DoorId) : State :=
  match s.passageAt d with
  | none => s
  | some p =>
    (((s.removePassage d).updateBadge p.badge Badge.afterCancel).store false
      (p.accepted.report .cancelled s.tbu.calendar)).emitOwed

/-- R77: every pending passage is cancelled, in ascending door number. -/
def State.cancelAll (s : State) : State := (List.finRange 16).foldl State.cancelPassage s

end Sys2Proof.Machine
end

