-- ==== Sys2Proof/Machine/Doors.lean ====
section
/-!
DEFINITION. Schedules, effective modes, door states, the alarm output and the input conditioner (chapter 5).
-/

namespace Sys2Proof.Machine

open Sys2Proof

/-! ### Schedules and the effective mode (5.3) -/

/-- R84: whether a window contains a plant minute. -/
def Window.contains (w : Window) (m : Nat) : Bool :=
  let x := minuteOfDay m
  let today := inSet w.weekdays (weekday (dayOf m))
  -- the weekday of the day before
  let yesterday := inSet w.weekdays (weekday (dayOf m + 6))
  if w.start < w.stop then today && decide (w.start ≤ x) && decide (x < w.stop)
  else (today && decide (w.start ≤ x)) || (yesterday && decide (x < w.stop))

/-- R85: the mode of the first window that contains the minute. -/
def scheduledMode (windows : List Window) (m : Nat) : Option StandingMode :=
  (windows.find? fun w => w.contains m).map Window.mode

/-- R85: the schedule mode of a door. -/
def State.scheduleMode (s : State) (c : DoorConfig) : StandingMode :=
  if s.tbu.calendarValid then
    match c.schedule with
    | none => c.defaultMode
    | some k => (scheduledMode (s.drc.schedules.get k) s.minute).getD c.defaultMode
  else c.defaultMode

/-- A mode a schedule gives as an effective mode. -/
def StandingMode.mode : StandingMode → DoorMode
  | .card => .card
  | .locked => .locked
  | .free => .free

/-- R86: the effective mode of a door with an override. -/
def State.resolveMode (s : State) (c : DoorConfig) (o : Override) : DoorMode :=
  if s.accepted evacuationInput then .free
  else if s.tbu.supply = .battery ∧ c.failMode = .safe then .free
  else if o = .lockdown then .lockdown
  else if o = .holdFree then .free
  else (s.scheduleMode c).mode

/-! ### Door states -/

/-- The release timer at the full release time (R88). -/
def DoorConfig.fullRelease (c : DoorConfig) : Nat := Config.seconds c.releaseTime

/-- The held timer at the held limit; it does not run with a limit of 0 (R90). -/
def DoorConfig.fullHeld (c : DoorConfig) : Option Nat :=
  if 0 < c.heldLimit then some (Config.seconds c.heldLimit) else none

/-- R82, R96, R101: a door that is not FREE takes the state its contact gives. -/
def Door.closedState (r : Door) (contact : Bool) : Door :=
  if r.config.kind = .swing ∧ contact = true then
    { r with state := .opened, releaseTimer := none, heldTimer := r.config.fullHeld }
  else { r with state := .secure, releaseTimer := none, heldTimer := none }

/-- R82, R101: a door's state worked out afresh from a mode and its contact, with stopped timers. -/
def Door.workOut (r : Door) (mode : DoorMode) (contact : Bool) : Door :=
  if mode = .free then { r with mode := .free, state := .free, releaseTimer := none, heldTimer := none }
  else { r with mode := mode }.closedState contact

/-- R82, R101: a configured door resolved and worked out afresh. -/
def State.freshDoor (s : State) (r : Door) : Door :=
  r.workOut (s.resolveMode r.config r.override) (s.accepted r.config.contact)

/-- R96: a door leaves FREE for the state its contact gives. -/
def Door.leaveFree (r : Door) (mode : DoorMode) (contact : Bool) : Door := { r with mode := mode }.closedState contact

/-- R97: a door enters LOCKDOWN: a RELEASED door goes to SECURE. -/
def Door.enterLockdown (r : Door) : Door :=
  if r.state = .released then { r with state := .secure, releaseTimer := none } else r

/-- R95 to R97: a door's effective mode changes. -/
def State.changeMode (s : State) (d : DoorId) (r : Door) (mode : DoorMode) : State :=
  if mode = .free then
    (s.setDoor d (some { r with mode := .free, state := .free, releaseTimer := none, heldTimer := none })).commitPassage
      d true
  else
    let left := if r.mode = .free then r.leaveFree mode (s.accepted r.config.contact) else { r with mode := mode }
    if mode = .lockdown then
      if left.state = .released then (s.setDoor d (some left.enterLockdown)).cancelPassage d
      else s.setDoor d (some left)
    else s.setDoor d (some left)

/-- R86: a door's effective mode is resolved; nothing changes when it gives the mode the door has. -/
def State.resolveDoor (s : State) (d : DoorId) : State :=
  match s.drc.doors.get d with
  | none => s
  | some r =>
    let mode := s.resolveMode r.config r.override
    if mode = r.mode then s else s.changeMode d r mode

/-- R86: every configured door is resolved, in ascending door number. -/
def State.resolveAll (s : State) : State := (List.finRange 16).foldl State.resolveDoor s

/-! ### The alarm output (R98) and door events (R100) -/

/-- R98: the alarm output is fired. -/
def State.fireAlarm (s : State) : State :=
  match s.olc.settings.alarmMode with
  | .latched => s.withDrc { s.drc with alarm := .latched, pulseTimer := none }
  | .pulsed =>
    if s.drc.alarm = .latched then s
    else s.withDrc { s.drc with alarm := .pulsing, pulseTimer := some Config.pulseTime }

/-- R100: a DOOR report with the door's mode and state after the event. -/
def State.doorReport (s : State) (d : DoorId) (r : Door) (event : DoorEvent) (ended : Option DoorEvent) : State :=
  s.nonPunch (.door d) (.door ⟨d, r.config.kind, event, ended, r.mode, r.state, s.tbu.calendar⟩)

/-- R100, R163: the ring request of a door alarm. -/
def State.doorBell (s : State) (d : DoorId) (r : Door) : State :=
  match r.config.alarmBell with
  | none => s
  | some b => s.withBlc (s.blc.requestAll s.onBattery b.outputs ⟨.door d, 2, b.pattern⟩)

/-- R90, R92, R94: a FORCED or HELD event: the DOOR report, the alarm output and the alarm bell. -/
def State.doorAlarm (s : State) (d : DoorId) (r : Door) (event : DoorEvent) : State :=
  ((s.setDoor d (some r)).doorReport d r event none).fireAlarm.doorBell d r

/-! ### Events at a door -/

/-- R88, R93: the door is released: RELEASED with its release timer at the full release time. -/
def State.releaseDoor (s : State) (d : DoorId) : State :=
  match s.drc.doors.get d with
  | none => s
  | some r => s.setDoor d (some { r with state := .released, releaseTimer := some r.config.fullRelease })

/-- R89, R93: a press of the exit button, or RELEASE_ONCE. -/
def State.pressButton (s : State) (d : DoorId) : State :=
  match s.drc.doors.get d with
  | none => s
  | some r =>
    if r.mode = .lockdown then s
    else if r.state = .secure ∨ r.state = .released then s.releaseDoor d
    else s

/-- R90: the contact of a swing door opens. -/
def State.contactOpens (s : State) (d : DoorId) (r : Door) : State :=
  match r.state with
  | .released =>
    (s.setDoor d (some { r with state := .opened, releaseTimer := none, heldTimer := r.config.fullHeld })).commitPassage
      d false
  | .secure => s.doorAlarm d { r with state := .forced } .forced
  | _ => s

/-- R92: the contact of a swing door closes. -/
def State.contactCloses (s : State) (d : DoorId) (r : Door) : State :=
  let closed := { r with state := .secure, heldTimer := none }
  match r.state with
  | .opened => s.setDoor d (some closed)
  | .held => (s.setDoor d (some closed)).doorReport d closed .closedAfterAlarm (some .held)
  | .forced => (s.setDoor d (some closed)).doorReport d closed .closedAfterAlarm (some .forced)
  | _ => s

/-- R94: a rotation pulse of a turnstile. -/
def State.rotationPulse (s : State) (d : DoorId) (r : Door) : State :=
  match r.state with
  | .released => (s.setDoor d (some { r with state := .secure, releaseTimer := none })).commitPassage d false
  | .secure => s.doorAlarm d r .forced
  | _ => s

/-- R80: an edge of the contact input of a door. -/
def State.contactEdge (s : State) (d : DoorId) (active : Bool) : State :=
  match s.drc.doors.get d with
  | none => s
  | some r =>
    match r.config.kind, active with
    | .swing, true => s.contactOpens d r
    | .swing, false => s.contactCloses d r
    | .turnstile, true => s.rotationPulse d r
    | .turnstile, false => s

/-- R80: whether a door names an input as its contact or its button. -/
def State.usesInput (s : State) (i : InputId) (d : DoorId) : Bool :=
  match s.drc.doors.get d with
  | none => false
  | some r => r.config.contact == i || r.config.button == some i

/-- R80: an edge of an input reaches a door that names it. -/
def State.doorEdge (i : InputId) (active : Bool) (s : State) (d : DoorId) : State :=
  if s.usesInput i d then
    if i.val < 16 then s.contactEdge d active
    else if active then s.pressButton d
    else s
  else s

/-- R80: an edge of the evacuation input: the doors resolve, and the bells start or end their evacuation ring. -/
def State.evacuationEdge (s : State) (active : Bool) : State :=
  let r := s.resolveAll
  if active then r.withBlc (r.blc.evacuate r.olc.settings.evacuationPattern) else r.withBlc r.blc.endEvacuation

/-- R80: an input event. -/
def State.inputEvent (s : State) (i : InputId) (active : Bool) : State :=
  if i = evacuationInput then s.evacuationEdge active
  else (List.finRange 16).foldl (State.doorEdge i active) s

/-! ### The input conditioner (5.1) -/

/-- R78: the accepted level takes the logical level, with an input event. -/
def State.acceptInput (s : State) (i : InputId) : State :=
  let r := s.drc.inputs.get i
  (s.setInput i { r with accepted := r.logical, change := none }).inputEvent i r.logical

/-- R78: in MAINS a difference begins a change in progress, and a return ends it. -/
def Input.watch (r : Input) : Input :=
  if r.logical = r.accepted then { r with change := none }
  else match r.change with
    | some _ => r
    | none => { r with change := some 0 }

/-- The filter time as elapsed time. -/
def Input.filter (r : Input) : Nat := Config.tensOfMs (r.filterTime / 10)

/-- R79: an input sampled in BATTERY: two samples that agree and differ from the accepted level are accepted. -/
def State.sampleInput (s : State) (i : InputId) : State :=
  let r := s.drc.inputs.get i
  let sample := r.logical
  if r.lastSample = some sample ∧ r.accepted ≠ sample then
    (s.setInput i { r with accepted := sample, lastSample := some sample }).inputEvent i sample
  else s.setInput i { r with lastSample := some sample }

/-- R79: every input is sampled. -/
def State.sampleAll (s : State) : State := (List.finRange 33).foldl State.sampleInput s

/-- R79: the conditioner changes to sampling. -/
def Drc.startSampling (d : Drc) : Drc :=
  { d with
    inputs := d.inputs.map fun i => { i with change := none, lastSample := none }
    sampleTimer := some Config.samplePeriod }

/-- R79: the conditioner returns to watching. -/
def Drc.startWatching (d : Drc) : Drc :=
  { d with inputs := d.inputs.map fun i => { i with lastSample := none }.watch, sampleTimer := none }

/-- R79, R101: the conditioner stops in LOW. DESIGN CHOICE (log 40): the last samples become absent with it; the manual
says so only of the return to MAINS and of the restarts. -/
def Drc.stopConditioner (d : Drc) : Drc :=
  { d with inputs := d.inputs.map fun i => { i with change := none, lastSample := none }, sampleTimer := none }

/-- R81: the accepted level is set from one reading, without an input event. -/
def Input.readOnce (i : Input) : Input := { i with accepted := i.logical, change := none, lastSample := none }

end Sys2Proof.Machine
end

