-- ==== Sys2Proof/Machine/Lines.lean ====
section
/-!
DEFINITION. The two serial lines: what the Gate Line Controller sends and opens on a free gate line (chapter 2, R24, R34
to R37), how a grant ends (R29), what the office link's transmitter begins (R173), and `settle`, which both lines do at
the end of every event that may have changed what they wait for.
-/

namespace Sys2Proof.Machine

open Sys2Proof

/-! ### The gate line -/

/-- The gate line with a frame being sent and a line state. -/
def Glc.send (g : Glc) (line : LineState) (f : GateFrame) : Glc := { g with line := line, sending := some f }

/-- R34: the pending probe of the lowest station id. -/
def Glc.nextProbe (g : Glc) : Option (StationId × StationConfig) :=
  (members g.pendingProbes).findSome? fun id => ((g.stations.get id).config).map fun c => (id, c)

/-- R37: the level a message is sent to; nothing when its station is unconfigured. -/
def Glc.messageLevel (g : Glc) (m : DisplayMessage) : Option (Option (Fin 15)) :=
  match m.target with
  | .all => some none
  | .station id => ((g.stations.get id).config).map fun c => some c.level

/-- R37: the display queue from its first message that can be sent, the ones before it removed. -/
def Glc.sendable (g : Glc) : List DisplayMessage → List DisplayMessage
  | [] => []
  | m :: rest => if (g.messageLevel m).isSome then m :: rest else Glc.sendable g rest

/-- R34, R37: the message at the head of the display queue is sent, if one can be. -/
def Glc.sendDisplay (g : Glc) : Glc :=
  match g.sendable g.displayQueue with
  | [] => { g with displayQueue := [] }
  | m :: rest =>
    { g with displayQueue := rest }.send .own (.display ((g.messageLevel m).join) m.text)

/-- R34: on a free line the GLC begins its next own frame: TIME, else a probe, else a message. -/
def Glc.sendOwn (g : Glc) (reading : Nat) (quality : ClockQuality) : Glc :=
  if g.timePending then { g with timePending := false }.send .own (.time reading quality)
  else match g.nextProbe with
    | some (id, c) =>
      { g with pendingProbes := takeOut g.pendingProbes id, probed := some id }.send .own (.probe c.level)
    | none => g.sendDisplay

/-- R24: whether a round opens. -/
def Glc.mayOpenRound (g : Glc) (spare : Nat) : Bool :=
  g.line == .free && g.attention && !g.timePending && g.pendingProbes == 0 && g.displayQueue.isEmpty
    && g.restTimer.isNone && decide (Config.grantThreshold ≤ spare)

/-- R24, R34: what the GLC does on a free line. -/
def Glc.weigh (g : Glc) (reading : Nat) (quality : ClockQuality) (spare : Nat) : Glc :=
  if g.line = .free ∧ g.sending = none then
    let g' := g.sendOwn reading quality
    if g'.mayOpenRound spare then { g' with line := .round } else g'
  else g

/-- R24, R34: the gate line is silent in LOW. -/
def State.weighGate (s : State) : State :=
  if s.isLow then s else s.withGlc (s.glc.weigh s.tbu.calendar s.tbu.quality s.sparePlaces)

/-- R29: the line becomes FREE at once or, while a frame is being sent, when its last byte has been sent. -/
def Glc.releaseLine (g : Glc) : Glc := if g.sending.isSome then g else { g with line := .free }

/-- R29: a station whose grant has ended. -/
def Station.enterHold (r : Station) : Station := { r with state := .hold }

/-- R38: a station whose probe timer has stopped. -/
def Station.stopProbe (r : Station) : Station := { r with probeTimer := none }

/-- R39: a configured station at a warm start. -/
def Station.warm (r : Station) : Station :=
  if r.config.isSome then { r with state := .idle, timeouts := 0, probeTimer := none } else r

/-- R29: a current grant of any station ends without a timeout: the station enters HOLD. -/
def Glc.endGrant (g : Glc) : Glc :=
  match g.grant with
  | none => g
  | some gr =>
    { g with grant := none, stations := g.stations.modify gr.station Station.enterHold }.releaseLine

/-- R38: the gate line falls silent: the grant, round and probe wait end, a frame being sent is cut off, timers stop. -/
def Glc.silence (g : Glc) : Glc :=
  let ended := { g with sending := none }.endGrant
  { ended with
    line := .free
    sending := none
    probed := none
    probeWait := none
    restTimer := none
    stations := ended.stations.map Station.stopProbe }

/-- R39: the Gate Line Controller's warm-start values. -/
def Glc.warm (g : Glc) : Glc :=
  { g with
    stations := g.stations.map Station.warm
    grant := none
    probed := none
    probeWait := none
    restTimer := none
    timePending := false
    pendingProbes := 0
    displayQueue := [] }.releaseLine

/-! ### The office link (R173) -/

/-- R173: the idle transmitter chooses the next frame while the ready wire is asserted: the reply in the slot, else,
with the pause flag clear, the head of the store. -/
def Olc.begin (o : Olc) (paused : Bool) (hasRecord : Bool) : Olc :=
  if o.transmitter = .idle ∧ o.ready = true then
    if o.slot.isSome then { o with transmitter := .reply }
    else if !paused && hasRecord then { o with transmitter := .report }
    else o
  else o

/-- R173, R183: the office link is silent in LOW. -/
def State.weighOffice (s : State) : State :=
  if s.isLow then s else s.withOlc (s.olc.begin s.rps.pause (!s.rps.records.isEmpty))

/-- What both lines do at the end of an event. -/
def State.settle (s : State) : State := s.weighGate.weighOffice

end Sys2Proof.Machine
end

