-- ==== Sys2Proof/Machine/Clock.lean ====
section
/-!
DEFINITION. The passing of time while no command or event waits: one crystal tick, and the timers that have run out.
-/

namespace Sys2Proof.Machine

open Sys2Proof

/-! ### What has run out -/

/-- Whether a timer is running with nothing left. -/
def ranOut : Option Nat → Bool
  | some 0 => true
  | _ => false

/-- R4: 100 ms have passed without a mains cycle. -/
def Tbu.lossDue (t : Tbu) : Bool := t.mainsWatch == .present && decide (Config.lossTime ≤ t.gapTime)

/-- R1, R4: the prescaler has reached the length of a second that the crystal ends. -/
def Tbu.secondDue (t : Tbu) : Bool :=
  match t.secondEnd with
  | .onCycle => false
  | .onTick length => decide (length ≤ t.prescaler)

/-- R15: a low-battery sample falls due. -/
def Tbu.sampleDue (t : Tbu) : Bool := t.supply == .battery && ranOut t.lowBatteryTimer

/-- The events of the Time Base Unit that are due. -/
def Tbu.due (t : Tbu) : List Instr :=
  (if t.lossDue then [.mainsLoss] else []) ++ (if t.secondDue then [.crystalSecondEnd] else [])
    ++ (if t.sampleDue then [.lowBatterySample t.lowBatteryInput] else [])

/-- Whether the grant timer has run out. -/
def Glc.grantDue (g : Glc) : Bool :=
  match g.grant with
  | none => false
  | some gr => ranOut gr.timer

/-- The events of the Gate Line Controller that are due. -/
def Glc.due (g : Glc) : List Instr :=
  (if g.grantDue then [.grantTimeout] else [])
    ++ (if g.line == .probeWait && ranOut g.probeWait then [.probeWaitExpiry] else [])
    ++ (if ranOut g.restTimer then [.restTimerExpiry] else [])
    ++ ((List.finRange 15).filter fun i => ranOut (g.stations.get i).probeTimer).map .probeTimerExpiry

/-- R78: whether an input's change in progress has lasted its filter time. -/
def Input.filterDue (r : Input) : Bool :=
  match r.change with
  | none => false
  | some t => decide (r.filter ≤ t)

/-- Whether a door's release timer has run out. -/
def Door.releaseDue (r : Door) : Bool := r.state == .released && ranOut r.releaseTimer

/-- Whether a door's held timer has run out. -/
def Door.heldDue (r : Door) : Bool := r.state == .opened && ranOut r.heldTimer

/-- The doors that meet a test. -/
def Drc.doorsWith (d : Drc) (p : Door → Bool) : List DoorId :=
  (List.finRange 16).filter fun i => ((d.doors.get i).map p).getD false

/-- The events of the Door Controller that are due. -/
def Drc.due (d : Drc) (supply : Supply) : List Instr :=
  (if supply = .mains then
      ((List.finRange 33).filter fun i => (d.inputs.get i).filterDue).map Instr.filterTimeExpiry
    else [])
    ++ (if supply == .battery && ranOut d.sampleTimer then [.inputSample] else [])
    ++ (d.doorsWith Door.releaseDue).map .releaseTimerExpiry
    ++ (d.doorsWith Door.heldDue).map .heldTimerExpiry
    ++ (if ranOut d.pulseTimer then [.pulseTimerExpiry] else [])

/-- The events of the Bell Controller that are due. -/
def Blc.due (b : Blc) : List Instr :=
  ((List.finRange 8).filter fun o => ((b.outputs.get o).current.map fun c => c.timer == 0).getD false).map
    .phaseTimerExpiry

/-- R176: a command that waits is due when the slot is empty. -/
def Olc.due (o : Olc) : List Instr :=
  if o.assembly.isSome && o.slot.isNone then [.commandTakenFromAssembly] else []

/-- The events that are due, in the order in which an idle part takes them (log 1); in LOW only those of the Time Base
Unit, and none while it is stopped. -/
def State.dueEvents (s : State) : List Instr :=
  (if s.tbu.running then s.tbu.due else [])
    ++ (if s.isLow then [] else s.olc.due ++ s.glc.due ++ s.drc.due s.tbu.supply ++ s.blc.due)

/-! ### One crystal tick -/

/-- A running timer after one tick. -/
def tickTimer (t : Option Nat) : Option Nat := t.map fun n => n - Config.unitsPerTick

/-- R1, R4, R15: the counters of the Time Base Unit after one tick. -/
def Tbu.tick (t : Tbu) : Tbu :=
  { t with
    prescaler := t.prescaler + 1
    gapTime := t.gapTime + Config.unitsPerTick
    lowBatteryTimer := tickTimer t.lowBatteryTimer }

/-- The timers of the Gate Line Controller after one tick. -/
def Glc.tick (g : Glc) : Glc :=
  { g with
    grant := g.grant.map fun gr => { gr with timer := tickTimer gr.timer }
    probeWait := tickTimer g.probeWait
    restTimer := tickTimer g.restTimer
    stations := g.stations.map fun r => { r with probeTimer := tickTimer r.probeTimer } }

/-- An input after one tick. -/
def Input.tick (r : Input) : Input := { r with change := r.change.map fun t => t + Config.unitsPerTick }

/-- A door after one tick. -/
def Door.tick (r : Door) : Door :=
  { r with releaseTimer := tickTimer r.releaseTimer, heldTimer := tickTimer r.heldTimer }

/-- The timers of the Door Controller after one tick. -/
def Drc.tick (d : Drc) : Drc :=
  { d with
    inputs := d.inputs.map Input.tick
    doors := d.doors.map fun r => r.map Door.tick
    pulseTimer := tickTimer d.pulseTimer
    sampleTimer := tickTimer d.sampleTimer }

/-- An output after one tick. -/
def BellOutput.tick (o : BellOutput) : BellOutput :=
  { o with current := o.current.map fun c => { c with timer := c.timer - Config.unitsPerTick } }

/-- The phase timers after one tick. -/
def Blc.tick (b : Blc) : Blc := { b with outputs := b.outputs.map BellOutput.tick }

/-- One crystal tick: in LOW only the Time Base Unit counts, and nothing while it is stopped. -/
def State.tick (s : State) : State :=
  if s.tbu.running then
    let s1 := s.withTbu s.tbu.tick
    if s.isLow then s1
    else ((s1.withGlc s1.glc.tick).withDrc s1.drc.tick).withBlc s1.blc.tick
  else s

end Sys2Proof.Machine
end

