-- ==== Sys2Proof/Machine/Judging.lean ====
section
/-!
DEFINITION. The twelve checks of a punch (chapter 4, 4.1 to 4.3, and R50, R51).
-/

namespace Sys2Proof.Machine

open Sys2Proof

/-- R55: a punch as it is judged. -/
structure Punch where
  station : StationId
  config : StationConfig
  badge : Nat
  age : Nat
  arrival : Nat
  time : Nat
  late : Bool
  stale : Bool
deriving DecidableEq, Repr

/-- What judging gives back: the outcome code, the release indicator and the state. -/
structure Verdict where
  code : ReplyCode
  release : Bool
  state : State
deriving DecidableEq, Repr

/-- R55: the punch of a frame that arrives at an instant. -/
def State.punchOf (s : State) (station : StationId) (c : StationConfig) (badge age : Nat) : Punch :=
  ⟨station, c, badge, age, s.tbu.calendar, punchTime s.tbu.calendar age, isLate age,
    isStale s.olc.settings.staleLimit age⟩

/-- R56: the direction at a station, from its mode and the badge's presence. -/
def directionAt (mode : StationMode) (p : Presence) : Direction :=
  match mode with
  | .entry => .entry
  | .exit => .exit
  | .access => .access
  | .toggle => if p = .inside then .exit else .entry

/-- R56: the direction of an unknown badge, unresolved at a TOGGLE station. -/
def unresolvedDirection : StationMode → Option Direction
  | .entry => some .entry
  | .exit => some .exit
  | .access => some .access
  | .toggle => none

/-- R58: a refusal with its PUNCH report. -/
def State.refuse (s : State) (p : Punch) (dir : Option Direction) (code : ReplyCode) : State :=
  s.store false (.punch ⟨p.badge, p.station, p.config.door, dir, .refused, some code, ageFlags p.late p.stale, p.age,
    p.time, p.arrival, p.arrival, p.arrival⟩)

/-- The verdict of a refusal. -/
def refused (s : State) (p : Punch) (dir : Option Direction) (code : ReplyCode) : Verdict :=
  ⟨code, false, s.refuse p dir code⟩

/-- R61: whether a punch is a duplicate. -/
def isDuplicate (set : Settings) (b : Badge) (p : Punch) : Bool :=
  match b.lastPunch with
  | none => false
  | some l => l.station == p.station && decide (l.time ≤ p.time) && decide (p.time - l.time < set.duplicateWindow)

/-- R57, R61: the release indicator of ALREADY: the badge's passage is at this station's door. -/
def State.passageHere (s : State) (p : Punch) : Bool :=
  match s.passageOf p.badge with
  | none => false
  | some q => p.config.door == some q.door

/-- R50: the last accepted punch a conflict is found with. -/
def State.conflictWith (s : State) (b : Badge) (p : Punch) : Option LastPunch :=
  match b.lastPunch with
  | none => none
  | some l =>
    match s.stationConfig l.station with
    | none => none
    | some c =>
      if l.station ≠ p.station ∧ c.zone = p.config.zone ∧ l.time ≤ p.time
          ∧ p.time - l.time < s.olc.settings.conflictWindow then some l
      else none

/-- R51: two station ids join the conflict set. -/
def State.joinConflicts (s : State) (a b : StationId) : State :=
  s.withPev { s.pev with conflictSet := addTo (addTo s.pev.conflictSet a) b }

/-- R51, R53, R62: a CONFLICT refusal: the PUNCH report, then, when the set was empty, a CONFLICT report and the alarm
output; the two ids join the set. -/
def State.refuseConflict (s : State) (p : Punch) (dir : Direction) (l : LastPunch) : State :=
  let s1 := (s.refuse p (some dir) .conflict).joinConflicts p.station l.station
  if s.pev.conflictSet = 0 then
    (s1.nonPunch .conflict (.conflict ⟨p.badge, p.station, l.station, p.config.zone, p.time, l.time,
      s.tbu.calendar⟩)).fireAlarm
  else s1

/-- R63: the door of a station, if it is configured in the door table. -/
def State.stationDoor (s : State) (c : StationConfig) : Option (DoorId × Door) :=
  match c.door with
  | none => none
  | some d => (s.drc.doors.get d).map fun r => (d, r)

/-- R64: whether the passback check refuses. -/
def passbackRefuses (dir : Direction) (p : Presence) : Bool :=
  match dir, p with
  | .entry, .inside => true
  | .exit, .outside => true
  | .access, .outside => true
  | _, _ => false

/-- R65, R113: the captured instance of a punch. -/
def State.capture (s : State) (b : Badge) (dir : Direction) (time : Nat) : Captured :=
  if dir = .entry ∧ b.flags.noPay = false then
    match s.sps.matchShift b.crew (plantMinute time) with
    | some i => .shift i
    | none => .unscheduled
  else .none

/-- R65: whether the entry window refuses. -/
def outOfWindow (b : Badge) (c : Captured) : Bool := c == .unscheduled && !b.flags.anytime

/-- R66: whether a punch would release its door under check 12. -/
def wouldRelease (p : Punch) (door : Option (DoorId × Door)) : Bool :=
  match door with
  | none => false
  | some (_, r) => r.mode != .free && !p.stale

/-- R66: whether a door is busy. -/
def State.doorBusy (s : State) (d : DoorId) (r : Door) : Bool :=
  (s.passageAt d).isSome || r.state == .opened || r.state == .held || r.state == .forced

/-- R48: the entry after an accepted punch that commits at once. -/
def Badge.acceptAtOnce (b : Badge) (l : LastPunch) : Badge := { b with lastPunch := some l }

/-- R48: the entry after a punch accepted into a pending passage. -/
def Badge.acceptPending (b : Badge) (l : LastPunch) : Badge :=
  { b with savedPunch := some b.lastPunch, lastPunch := some l }

/-- R67, R71: an immediate commit, with FREE_PASS at a door in mode FREE. -/
def State.commitAtOnce (s : State) (p : Punch) (b : Badge) (dir : Direction) (c : Captured)
    (door : Option (DoorId × Door)) : State :=
  let atFree := match door with
    | none => false
    | some (_, r) => r.mode == .free
  (s.updateBadge b.number fun e => e.acceptAtOnce ⟨p.station, p.time⟩).commitWork
    ⟨b.number, p.station, p.config.door, dir, p.time, p.age, p.arrival, c, p.arrival,
      { ageFlags p.late p.stale with freePass := atFree }⟩

/-- R68: a pending passage is created and its door released. -/
def State.createPassage (s : State) (p : Punch) (b : Badge) (dir : Direction) (c : Captured) (d : DoorId) : State :=
  let passage : Passage := ⟨d, b.number, p.station, dir, p.time, p.age, p.arrival, p.late, c, s.tbu.calendar⟩
  ((s.withPev { s.pev with passages := insertPassage passage s.pev.passages }).updateBadge b.number
    fun e => e.acceptPending ⟨p.station, p.time⟩).releaseDoor d

/-- R66, R67: checks 11 and 12. -/
def State.accept (s : State) (p : Punch) (b : Badge) (dir : Direction) (c : Captured)
    (door : Option (DoorId × Door)) : Verdict :=
  match door with
  | some (d, r) =>
    if wouldRelease p door then
      if s.doorBusy d r then ⟨.wait, false, s⟩
      else if (s.passageOf b.number).isSome then refused s p (some dir) .pending
      else ⟨.ok, true, s.createPassage p b dir c d⟩
    else if (s.passageOf b.number).isSome then refused s p (some dir) .pending
    else ⟨.ok, false, s.commitAtOnce p b dir c door⟩
  | none =>
    if (s.passageOf b.number).isSome then refused s p (some dir) .pending
    else ⟨.ok, false, s.commitAtOnce p b dir c none⟩

/-- R63: what checks 7 and 8 refuse with. -/
def doorRefusal (b : Badge) (dir : Direction) : Option (DoorId × Door) → Option ReplyCode
  | none => none
  | some (d, r) =>
    if !inSet b.doors d then some .notPermitted
    else if r.mode = .lockdown then some .lockdown
    else if r.mode = .locked ∧ dir ≠ .exit then some .locked
    else none

/-- R63 to R65: checks 7 to 12. -/
def State.checkDoorOn (s : State) (p : Punch) (b : Badge) (dir : Direction) : Verdict :=
  let door := s.stationDoor p.config
  match doorRefusal b dir door with
  | some code => refused s p (some dir) code
  | none =>
    if !b.flags.passbackExempt && passbackRefuses dir b.presence then refused s p (some dir) .passback
    else
      let c := s.capture b dir p.time
      if outOfWindow b c then refused s p (some dir) .outOfWindow
      else s.accept p b dir c door

/-- R60 to R62: checks 4 to 12, the badge being found. -/
def State.checkBadge (s : State) (p : Punch) (b : Badge) : Verdict :=
  let dir := directionAt p.config.mode b.presence
  if b.flags.blocked then refused s p (some dir) .blocked
  else if isDuplicate s.olc.settings b p then ⟨.already, s.passageHere p, s⟩
  else
    match s.conflictWith b p with
    | some l => ⟨.conflict, false, s.refuseConflict p dir l⟩
    | none => s.checkDoorOn p b dir

/-- R59, R60: the twelve checks. -/
def State.judge (s : State) (p : Punch) : Verdict :=
  if s.tbu.calendarValid = false then ⟨.clockUnset, false, s⟩
  else if s.sparePlaces < 4 then ⟨.wait, false, s⟩
  else
    match s.findBadge p.badge with
    | none => refused s p (unresolvedDirection p.config.mode) .unknownBadge
    | some b => s.checkBadge p b

end Sys2Proof.Machine
end

