-- ==== Sys2Proof/Machine/Restarts.lean ====
section
/-!
DEFINITION. Minute boundary events (R12), changes of the supply state (R14, R15) and the cold and warm starts of every
block (R16 to R18, R39, R54, R77, R101, R102, R167, R182 to R184).
-/

namespace Sys2Proof.Machine

open Sys2Proof

/-! ### Minute boundary events -/

/-- R12: the cause of a minute boundary event. -/
inductive MinuteCause where
  | natural
  | step
  | restart
deriving DecidableEq, Repr

/-- R12: what a minute boundary event carries; the old minute comes with the signed step. -/
structure MinuteEvent where
  cause : MinuteCause
  minute : Nat
  old : Option (Nat × Int)
deriving DecidableEq, Repr

/-- R2, R12: the TBU's own part: the trim in effect takes the setting. -/
def Tbu.minuteEvent (t : Tbu) (e : MinuteEvent) : Tbu :=
  { t with trimInEffect := t.trimSetting, lastMinute := e.minute }

/-- R152, R156: the Bell Controller's part. -/
def State.bellMinute (s : State) (e : MinuteEvent) : State :=
  if s.tbu.calendarValid then
    s.withBlc (s.blc.evaluate s.sps s.onBattery (minutesToEvaluate s.olc.settings.catchUpLimit e.minute e.old))
  else s

/-- R138, R86: the Pay Calculator's walk and the Door Controller's resolutions, the walk first. -/
def State.closeThenResolve (s : State) (now : Nat) : State := (s.autoClose now).resolveAll

/-- R138, R86: the same two reactions, the resolutions first. -/
def State.resolveThenClose (s : State) (now : Nat) : State := s.resolveAll.autoClose now

/-- R12: the Pay Calculator and the Door Controller react; while a passage is pending their order is a free choice
(log 9), and with none pending it makes no difference. -/
def State.payAndDoors (s : State) (now : Nat) : State :=
  if s.pev.passages.isEmpty then s.closeThenResolve now
  else if s.draw.1 then s.draw.2.closeThenResolve now
  else s.draw.2.resolveThenClose now

/-- R35: the Gate Line Controller's part. -/
def Glc.minuteEvent (g : Glc) : Glc := { g with timePending := true }

/-- R12: a minute boundary event; in LOW it does not reach the other blocks. -/
def State.minuteEvent (s : State) (e : MinuteEvent) : State :=
  let s1 := s.withTbu (s.tbu.minuteEvent e)
  if s1.isLow then s1
  else
    let s2 := (s1.bellMinute e).payAndDoors e.minute
    s2.withGlc s2.glc.minuteEvent

/-- R12: a RESTART event for the current plant minute. -/
def State.restartEvent (s : State) : State := s.minuteEvent ⟨.restart, s.minute, none⟩

/-! ### Time source and supply -/

/-- R6: the time source state brought up to date, without its report. -/
def Tbu.refreshSource (t : Tbu) : Tbu := { t with timeSource := timeSourceOf t.sourceInEffect t.mainsWatch }

/-- R6: a TIME_SOURCE report when the time source state has changed. -/
def State.reportSource (s : State) (before : TimeSource) : State :=
  if s.tbu.timeSource = before then s else s.supplyReport .timeSource (some before)

/-- R4, R14, R79, R101, R166: a mains loss declared in MAINS, with what the other blocks do when told. -/
def State.enterBattery (s : State) : State :=
  let t := { s.tbu with
    supply := .battery, lowBatterySamples := [], lowBatteryTimer := some Config.samplePeriod }.refreshSource
  let s1 := ((s.withTbu t).supplyReport .mainsLost none).reportSource s.tbu.timeSource
  let s2 := (s1.withDrc s1.drc.startSampling).resolveAll
  s2.withBlc s2.blc.suppress

/-- R14, R79, R101: mains return qualified in BATTERY, with what the other blocks do when told (its place beside the minute
boundary event of the same boundary: log 42). -/
def State.restoreMains (s : State) : State :=
  let t := { s.tbu with supply := .mains, lowBatterySamples := [], lowBatteryTimer := none }.refreshSource
  let s1 := ((s.withTbu t).supplyReport .mainsRestored none).reportSource s.tbu.timeSource
  (s1.withDrc s1.drc.startWatching).resolveAll

/-- R101: the Door Controller in LOW; the release and held timers keep their remaining time and do not run. -/
def Drc.enterLow (d : Drc) : Drc := { d.stopConditioner with alarm := .off, pulseTimer := none }

/-- R183: the office link falls silent. -/
def Olc.silence (o : Olc) : Olc := { o with assembly := none, slot := none, transmitter := .idle }

/-- R15, R38, R101, R166, R183: the blocks but the TBU in quiescence: both lines silent, every output inactive, inputs not
watched. -/
def State.quiesce (s : State) : State :=
  (((s.withGlc s.glc.silence).withDrc s.drc.enterLow).withBlc s.blc.silence).withOlc s.olc.silence

/-- R15: a low-battery finding. -/
def State.enterLow (s : State) : State :=
  let t := { s.tbu with supply := .low, pendingTime := none, lowBatteryTimer := none }
  ((s.withTbu t).supplyReport .lowBattery none).quiesce

/-! ### Warm starts -/

/-- R81, R101: the conditioner reads every input once; every door timer stops; the alarm is OFF. -/
def Drc.warm (d : Drc) : Drc :=
  { d with inputs := d.inputs.map Input.readOnce, alarm := .off, pulseTimer := none }

/-- R101: every configured door is resolved and its state worked out afresh. -/
def State.freshDoors (s : State) : State :=
  s.withDrc { s.drc with doors := s.drc.doors.map fun r => r.map s.freshDoor }

/-- R167: every ring ends; an active evacuation input gives an evacuation request. -/
def State.warmBells (s : State) : State :=
  if s.accepted evacuationInput then s.withBlc (s.blc.silence.evacuate s.olc.settings.evacuationPattern)
  else s.withBlc s.blc.silence

/-- R182, R183: within the OLC and the RPS, the waiting command is discarded and the pause flag is clear. -/
def State.warmOffice (s : State) : State :=
  (s.withOlc { s.olc with assembly := none }).withRps { s.rps with pause := false }

/-- The warm-start values of the blocks but the TBU (R39, R101, R167, R182). -/
def State.warmBlocks (s : State) : State :=
  let s1 := (s.withGlc s.glc.warm).withDrc s.drc.warm
  s1.freshDoors.warmBells.warmOffice

/-- R54: the conflict set is emptied at every warm start. -/
def State.clearConflicts (s : State) : State := s.withPev { s.pev with conflictSet := 0 }

/-- R18, R182: the warm start of a RESET. -/
def State.warmStart (s : State) : State :=
  (s.cancelAll.clearConflicts.supplyReport .warmStart none).warmBlocks.restartEvent

/-- R16, R18: the TBU at the warm start that ends LOW. -/
def Tbu.warmFromLow (t : Tbu) : Tbu :=
  { t with
    supply := .mains
    sourceInEffect := t.sourceSetting
    frequencyInEffect := t.frequencySetting
    trimInEffect := t.trimSetting
    lowBatterySamples := []
    lowBatteryTimer := none }.refreshSource

/-- R16, R77: the warm start that ends LOW. -/
def State.warmStartFromLow (s : State) : State :=
  let before := s.tbu.timeSource
  let s1 := s.cancelAll.clearConflicts
  let s2 := ((s1.withTbu s1.tbu.warmFromLow).supplyReport .warmStart none).reportSource before
  s2.warmBlocks.restartEvent

/-! ### Cold start -/

/-- R17, R40, R54, R77, R102, R115, R148, R167, R184: the cold start; the wires stay as they stand, and the accepted
level of every input is set from one reading. -/
def State.coldStart (s : State) : State :=
  let cold := { State.reset with
    tbu := { Tbu.cold with lowBatteryInput := s.tbu.lowBatteryInput }
    glc := { Glc.cold with attention := s.glc.attention }
    drc := { Drc.cold with inputs := s.drc.inputs.map fun (i : Input) => Input.cold i.closed }
    olc := { Olc.cold with ready := s.olc.ready }
    pending := s.pending
    draws := s.draws }
  cold.warmBells

end Sys2Proof.Machine
end

