-- ==== Sys2Proof/Machine/Seconds.lean ====
section
/-!
DEFINITION. Second boundaries (chapter 1: R1 to R12, R16).
-/

namespace Sys2Proof.Machine

open Sys2Proof

/-- What one second boundary does to the calendar: the TBU after it, the minute boundary event it calls for and the TIME
report it makes. -/
structure CalendarWork where
  tbu : Tbu
  event : Option MinuteEvent
  report : Option TimeReport
deriving DecidableEq, Repr

/-- R8, R9: the reading the advance gives. -/
def advancedReading (calendar : Nat) : Nat := if Config.lastReading ≤ calendar then 0 else calendar + 1

/-- R11, R12: a pending time replaces the advance. -/
def Tbu.applyTime (t : Tbu) (new : Nat) : CalendarWork :=
  let advanced := advancedReading t.calendar
  let step : Int := (new : Int) - (advanced : Int)
  { tbu := { t with calendar := new, calendarValid := true, pendingTime := none }
    event := some ⟨.step, plantMinute new,
      if 0 < step ∧ t.calendarValid = true then some (t.lastMinute, step) else none⟩
    report := some ⟨.setTime, advanced, new, step, t.calendarValid, new⟩ }

/-- R9: the calendar expires to the epoch. -/
def Tbu.expire (t : Tbu) : CalendarWork :=
  { tbu := { t with calendar := 0, calendarValid := false }
    event := some ⟨.step, 0, none⟩
    report := some ⟨.expiry, Config.lastReading, 0, -(Config.lastReading : Int), t.calendarValid, 0⟩ }

/-- R8, R9, R11, R12: the calendar at a second boundary. -/
def Tbu.advance (t : Tbu) : CalendarWork :=
  match t.pendingTime with
  | some new => t.applyTime new
  | none =>
    if Config.lastReading ≤ t.calendar then t.expire
    else
      { tbu := { t with calendar := t.calendar + 1 }
        event := if (t.calendar + 1) % 60 = 0 then some ⟨.natural, plantMinute (t.calendar + 1), none⟩ else none
        report := none }

/-- R5: the second just ended is judged when it began while the watch was ABSENT. -/
def Tbu.judged (t : Tbu) : Bool := t.secondBeganAbsent && decide (t.mainsWatch = MainsWatch.absent)

/-- R5: the second just ended is good. -/
def Tbu.good (t : Tbu) : Bool := t.frequencyInEffect.goodSecond t.cycleCounter

/-- R5: mains return is qualified at the end of the second. -/
def Tbu.qualifies (t : Tbu) : Bool := t.judged && t.good && decide (30 ≤ t.qualification + 1)

/-- R5: the qualification count after the second. -/
def Tbu.countAfter (t : Tbu) : Nat :=
  if t.qualifies then 0
  else if t.judged then (if t.good then t.qualification + 1 else 0)
  else t.qualification

/-- R5, R7, R8: the counters restart, the source and frequency settings are applied, the second is judged. -/
def Tbu.boundary (t : Tbu) : Tbu :=
  let c := t.advance.tbu
  { c with
    prescaler := 0
    cycleCounter := 0
    sourceInEffect := t.sourceSetting
    frequencyInEffect := t.frequencySetting
    qualification := t.countAfter
    mainsWatch := if t.qualifies then .present else t.mainsWatch
    gapTime := if t.qualifies then 0 else t.gapTime }

/-- R1: the crystal-driven second begins: the trim is accumulated, and the length of the second follows. -/
def Tbu.accumulate (t : Tbu) : Tbu :=
  let sum := t.trimAccumulator + t.trimInEffect * 32768
  let k := Int.tdiv sum Config.trimDivisor
  { t with
    trimAccumulator := sum - k * Config.trimDivisor
    secondEnd := .onTick ((Config.ticksPerSecond : Int) - k).toNat }

/-- R1, R3, R5: the next second begins. -/
def Tbu.startSecond (t : Tbu) : Tbu :=
  let b := { t with secondBeganAbsent := decide (t.mainsWatch = MainsWatch.absent) }
  if b.timeSource = .mainsLocked then { b with secondEnd := .onCycle } else b.accumulate

/-- R19: the TIME report of a boundary. -/
def State.timeReport (s : State) (r : Option TimeReport) : State :=
  match r with
  | none => s
  | some t => s.nonPunch .time (.time t)

/-- R12: the minute boundary event of a boundary, if it calls for one. -/
def State.minuteEvent? (s : State) (e : Option MinuteEvent) : State :=
  match e with
  | none => s
  | some m => s.minuteEvent m

/-- R6, R7: the time source state follows the settings just applied. -/
def State.refreshSource (s : State) : State := (s.withTbu s.tbu.refreshSource).reportSource s.tbu.timeSource

/-- R14, R16: what a qualification leads to in each supply state; the warm or cold start that ends LOW raises its own
RESTART event in place of the boundary's. DESIGN CHOICE (log 42): in BATTERY, where the boundary raises a minute boundary
event too, the change of supply state and what the other blocks do when told of it, the doors' resolutions among them, come
before that event and its walk. -/
def State.mainsReturn (s : State) (e : Option MinuteEvent) : State :=
  match s.tbu.supply with
  | .battery => s.restoreMains.minuteEvent? e
  | .low => if s.tbu.backupIntact then s.warmStartFromLow else s.coldStart
  | .mains => s.refreshSource.minuteEvent? e

/-- R8: a second boundary. -/
def State.secondBoundary (s : State) : State :=
  let work := s.tbu.advance
  let s1 := (s.withTbu s.tbu.boundary).timeReport work.report
  let s2 := if s.tbu.qualifies then s1.mainsReturn work.event else s1.refreshSource.minuteEvent? work.event
  s2.withTbu s2.tbu.startSecond

end Sys2Proof.Machine
end

