-- ==== Sys2Proof/Machine/Answers.lean ====
section
/-!
DEFINITION. How the Office Link Controller receives a command, takes it and answers it (R176, R177).
-/

namespace Sys2Proof.Machine

open Sys2Proof

/-- What one command or event answers. -/
abbrev Result := Host.Outcome State Fault Refusal

/-- What the owning block gives for a command: the state after it, the status and the result fields (R176). -/
structure Answered where
  state : State
  status : Status
  result : ReplyResult
deriving DecidableEq, Repr

/-- The command was carried out. -/
def done (s : State) (r : ReplyResult) : Answered := ⟨s, .ok, r⟩

/-- The command was refused, and changes nothing (R177). -/
def denied (s : State) (st : Status) : Answered := ⟨s, st, .none⟩

/-- A value that a range check gives, or BAD_ARG. -/
def withChecked {α : Type} (s : State) (checked : Option α) (f : α → Answered) : Answered :=
  match checked with
  | none => denied s .badArg
  | some a => f a

/-- R177: the fields of a payload, or BAD_ARG for one that is malformed. -/
def withFields {α : Type} (s : State) (p : Payload α) (f : α → Answered) : Answered :=
  match p with
  | .malformed => denied s .badArg
  | .fields a => f a

/-- R176, R177: a command is taken: the reply is placed in the slot, and both lines go on. -/
def Answered.reply (a : Answered) (kind : Nat) : State :=
  (a.state.withOlc { a.state.olc with slot := some ⟨kind, a.status, a.result⟩ }).settle

/-- R175, R176: a command is complete: it is discarded in LOW or while a command waits, it waits while the slot is full,
and otherwise it is taken. A command complete while another waits also began while it waited, since frames follow one
another on the line; a frame that began while one waited and ends after that one was taken comes as
OFFICE_FRAME_DISCARDED (State.officeFrame, log 41). -/
def State.receive (s : State) (c : Instr) (taken : State) : State :=
  if s.isLow then s
  else if s.olc.assembly.isSome then s
  else if s.olc.slot.isSome then s.withOlc { s.olc with assembly := some c }
  else taken

end Sys2Proof.Machine
end

