-- ==== Sys2Proof/Machine/Badges.lean ====
section
/-!
DEFINITION. The commands of the Badge Table and of the conflict set (chapter 3).
-/

namespace Sys2Proof.Machine

open Sys2Proof

/-! ### BADGE_PUT (R42, R43) -/

/-- R43: the entry with its four configuration fields replaced. -/
def Badge.reconfigure (b : Badge) (c : BadgeConfig) : Badge :=
  { b with crew := c.crew, payClass := c.payClass, doors := c.doors, flags := c.flags }

/-- R43: whether a replace would change the crew, the pay class or the NO_PAY flag. -/
def Badge.changesPay (b : Badge) (c : BadgeConfig) : Bool :=
  b.crew != c.crew || b.payClass != c.payClass || b.flags.noPay != c.flags.noPay

/-- R43: the entry is tied by an open record or a pending passage. -/
def State.tied (s : State) (b : Badge) : Bool := b.record.isSome || (s.passageOf b.number).isSome

/-- R43: whether a replace is refused with BUSY. -/
def State.replaceBusy (s : State) (b : Badge) (c : BadgeConfig) : Bool :=
  (b.changesPay c && s.tied b) || (b.flags.noPay && !c.flags.noPay && b.presence == .inside)

/-- R42: a new entry; with a closed block it has closed totals of zero. -/
def newBadge (c : BadgeConfig) (closedBlock : Bool) : Badge where
  number := c.number
  crew := c.crew
  payClass := c.payClass
  doors := c.doors
  flags := c.flags
  presence := .outside
  lastPunch := none
  savedPunch := none
  record := none
  current := Totals.zero
  carry := 0
  closed := if closedBlock then some Totals.zero else none

/-- R42, R43: checks 2 to 4 of BADGE_PUT. -/
def State.putBadge (s : State) (c : BadgeConfig) : Answered :=
  match s.findBadge c.number with
  | some b =>
    if s.replaceBusy b c then denied s .busy
    else done (s.updateBadge c.number fun e => e.reconfigure c) .none
  | none =>
    if Config.badgeCapacity ≤ s.btb.entries.length then denied s .tableFull
    else
      done (s.withBtb { s.btb with
        entries := insertBadge (newBadge c s.btb.closedBlock.isSome) s.btb.entries }) .none

/-- BADGE_PUT's work (R42, R43). -/
def actBadgePut (s : State) (a : BadgePutArgs) : Answered := withChecked s (checkBadgePut a) s.putBadge

/-- BADGE_PUT taken. -/
def takeBadgePut (p : Payload BadgePutArgs) (s : State) : State := (withFields s p (actBadgePut s)).reply 0x06

/-- BADGE_PUT (R42, R43). -/
def execBadgePut (p : Payload BadgePutArgs) (s : State) : Result := .next (s.receive (.badgePut p) (takeBadgePut p s))

/-! ### BADGE_DROP (R44) -/

/-- R44: whether an entry is held against a drop. -/
def State.dropBusy (s : State) (b : Badge) : Bool :=
  s.tied b || b.current.nonZero || (match b.closed with
    | some t => t.nonZero
    | none => false)

/-- R41, R44: the entry is removed. -/
def State.removeBadge (s : State) (number : Nat) : State :=
  s.withBtb { s.btb with entries := s.btb.entries.filter fun b => b.number != number }

/-- BADGE_DROP's work (R44). -/
def actBadgeDrop (s : State) (badge : Nat) : Answered :=
  withChecked s (badgeNumber? badge) fun n =>
    match s.findBadge n with
    | none => denied s .notFound
    | some b => if s.dropBusy b then denied s .busy else done (s.removeBadge n) .none

/-- BADGE_DROP taken. -/
def takeBadgeDrop (p : Payload Nat) (s : State) : State := (withFields s p (actBadgeDrop s)).reply 0x07

/-- BADGE_DROP (R44). -/
def execBadgeDrop (p : Payload Nat) (s : State) : Result := .next (s.receive (.badgeDrop p) (takeBadgeDrop p s))

/-! ### BADGE_GET (R45) -/

/-- R45, R145: the entry a selector names. -/
def State.select (s : State) (sel : Selector) (n : Nat) : Option Badge :=
  match sel with
  | .exact => s.findBadge n
  | .next => s.nextBadge n

/-- BADGE_GET's work (R45). -/
def actBadgeGet (s : State) (a : BadgeGetArgs) : Answered :=
  withChecked s (checkBadgeGet a) fun (sel, n) =>
    match s.select sel n with
    | none => denied s .notFound
    | some b => done s (.badge b ((s.passageOf b.number).map fun p => p.door))

/-- BADGE_GET taken. -/
def takeBadgeGet (p : Payload BadgeGetArgs) (s : State) : State := (withFields s p (actBadgeGet s)).reply 0x08

/-- BADGE_GET (R45). -/
def execBadgeGet (p : Payload BadgeGetArgs) (s : State) : Result := .next (s.receive (.badgeGet p) (takeBadgeGet p s))

/-! ### PRESENCE_SET (R47) -/

/-- R47: checks 2 to 4 of PRESENCE_SET. -/
def State.putPresence (s : State) (n : Nat) (p : Presence) : Answered :=
  match s.findBadge n with
  | none => denied s .notFound
  | some b =>
    if s.tied b then denied s .busy
    else if p = .inside ∧ b.flags.noPay = false then denied s .badArg
    else done (s.updateBadge n fun e => { e with presence := p }) .none

/-- PRESENCE_SET's work (R47). -/
def actPresenceSet (s : State) (a : PresenceSetArgs) : Answered :=
  withChecked s (checkPresenceSet a) fun (n, p) => s.putPresence n p

/-- PRESENCE_SET taken. -/
def takePresenceSet (p : Payload PresenceSetArgs) (s : State) : State :=
  (withFields s p (actPresenceSet s)).reply 0x09

/-- PRESENCE_SET (R47). -/
def execPresenceSet (p : Payload PresenceSetArgs) (s : State) : Result :=
  .next (s.receive (.presenceSet p) (takePresenceSet p s))

/-! ### CONFLICT_READ (R52) -/

/-- CONFLICT_READ's work (R52): the members in ascending order; the set becomes empty. -/
def actConflictRead (s : State) (_ : Unit) : Answered :=
  done s.clearConflicts (.conflictSet (members s.pev.conflictSet))

/-- CONFLICT_READ taken. -/
def takeConflictRead (p : Payload Unit) (s : State) : State := (withFields s p (actConflictRead s)).reply 0x0A

/-- CONFLICT_READ (R52). -/
def execConflictRead (p : Payload Unit) (s : State) : Result :=
  .next (s.receive (.conflictRead p) (takeConflictRead p s))

end Sys2Proof.Machine
end

