-- ==== Sys2Proof/Machine/BellCommands.lean ====
section
/-!
DEFINITION. The commands and events of the Bell Controller (chapter 9).
-/

namespace Sys2Proof.Machine

open Sys2Proof

/-- PHASE_TIMER_EXPIRY (R151, R160): the phase timer of an output's current ring runs out. -/
def execPhaseTimerExpiry (output : OutputId) (s : State) : Result :=
  if s.isLow then .next s
  else .next (s.withBlc { s.blc with outputs := s.blc.outputs.modify output (BellOutput.phaseEnd s.blc.patterns) })

/-! ### Bell entries (R149) -/

/-- The state with one bell entry replaced. -/
def State.setEntry (s : State) (n : BellId) (e : Option BellEntry) : State :=
  s.withBlc { s.blc with entries := s.blc.entries.set n e }

/-- R149: the last rung an entry has after a put: kept, or absent for an entry that was undefined. -/
def keptRung (before : Option BellEntry) : Option Nat := before.bind fun e => e.lastRung

/-- BELL_PUT's work (R149). -/
def actBellPut (s : State) (a : BellPutArgs) : Answered :=
  withChecked s (checkBellPut a) fun (n, e) =>
    done (s.setEntry n (e.map fun d => { d with lastRung := keptRung (s.blc.entries.get n) })) .none

/-- BELL_PUT taken. -/
def takeBellPut (p : Payload BellPutArgs) (s : State) : State := (withFields s p (actBellPut s)).reply 0x20

/-- BELL_PUT (R149). -/
def execBellPut (p : Payload BellPutArgs) (s : State) : Result := .next (s.receive (.bellPut p) (takeBellPut p s))

/-- BELL_GET's work (R149). -/
def actBellGet (s : State) (entry : Nat) : Answered :=
  withChecked s (toFin? 96 entry) fun n => done s (.bell (s.blc.entries.get n))

/-- BELL_GET taken. -/
def takeBellGet (p : Payload Nat) (s : State) : State := (withFields s p (actBellGet s)).reply 0x21

/-- BELL_GET (R149). -/
def execBellGet (p : Payload Nat) (s : State) : Result := .next (s.receive (.bellGet p) (takeBellGet p s))

/-- BELL_DROP's work (R149). -/
def actBellDrop (s : State) (entry : Nat) : Answered :=
  withChecked s (toFin? 96 entry) fun n =>
    if (s.blc.entries.get n).isSome then done (s.setEntry n none) .none else denied s .notFound

/-- BELL_DROP taken. -/
def takeBellDrop (p : Payload Nat) (s : State) : State := (withFields s p (actBellDrop s)).reply 0x22

/-- BELL_DROP (R149). -/
def execBellDrop (p : Payload Nat) (s : State) : Result := .next (s.receive (.bellDrop p) (takeBellDrop p s))

/-! ### Patterns (R150) -/

/-- PATTERN_PUT's work (R150). -/
def actPatternPut (s : State) (a : PatternPutArgs) : Answered :=
  withChecked s (checkPatternPut a) fun (n, p) =>
    done (s.withBlc { s.blc with patterns := s.blc.patterns.set n p }) .none

/-- PATTERN_PUT taken. -/
def takePatternPut (p : Payload PatternPutArgs) (s : State) : State := (withFields s p (actPatternPut s)).reply 0x23

/-- PATTERN_PUT (R150). -/
def execPatternPut (p : Payload PatternPutArgs) (s : State) : Result :=
  .next (s.receive (.patternPut p) (takePatternPut p s))

/-- PATTERN_GET's work (R150). -/
def actPatternGet (s : State) (pattern : Nat) : Answered :=
  withChecked s (toFin? 16 pattern) fun n => done s (.pattern (s.blc.patterns.get n))

/-- PATTERN_GET taken. -/
def takePatternGet (p : Payload Nat) (s : State) : State := (withFields s p (actPatternGet s)).reply 0x24

/-- PATTERN_GET (R150). -/
def execPatternGet (p : Payload Nat) (s : State) : Result := .next (s.receive (.patternGet p) (takePatternGet p s))

/-! ### Manual rings (R161, R162) -/

/-- BELL_RING's work (R161, R166): one request to each output of the set. -/
def actBellRing (s : State) (a : BellRingArgs) : Answered :=
  withChecked s (checkBellRing a) fun (outputs, r) =>
    done (s.withBlc (s.blc.requestAll s.onBattery outputs r)) (.bellRing (s.blc.fates s.onBattery outputs r))

/-- BELL_RING taken. -/
def takeBellRing (p : Payload BellRingArgs) (s : State) : State := (withFields s p (actBellRing s)).reply 0x25

/-- BELL_RING (R161). -/
def execBellRing (p : Payload BellRingArgs) (s : State) : Result := .next (s.receive (.bellRing p) (takeBellRing p s))

/-- R162: the outputs of a set are emptied. -/
def Blc.stopOutputs (b : Blc) (outputs : OutputSet) : Blc :=
  { b with outputs := b.outputs.mapRows fun i o => if inSet outputs i then BellOutput.cold else o }

/-- R162: whether a ring was current and how many were waiting, for each output of a set. -/
def Blc.found (b : Blc) (outputs : OutputSet) : List (OutputId × Bool × Nat) :=
  (members outputs).map fun i => (i, (b.outputs.get i).current.isSome, (b.outputs.get i).waiting.length)

/-- BELL_STOP's work (R162). -/
def actBellStop (s : State) (outputs : Nat) : Answered :=
  withChecked s (outputs? outputs) fun m => done (s.withBlc (s.blc.stopOutputs m)) (.bellStop (s.blc.found m))

/-- BELL_STOP taken. -/
def takeBellStop (p : Payload Nat) (s : State) : State := (withFields s p (actBellStop s)).reply 0x26

/-- BELL_STOP (R162). -/
def execBellStop (p : Payload Nat) (s : State) : Result := .next (s.receive (.bellStop p) (takeBellStop p s))

end Sys2Proof.Machine
end

