-- ==== Sys2Proof/Machine/DoorCommands.lean ====
section
/-!
DEFINITION. The commands and events of the Door Controller (chapter 5).
-/

namespace Sys2Proof.Machine

open Sys2Proof

/-! ### Input events (R78, R79, R80) -/

/-- R78: the wire of an input takes a level; in MAINS the conditioner watches it. -/
def State.wireLevel (s : State) (i : InputId) (closed : Bool) : State :=
  let r := { s.drc.inputs.get i with closed := closed }
  s.setInput i (if s.tbu.supply = .mains then r.watch else r)

/-- INPUT_LEVEL_CHANGE (R78). -/
def execInputLevelChange (input : InputId) (closed : Bool) (s : State) : Result := .next (s.wireLevel input closed)

/-- FILTER_TIME_EXPIRY (R78): the level has differed for the whole filter time, and is accepted. -/
def execFilterTimeExpiry (input : InputId) (s : State) : Result :=
  if s.tbu.supply = .mains ∧ (s.drc.inputs.get input).change.isSome = true then .next (s.acceptInput input).settle
  else .next s

/-- INPUT_SAMPLE (R79): in BATTERY every input is sampled. -/
def execInputSample (s : State) : Result :=
  if s.tbu.supply = .battery then
    let s1 := s.sampleAll
    .next (s1.withDrc { s1.drc with sampleTimer := some Config.samplePeriod }).settle
  else .next s

/-! ### Timers (R91, R92, R98) -/

/-- R91, R94: the release timer of a door in RELEASED runs out: SECURE, and its passage is cancelled. -/
def State.releaseRunsOut (s : State) (d : DoorId) (r : Door) : State :=
  (s.setDoor d (some { r with state := .secure, releaseTimer := none })).cancelPassage d

/-- RELEASE_TIMER_EXPIRY (R91, R94). -/
def execReleaseTimerExpiry (door : DoorId) (s : State) : Result :=
  match s.drc.doors.get door with
  | none => .next s
  | some r =>
    if r.releaseTimer.isSome = true ∧ r.state = .released ∧ s.isLow = false then
      .next (s.releaseRunsOut door r).settle
    else .next s

/-- HELD_TIMER_EXPIRY (R92): a door in OPEN goes to HELD with its alarm. -/
def execHeldTimerExpiry (door : DoorId) (s : State) : Result :=
  match s.drc.doors.get door with
  | none => .next s
  | some r =>
    if r.heldTimer.isSome = true ∧ r.state = .opened ∧ s.isLow = false then
      .next (s.doorAlarm door { r with state := .held, heldTimer := none } .held).settle
    else .next s

/-- PULSE_TIMER_EXPIRY (R98): the alarm state becomes OFF. -/
def execPulseTimerExpiry (s : State) : Result :=
  if s.drc.pulseTimer.isSome = true ∧ s.isLow = false then
    .next (s.withDrc { s.drc with alarm := .off, pulseTimer := none })
  else .next s

/-! ### INPUT_PUT and INPUT_GET (R81) -/

/-- R81: whether a change in progress has lasted the whole filter time. -/
def Input.filterElapsed (r : Input) : Bool :=
  match r.change with
  | none => false
  | some t => decide (r.filter ≤ t)

/-- R81: the settings apply at once; in MAINS the input is watched under them, and a change that the new filter time
finds complete is accepted. -/
def State.putInput (s : State) (i : InputId) (level : ActiveLevel) (filter : Nat) : State :=
  let r := { s.drc.inputs.get i with activeLevel := level, filterTime := filter }
  if s.tbu.supply = .mains then
    let s1 := s.setInput i r.watch
    if r.watch.filterElapsed then s1.acceptInput i else s1
  else s.setInput i r

/-- INPUT_PUT's work (R81). -/
def actInputPut (s : State) (a : InputPutArgs) : Answered :=
  withChecked s (checkInputPut a) fun (i, level, filter) => done (s.putInput i level filter) .none

/-- INPUT_PUT taken. -/
def takeInputPut (p : Payload InputPutArgs) (s : State) : State := (withFields s p (actInputPut s)).reply 0x0B

/-- INPUT_PUT (R81). -/
def execInputPut (p : Payload InputPutArgs) (s : State) : Result := .next (s.receive (.inputPut p) (takeInputPut p s))

/-- INPUT_GET's work (R81). -/
def actInputGet (s : State) (input : Nat) : Answered :=
  withChecked s (toFin? 33 input) fun i =>
    let r := s.drc.inputs.get i
    done s (.input r.activeLevel r.filterTime r.accepted)

/-- INPUT_GET taken. -/
def takeInputGet (p : Payload Nat) (s : State) : State := (withFields s p (actInputGet s)).reply 0x0C

/-- INPUT_GET (R81). -/
def execInputGet (p : Payload Nat) (s : State) : Result := .next (s.receive (.inputGet p) (takeInputGet p s))

/-! ### DOOR_PUT and DOOR_GET (R82, R83) -/

/-- R82: whether two configurations name one contact input or one button input. -/
def DoorConfig.sharesInput (a b : DoorConfig) : Bool :=
  a.contact == b.contact || (a.button.isSome && a.button == b.button)

/-- R82: whether an input of a configuration is named by another configured door. -/
def State.inputTaken (s : State) (d : DoorId) (c : DoorConfig) : Bool :=
  (List.finRange 16).any fun j =>
    j != d && (match s.drc.doors.get j with
      | some r => c.sharesInput r.config
      | none => false)

/-- R82: the override a configured door has after a put: kept, or NORMAL for a door that was not configured. -/
def keptOverride : Option Door → Override
  | some r => r.override
  | none => .normal

/-- R82: the door after a put, resolved and worked out afresh. -/
def State.putDoor (s : State) (d : DoorId) (c : DoorConfig) : State :=
  s.setDoor d (some (s.freshDoor ⟨c, keptOverride (s.drc.doors.get d), .card, .secure, none, none⟩))

/-- DOOR_PUT's work (R82). -/
def actDoorPut (s : State) (a : DoorPutArgs) : Answered :=
  withChecked s (checkDoorPut a) fun (d, config) =>
    match config with
    | none => if (s.passageAt d).isSome then denied s .busy else done (s.setDoor d none) .none
    | some c =>
      if s.inputTaken d c then denied s .badArg
      else if (s.passageAt d).isSome then denied s .busy
      else done (s.putDoor d c) .none

/-- DOOR_PUT taken. -/
def takeDoorPut (p : Payload DoorPutArgs) (s : State) : State := (withFields s p (actDoorPut s)).reply 0x0D

/-- DOOR_PUT (R82). -/
def execDoorPut (p : Payload DoorPutArgs) (s : State) : Result := .next (s.receive (.doorPut p) (takeDoorPut p s))

/-- R83: the accepted level of a configured door's contact input. -/
def State.contactLevel (s : State) (d : DoorId) : Bool :=
  match s.drc.doors.get d with
  | none => false
  | some r => s.accepted r.config.contact

/-- DOOR_GET's work (R83). -/
def actDoorGet (s : State) (door : Nat) : Answered :=
  withChecked s (toFin? 16 door) fun d => done s (.door (s.drc.doors.get d) (s.contactLevel d) (s.releaseOutput d))

/-- DOOR_GET taken. -/
def takeDoorGet (p : Payload Nat) (s : State) : State := (withFields s p (actDoorGet s)).reply 0x0E

/-- DOOR_GET (R83). -/
def execDoorGet (p : Payload Nat) (s : State) : Result := .next (s.receive (.doorGet p) (takeDoorGet p s))

/-! ### SCHEDULE_PUT and SCHEDULE_GET (R84) -/

/-- Whether a door names a schedule. -/
def State.namesSchedule (s : State) (k : ScheduleId) (d : DoorId) : Bool :=
  match s.drc.doors.get d with
  | none => false
  | some r => r.config.schedule == some k

/-- R84, R86: the windows are replaced, and the doors that name the schedule are resolved in ascending number. -/
def State.putSchedule (s : State) (k : ScheduleId) (windows : List Window) : State :=
  let s1 := s.withDrc { s.drc with schedules := s.drc.schedules.set k windows }
  ((List.finRange 16).filter (s.namesSchedule k)).foldl State.resolveDoor s1

/-- SCHEDULE_PUT's work (R84). -/
def actSchedulePut (s : State) (a : SchedulePutArgs) : Answered :=
  withChecked s (checkSchedulePut a) fun (k, windows) => done (s.putSchedule k windows) .none

/-- SCHEDULE_PUT taken. -/
def takeSchedulePut (p : Payload SchedulePutArgs) (s : State) : State :=
  (withFields s p (actSchedulePut s)).reply 0x0F

/-- SCHEDULE_PUT (R84). -/
def execSchedulePut (p : Payload SchedulePutArgs) (s : State) : Result :=
  .next (s.receive (.schedulePut p) (takeSchedulePut p s))

/-- SCHEDULE_GET's work (R84). -/
def actScheduleGet (s : State) (schedule : Nat) : Answered :=
  withChecked s (toFin? 8 schedule) fun k => done s (.schedule (s.drc.schedules.get k))

/-- SCHEDULE_GET taken. -/
def takeScheduleGet (p : Payload Nat) (s : State) : State := (withFields s p (actScheduleGet s)).reply 0x10

/-- SCHEDULE_GET (R84). -/
def execScheduleGet (p : Payload Nat) (s : State) : Result :=
  .next (s.receive (.scheduleGet p) (takeScheduleGet p s))

/-! ### DOOR_COMMAND (R87) -/

/-- The configured doors a target names, in ascending order; nothing for one door that is not configured. -/
def State.targets (s : State) : DoorTarget → Option (List DoorId)
  | .all => some ((List.finRange 16).filter fun d => (s.drc.doors.get d).isSome)
  | .one d => if (s.drc.doors.get d).isSome then some [d] else none

/-- R87: the effective mode and the state of the doors acted on. -/
def State.doorList (s : State) (doors : List DoorId) : List (DoorId × DoorMode × DoorState) :=
  doors.filterMap fun d => (s.drc.doors.get d).map fun r => (d, r.mode, r.state)

/-- R87: a door's override is set and its effective mode resolved afresh. -/
def State.setOverride (o : Override) (s : State) (d : DoorId) : State :=
  match s.drc.doors.get d with
  | none => s
  | some r => (s.setDoor d (some { r with override := o })).resolveDoor d

/-- R87: a command acts on the doors of its target. -/
def State.doorCommand (s : State) (target : Nat) (act : State → DoorId → State) : Answered :=
  withChecked s (checkDoorTarget target) fun t =>
    match s.targets t with
    | none => denied s .notFound
    | some doors =>
      let s1 := doors.foldl act s
      done s1 (.doorCommand (s1.doorList doors))

/-- DOOR_COMMAND with LOCKDOWN (R87). -/
def actDoorCommandLockdown (s : State) (target : Nat) : Answered := s.doorCommand target (State.setOverride .lockdown)

/-- DOOR_COMMAND with HOLD_FREE (R87). -/
def actDoorCommandHoldFree (s : State) (target : Nat) : Answered := s.doorCommand target (State.setOverride .holdFree)

/-- DOOR_COMMAND with NORMAL (R87). -/
def actDoorCommandNormal (s : State) (target : Nat) : Answered := s.doorCommand target (State.setOverride .normal)

/-- DOOR_COMMAND with RELEASE_ONCE (R87, R89, R93). -/
def actReleaseOnce (s : State) (target : Nat) : Answered := s.doorCommand target State.pressButton

/-- DOOR_COMMAND with LOCKDOWN taken. -/
def takeDoorCommandLockdown (p : Payload Nat) (s : State) : State :=
  (withFields s p (actDoorCommandLockdown s)).reply 0x11

/-- DOOR_COMMAND with LOCKDOWN (R87). -/
def execDoorCommandLockdown (p : Payload Nat) (s : State) : Result :=
  .next (s.receive (.doorCommandLockdown p) (takeDoorCommandLockdown p s))

/-- DOOR_COMMAND with HOLD_FREE taken. -/
def takeDoorCommandHoldFree (p : Payload Nat) (s : State) : State :=
  (withFields s p (actDoorCommandHoldFree s)).reply 0x11

/-- DOOR_COMMAND with HOLD_FREE (R87). -/
def execDoorCommandHoldFree (p : Payload Nat) (s : State) : Result :=
  .next (s.receive (.doorCommandHoldFree p) (takeDoorCommandHoldFree p s))

/-- DOOR_COMMAND with NORMAL taken. -/
def takeDoorCommandNormal (p : Payload Nat) (s : State) : State :=
  (withFields s p (actDoorCommandNormal s)).reply 0x11

/-- DOOR_COMMAND with NORMAL (R87). -/
def execDoorCommandNormal (p : Payload Nat) (s : State) : Result :=
  .next (s.receive (.doorCommandNormal p) (takeDoorCommandNormal p s))

/-- DOOR_COMMAND with RELEASE_ONCE taken. -/
def takeReleaseOnce (p : Payload Nat) (s : State) : State := (withFields s p (actReleaseOnce s)).reply 0x11

/-- DOOR_COMMAND with RELEASE_ONCE (R87, R89, R93). -/
def execReleaseOnce (p : Payload Nat) (s : State) : Result :=
  .next (s.receive (.releaseOnce p) (takeReleaseOnce p s))

/-! ### ALARM_CLEAR (R99) -/

/-- ALARM_CLEAR's work (R99). -/
def actAlarmClear (s : State) (_ : Unit) : Answered :=
  done (s.withDrc { s.drc with alarm := .off, pulseTimer := none }) (.alarm s.drc.alarm)

/-- ALARM_CLEAR taken. -/
def takeAlarmClear (p : Payload Unit) (s : State) : State := (withFields s p (actAlarmClear s)).reply 0x12

/-- ALARM_CLEAR (R99). -/
def execAlarmClear (p : Payload Unit) (s : State) : Result := .next (s.receive (.alarmClear p) (takeAlarmClear p s))

end Sys2Proof.Machine
end

