-- ==== Sys2Proof/Machine/GateLine.lean ====
section
/-!
DEFINITION. The commands and events of the Gate Line Controller (chapter 2).
-/

namespace Sys2Proof.Machine

open Sys2Proof

/-! ### Rounds (R24, R25) -/

/-- ATTENTION_WIRE_CHANGE (R24). -/
def execAttentionWireChange (pulled : Bool) (s : State) : Result :=
  .next (s.withGlc { s.glc with attention := pulled }).settle

/-- R25: a station whose answer counts: configured, enabled, not SUSPENDED, and its level answered. -/
def Station.contends (r : Station) (answered : BitVec 15) : Bool :=
  match r.config with
  | none => false
  | some c => c.enabled && r.state != .suspended && inSet answered c.level.val

/-- R25: a station's state after the slots: a contender in IDLE becomes CONTENDING, and a configured station in
CONTENDING that did not answer becomes IDLE. -/
def Station.afterSlots (answered : BitVec 15) (r : Station) : Station :=
  if r.contends answered then (if r.state = .idle then { r with state := .contending } else r)
  else if r.config.isSome ∧ r.state = .contending then { r with state := .idle }
  else r

/-- R25: fairness holds are cleared. -/
def Station.clearHold (answered : BitVec 15) (r : Station) : Station :=
  if r.state = .hold then
    (if r.contends answered then { r with state := .contending } else { r with state := .idle })
  else r

/-- R25: the contenders not in HOLD. -/
def unheld (stations : Table 15 Station) (answered : BitVec 15) : List StationId :=
  (List.finRange 15).filter fun id =>
    (stations.get id).contends answered && (stations.get id).state != .hold

/-- R25: whether any station contends. -/
def anyContender (stations : Table 15 Station) (answered : BitVec 15) : Bool :=
  (List.finRange 15).any fun id => (stations.get id).contends answered

/-- R25: of a list of stations, the configured one with the lowest level. -/
def lowestLevel (stations : Table 15 Station) : List StationId → Option (StationId × StationConfig)
  | [] => none
  | id :: rest =>
    match (stations.get id).config, lowestLevel stations rest with
    | none, best => best
    | some c, none => some (id, c)
    | some c, some (j, d) => if c.level ≤ d.level then some (id, c) else some (j, d)

/-- R25: the stations after the round, holds cleared when every contender is in HOLD. -/
def roundStations (stations : Table 15 Station) (answered : BitVec 15) : Table 15 Station :=
  let st := stations.map (Station.afterSlots answered)
  if (unheld st answered).isEmpty && anyContender st answered then st.map (Station.clearHold answered) else st

/-- R26: the winner is sent GRANT. -/
def Glc.grantTo (g : Glc) (id : StationId) (c : StationConfig) (budget : Nat) : Glc :=
  { g with
    stations := g.stations.modify id fun r => { r with state := .granted }
    grant := some ⟨id, budget, 0, none⟩ }.send .grant (.grant c.level budget)

/-- R25: the result of a round: the winner is granted, or the rest timer runs. -/
def Glc.roundResult (g : Glc) (answered : BitVec 15) (budget : Nat) : Glc :=
  let st := roundStations g.stations answered
  let g1 := { g with stations := st }
  match lowestLevel st (unheld st answered) with
  | some (id, c) => g1.grantTo id c budget
  | none => { g1 with line := .free, restTimer := some Config.restTime }

/-- ROUND_RESULT (R25, R26). -/
def execRoundResult (answered : BitVec 15) (s : State) : Result :=
  if s.glc.line = .round ∧ s.isLow = false then
    .next (s.withGlc (s.glc.roundResult answered s.olc.settings.burstBudget)).settle
  else .next s

/-- REST_TIMER_EXPIRY (R25). -/
def execRestTimerExpiry (s : State) : Result :=
  if s.glc.restTimer.isSome = true ∧ s.isLow = false then
    .next (s.withGlc { s.glc with restTimer := none }).settle
  else .next s

/-! ### Received frames (R22, R23) -/

/-- GATE_FRAME_DISCARDED (R22): no effect. -/
def execGateFrameDiscarded (s : State) : Result := .next s

/-- R22, R23, R38: the GLC receives while it sends nothing and the supply state is not LOW. -/
def State.receiving (s : State) : Bool := s.glc.sending.isNone && !s.isLow

/-- R27: whether END is set. -/
def replyEnds (more : Bool) (taken budget : Nat) (code : ReplyCode) : Bool :=
  !more || decide (budget ≤ taken) || code == .wait

/-- R27, R28: the grant with one more frame taken, its timer stopped, and the station's timeouts at 0. -/
def Glc.takeFrame (g : Glc) (gr : Grant) : Glc :=
  { g with
    grant := some { gr with taken := gr.taken + 1, timer := none }
    stations := g.stations.modify gr.station fun r => { r with timeouts := 0 } }

/-- R27: a PUNCH frame under a grant is judged and answered inside the grant. -/
def State.punchUnderGrant (s : State) (gr : Grant) (c : StationConfig) (badge age : Nat) (more : Bool) : State :=
  let s1 := s.withGlc (s.glc.takeFrame gr)
  let v := s1.judge (s1.punchOf gr.station c badge age)
  v.state.withGlc (v.state.glc.send .grant
    (.reply c.level v.code v.release (replyEnds more (gr.taken + 1) gr.budget v.code)))

/-- PUNCH_FRAME (R23, R27): taken under a current grant, and discarded otherwise. -/
def execPunchFrame (badge age : Nat) (more : Bool) (s : State) : Result :=
  match s.receiving, s.glc.grant with
  | true, some gr =>
    match s.stationConfig gr.station with
    | some c => .next (s.punchUnderGrant gr c badge age more).settle
    | none => .next s
  | _, _ => .next s

/-- R33: the reports of a STATUS frame. -/
def State.statusReports (s : State) (id : StationId) (tamper fault : Bool) : State :=
  let s1 := if tamper then s.stationReport id .tamper else s
  if fault then s1.stationReport id .readerFault else s1

/-- R28: a STATUS frame under a grant is answered NOTED with END. -/
def State.statusUnderGrant (s : State) (gr : Grant) (c : StationConfig) (tamper fault : Bool) : State :=
  let s1 := (s.withGlc (s.glc.takeFrame gr)).statusReports gr.station tamper fault
  s1.withGlc (s1.glc.send .grant (.reply c.level .noted false true))

/-- R32: a station that answers its probe while SUSPENDED is restored. -/
def State.restoreStation (s : State) (id : StationId) : State :=
  let r := s.glc.stations.get id
  if r.state = .suspended then
    (s.setStation id { r with state := .idle, timeouts := 0, probeTimer := none }).stationReport id .restored
  else s

/-- R32: the probe wait ends. -/
def Glc.endProbeWait (g : Glc) : Glc := { g with line := .free, probed := none, probeWait := none }

/-- R32: a STATUS frame within a probe wait. -/
def State.probeAnswer (s : State) (id : StationId) (tamper fault : Bool) : State :=
  let s1 := (s.restoreStation id).statusReports id tamper fault
  s1.withGlc s1.glc.endProbeWait

/-- STATUS_FRAME (R23, R28, R32). -/
def execStatusFrame (tamper fault : Bool) (s : State) : Result :=
  if s.receiving then
    match s.glc.grant, s.glc.probed with
    | some gr, _ =>
      match s.stationConfig gr.station with
      | some c => .next (s.statusUnderGrant gr c tamper fault).settle
      | none => .next s
    | none, some id => .next (s.probeAnswer id tamper fault).settle
    | none, none => .next s
  else .next s

/-! ### Grants and probes -/

/-- R30: a station whose grant timed out: SUSPENDED at the third consecutive timeout, HOLD before. -/
def Station.timedOut (r : Station) : Station :=
  if 3 ≤ r.timeouts + 1 then { r with state := .suspended, timeouts := 0, probeTimer := some Config.probeTime }
  else { r with state := .hold, timeouts := r.timeouts + 1 }

/-- R30: the grant is revoked. -/
def State.grantTimeout (s : State) (gr : Grant) : State :=
  let r := (s.glc.stations.get gr.station).timedOut
  let s1 := (s.setStation gr.station r).withGlc
    { (s.setStation gr.station r).glc with grant := none, line := .free }
  if r.state = .suspended then s1.stationReport gr.station .suspended else s1

/-- GRANT_TIMEOUT (R30). -/
def execGrantTimeout (s : State) : Result :=
  match s.glc.grant with
  | none => .next s
  | some gr => if gr.timer.isSome = true ∧ s.isLow = false then .next (s.grantTimeout gr).settle else .next s

/-- PROBE_TIMER_EXPIRY (R31): the station's id joins the pending probes and the timer starts again. -/
def execProbeTimerExpiry (station : StationId) (s : State) : Result :=
  let r := s.glc.stations.get station
  if r.probeTimer.isSome = true ∧ s.isLow = false then
    let s1 := s.setStation station { r with probeTimer := some Config.probeTime }
    .next (s1.withGlc { s1.glc with pendingProbes := addTo s1.glc.pendingProbes station }).settle
  else .next s

/-- PROBE_WAIT_EXPIRY (R32): the station stays SUSPENDED and the line becomes FREE. -/
def execProbeWaitExpiry (s : State) : Result :=
  if s.glc.line = .probeWait ∧ s.isLow = false then .next (s.withGlc s.glc.endProbeWait).settle else .next s

/-- R26, R27, R29, R32, R34: the last byte of a frame has been sent. -/
def Glc.frameSent (g : Glc) (f : GateFrame) : Glc :=
  let g1 := { g with sending := none }
  match f with
  | .grant _ _ =>
    match g.grant with
    | some gr => { g1 with grant := some { gr with timer := some Config.grantTime } }
    | none => { g1 with line := .free }
  | .reply _ _ _ last =>
    match g.grant with
    | some gr => if last then g1.endGrant else { g1 with grant := some { gr with timer := some Config.grantTime } }
    | none => { g1 with line := .free }
  | .probe _ =>
    match g.probed with
    | some _ => { g1 with line := .probeWait, probeWait := some Config.probeWaitTime }
    | none => { g1 with line := .free }
  | .time _ _ => { g1 with line := .free }
  | .display _ _ => { g1 with line := .free }

/-- GATE_FRAME_SENT (R34). -/
def execGateFrameSent (s : State) : Result :=
  match s.glc.sending with
  | none => .next s
  | some f => .next (s.withGlc (s.glc.frameSent f)).settle

/-! ### Commands -/

/-- R20, R29: the current grant ends if it is this station's. -/
def Glc.endGrantOf (g : Glc) (id : StationId) : Glc :=
  match g.grant with
  | none => g
  | some gr => if gr.station = id then g.endGrant else g

/-- R20: a pending probe to a station is cancelled and a probe wait addressed to it ends. -/
def Glc.dropProbe (g : Glc) (id : StationId) : Glc :=
  let g1 := { g with pendingProbes := takeOut g.pendingProbes id }
  if g1.probed = some id then
    { g1 with probed := none, probeWait := none, line := if g1.line = .probeWait then .free else g1.line }
  else g1

/-- R20: the station table after a put. -/
def Glc.putStation (g : Glc) (id : StationId) (configured : Bool) (c : StationConfig) : Glc :=
  match (g.stations.get id).config, configured with
  | none, true => { g with stations := g.stations.set id ⟨some c, .idle, 0, none⟩ }
  | none, false => g
  | some _, true => { g with stations := g.stations.modify id fun r => { r with config := some c } }.endGrantOf id
  | some _, false =>
    let g1 := (g.endGrantOf id).dropProbe id
    { g1 with stations := g1.stations.set id Station.cold }

/-- R20: another configured station holds the level. -/
def Glc.levelTaken (g : Glc) (id : StationId) (level : Fin 15) : Bool :=
  (List.finRange 15).any fun j =>
    j != id && (match (g.stations.get j).config with
      | some c => c.level == level
      | none => false)

/-- STATION_PUT's work (R20). -/
def actStationPut (s : State) (a : StationPutArgs) : Answered :=
  withChecked s (checkStationPut a) fun (id, configured, c) =>
    if configured && s.glc.levelTaken id c.level then denied s .duplicateLevel
    else done (s.withGlc (s.glc.putStation id configured c)) .none

/-- STATION_PUT taken. -/
def takeStationPut (p : Payload StationPutArgs) (s : State) : State := (withFields s p (actStationPut s)).reply 0x02

/-- STATION_PUT (R20). -/
def execStationPut (p : Payload StationPutArgs) (s : State) : Result :=
  .next (s.receive (.stationPut p) (takeStationPut p s))

/-- STATION_GET's work (R20). -/
def actStationGet (s : State) (station : Nat) : Answered :=
  withChecked s (toFin? 15 station) fun id => done s (.station (s.glc.stations.get id))

/-- STATION_GET taken. -/
def takeStationGet (p : Payload Nat) (s : State) : State := (withFields s p (actStationGet s)).reply 0x03

/-- STATION_GET (R20). -/
def execStationGet (p : Payload Nat) (s : State) : Result := .next (s.receive (.stationGet p) (takeStationGet p s))

/-- R21: a SUSPENDED station is returned to IDLE. -/
def State.resumeStation (s : State) (id : StationId) (r : Station) : State :=
  let s1 := s.setStation id { r with state := .idle, timeouts := 0, probeTimer := none }
  (s1.withGlc { s1.glc with pendingProbes := takeOut s1.glc.pendingProbes id }).stationReport id .restored

/-- STATION_RESUME's work (R21). -/
def actStationResume (s : State) (station : Nat) : Answered :=
  withChecked s (toFin? 15 station) fun id =>
    let r := s.glc.stations.get id
    if r.config.isNone then denied s .notFound
    else if r.state = .suspended then done (s.resumeStation id r) .none
    else done s .none

/-- STATION_RESUME taken. -/
def takeStationResume (p : Payload Nat) (s : State) : State := (withFields s p (actStationResume s)).reply 0x04

/-- STATION_RESUME (R21). -/
def execStationResume (p : Payload Nat) (s : State) : Result :=
  .next (s.receive (.stationResume p) (takeStationResume p s))

/-- DISPLAY's work (R36). -/
def actDisplay (s : State) (a : DisplayArgs) : Answered :=
  withChecked s (checkDisplay a) fun m =>
    if Config.displayCapacity ≤ s.glc.displayQueue.length then denied s .queueFull
    else done (s.withGlc { s.glc with displayQueue := s.glc.displayQueue ++ [m] }) .none

/-- DISPLAY taken. -/
def takeDisplay (p : Payload DisplayArgs) (s : State) : State := (withFields s p (actDisplay s)).reply 0x05

/-- DISPLAY (R36). -/
def execDisplay (p : Payload DisplayArgs) (s : State) : Result := .next (s.receive (.display p) (takeDisplay p s))

end Sys2Proof.Machine
end

