-- ==== Sys2Proof/Machine/PlanCommands.lean ====
section
/-!
DEFINITION. The commands of the Shift Plan Store (chapter 6).
-/

namespace Sys2Proof.Machine

open Sys2Proof

/-! ### Shift definitions (R103, R104) -/

/-- SHIFT_PUT's work (R103): the definition is replaced whole, or made undefined. -/
def actShiftPut (s : State) (a : ShiftPutArgs) : Answered :=
  withChecked s (checkShiftPut a) fun (id, d) => done (s.withSps { s.sps with shifts := s.sps.shifts.set id d }) .none

/-- SHIFT_PUT taken. -/
def takeShiftPut (p : Payload ShiftPutArgs) (s : State) : State := (withFields s p (actShiftPut s)).reply 0x13

/-- SHIFT_PUT (R103). -/
def execShiftPut (p : Payload ShiftPutArgs) (s : State) : Result := .next (s.receive (.shiftPut p) (takeShiftPut p s))

/-- SHIFT_GET's work (R104). -/
def actShiftGet (s : State) (shift : Nat) : Answered :=
  withChecked s (toFin? 64 shift) fun id => done s (.shift (s.sps.shifts.get id))

/-- SHIFT_GET taken. -/
def takeShiftGet (p : Payload Nat) (s : State) : State := (withFields s p (actShiftGet s)).reply 0x14

/-- SHIFT_GET (R104). -/
def execShiftGet (p : Payload Nat) (s : State) : Result := .next (s.receive (.shiftGet p) (takeShiftGet p s))

/-! ### Rotas (R105) -/

/-- ROTA_PUT's work (R105): the rota is replaced whole. -/
def actRotaPut (s : State) (a : RotaPutArgs) : Answered :=
  withChecked s (checkRotaPut a) fun (crew, r) =>
    done (s.withSps { s.sps with rotas := s.sps.rotas.set crew r }) .none

/-- ROTA_PUT taken. -/
def takeRotaPut (p : Payload RotaPutArgs) (s : State) : State := (withFields s p (actRotaPut s)).reply 0x15

/-- ROTA_PUT (R105). -/
def execRotaPut (p : Payload RotaPutArgs) (s : State) : Result := .next (s.receive (.rotaPut p) (takeRotaPut p s))

/-- ROTA_GET's work (R105). -/
def actRotaGet (s : State) (crew : Nat) : Answered :=
  withChecked s (toFin? 32 crew) fun c => done s (.rota (s.sps.rotas.get c))

/-- ROTA_GET taken. -/
def takeRotaGet (p : Payload Nat) (s : State) : State := (withFields s p (actRotaGet s)).reply 0x16

/-- ROTA_GET (R105). -/
def execRotaGet (p : Payload Nat) (s : State) : Result := .next (s.receive (.rotaGet p) (takeRotaGet p s))

/-! ### The holiday list (R107) -/

/-- R107: a day in its place by ascending day number. -/
def insertDay (d : Nat) : List Nat → List Nat
  | [] => [d]
  | e :: rest => if d < e then d :: e :: rest else e :: insertDay d rest

/-- The state with its holiday list replaced. -/
def State.withHolidays (s : State) (days : List Nat) : State := s.withSps { s.sps with holidays := days }

/-- HOLIDAY_PUT's work (R107). -/
def actHolidayPut (s : State) (day : Nat) : Answered :=
  withChecked s (checkDay day) fun d =>
    if s.sps.isHoliday d then done s .none
    else if Config.holidayCapacity ≤ s.sps.holidays.length then denied s .tableFull
    else done (s.withHolidays (insertDay d s.sps.holidays)) .none

/-- HOLIDAY_PUT taken. -/
def takeHolidayPut (p : Payload Nat) (s : State) : State := (withFields s p (actHolidayPut s)).reply 0x17

/-- HOLIDAY_PUT (R107). -/
def execHolidayPut (p : Payload Nat) (s : State) : Result := .next (s.receive (.holidayPut p) (takeHolidayPut p s))

/-- HOLIDAY_DROP's work (R107). -/
def actHolidayDrop (s : State) (day : Nat) : Answered :=
  withChecked s (checkDay day) fun d =>
    if s.sps.isHoliday d then done (s.withHolidays (s.sps.holidays.filter fun e => e != d)) .none
    else denied s .notFound

/-- HOLIDAY_DROP taken. -/
def takeHolidayDrop (p : Payload Nat) (s : State) : State := (withFields s p (actHolidayDrop s)).reply 0x18

/-- HOLIDAY_DROP (R107). -/
def execHolidayDrop (p : Payload Nat) (s : State) : Result := .next (s.receive (.holidayDrop p) (takeHolidayDrop p s))

/-- HOLIDAY_LIST's work (R107). -/
def actHolidayList (s : State) (_ : Unit) : Answered := done s (.holidays s.sps.holidays)

/-- HOLIDAY_LIST taken. -/
def takeHolidayList (p : Payload Unit) (s : State) : State := (withFields s p (actHolidayList s)).reply 0x19

/-- HOLIDAY_LIST (R107). -/
def execHolidayList (p : Payload Unit) (s : State) : Result :=
  .next (s.receive (.holidayList p) (takeHolidayList p s))

/-! ### Pay classes (R109) -/

/-- PAYCLASS_PUT's work (R109). -/
def actPayclassPut (s : State) (a : PayClassPutArgs) : Answered :=
  withChecked s (checkPayClassPut a) fun (c, p) =>
    done (s.withSps { s.sps with payClasses := s.sps.payClasses.set c p }) .none

/-- PAYCLASS_PUT taken. -/
def takePayclassPut (p : Payload PayClassPutArgs) (s : State) : State :=
  (withFields s p (actPayclassPut s)).reply 0x1A

/-- PAYCLASS_PUT (R109). -/
def execPayclassPut (p : Payload PayClassPutArgs) (s : State) : Result :=
  .next (s.receive (.payclassPut p) (takePayclassPut p s))

/-- PAYCLASS_GET's work (R109). -/
def actPayclassGet (s : State) (payClass : Nat) : Answered :=
  withChecked s (toFin? 16 payClass) fun c => done s (.payClass (s.sps.payClasses.get c))

/-- PAYCLASS_GET taken. -/
def takePayclassGet (p : Payload Nat) (s : State) : State := (withFields s p (actPayclassGet s)).reply 0x1B

/-- PAYCLASS_GET (R109). -/
def execPayclassGet (p : Payload Nat) (s : State) : Result := .next (s.receive (.payclassGet p) (takePayclassGet p s))

end Sys2Proof.Machine
end

