-- ==== Sys2Proof/Machine/TimeBase.lean ====
section
/-!
DEFINITION. The commands and events of the Time Base Unit (chapter 1).
-/

namespace Sys2Proof.Machine

open Sys2Proof

/-- CRYSTAL_SECOND_END (R1, R4): a second that the crystal drives ends. -/
def execCrystalSecondEnd (s : State) : Result :=
  match s.tbu.running, s.tbu.secondEnd with
  | true, .onTick _ => .next s.secondBoundary.settle
  | _, _ => .next s

/-- R4, R8: a mains cycle is counted and restarts the gap time. -/
def Tbu.cycle (t : Tbu) : Tbu := { t with cycleCounter := t.cycleCounter + 1, gapTime := 0 }

/-- R3: whether the cycle just counted ends the second. -/
def Tbu.cycleEndsSecond (t : Tbu) : Bool :=
  t.secondEnd == .onCycle && decide (t.frequencyInEffect.cycles ≤ t.cycleCounter)

/-- MAINS_CYCLE (R3, R4, R8). -/
def execMainsCycle (s : State) : Result :=
  if s.tbu.running then
    let s1 := s.withTbu s.tbu.cycle
    if s1.tbu.cycleEndsSecond then .next s1.secondBoundary.settle else .next s1
  else .next s

/-- R4: the watch becomes ABSENT, and a second of MAINS_LOCKED is to be completed on the crystal without trim. -/
def Tbu.lose (t : Tbu) : Tbu :=
  { t with
    mainsWatch := .absent
    qualification := 0
    secondEnd := if t.timeSource = .mainsLocked then .onTick Config.ticksPerSecond else t.secondEnd }

/-- R4: the second in progress ends at the declaration itself. -/
def Tbu.lossEndsSecond (t : Tbu) : Bool :=
  decide (t.timeSource = .mainsLocked) && decide (Config.ticksPerSecond ≤ t.prescaler)

/-- R4, R6, R14: the declaration of a mains loss, and what follows from it at that instant. DESIGN CHOICE (log 37): where
the declaration also ends the second, the change of supply state, its reports with the old reading and what the other
blocks do when told of it come before the second boundary. -/
def State.mainsLoss (s : State) : State :=
  let s1 := s.withTbu s.tbu.lose
  let s2 := if s.tbu.supply = .mains then s1.enterBattery else s1.refreshSource
  if s.tbu.lossEndsSecond then s2.secondBoundary else s2

/-- MAINS_LOSS (R4, R6, R14): no further loss is declared while the watch is ABSENT. -/
def execMainsLoss (s : State) : Result :=
  if s.tbu.running = true ∧ s.tbu.mainsWatch = .present then .next s.mainsLoss.settle else .next s

/-- R15: a sample joins the last two. -/
def Tbu.sampleBattery (t : Tbu) (asserted : Bool) : Tbu :=
  { t with
    lowBatterySamples := (asserted :: t.lowBatterySamples).take 2
    lowBatteryInput := asserted
    lowBatteryTimer := some Config.samplePeriod }

/-- LOW_BATTERY_SAMPLE (R15): two consecutive asserted samples make the supply state LOW. -/
def execLowBatterySample (asserted : Bool) (s : State) : Result :=
  if s.tbu.supply = .battery then
    let s1 := s.withTbu (s.tbu.sampleBattery asserted)
    if s1.tbu.lowBatterySamples = [true, true] then .next s1.enterLow.settle else .next s1
  else .next s

/-- SET_TIME's work (R10). -/
def actSetTime (s : State) (a : SetTimeArgs) : Answered :=
  withChecked s (checkSetTime a) fun reading =>
    done (s.withTbu { s.tbu with pendingTime := some reading }) .none

/-- SET_TIME taken. -/
def takeSetTime (p : Payload SetTimeArgs) (s : State) : State := (withFields s p (actSetTime s)).reply 0x01

/-- SET_TIME (R10). -/
def execSetTime (p : Payload SetTimeArgs) (s : State) : Result := .next (s.receive (.setTime p) (takeSetTime p s))

/-! ### Loss of the whole main supply (R16) -/

/-- R16: the TBU of a part whose main supply is lost entirely, alone in the backup domain: the mains is absent, nothing is
sampled, and a pending time is gone (log 36). -/
def Tbu.losePower (t : Tbu) : Tbu :=
  { t.lose with supply := .low, pendingTime := none, lowBatteryTimer := none }.refreshSource

/-- R6, R16: the part has lost its main supply entirely: it is quiescent as in LOW, where it is so already. Of the loss only
a change of the time source state is reported (log 36). -/
def State.losePower (s : State) : State :=
  if s.isLow then s else ((s.withTbu s.tbu.losePower).reportSource s.tbu.timeSource).quiesce

/-- BACKUP_DOMAIN_LOST (R16): the backup supply gives out too, and the TBU stops. Outside LOW the whole main supply is lost
with it (log 36). -/
def execBackupDomainLost (s : State) : Result :=
  let s1 := s.losePower
  .next (s1.withTbu { s1.tbu with backupIntact := false, running := false })

/-- An integer brought into 0..n-1 and then down by `low`, for free values with a stated range. -/
def inRange (low n x : Int) : Int := x % n - low

/-- R1: a trim accumulator of which only the range is known (log 12). -/
def openAccumulator (n : Nat) : Int := inRange 9999999 19999999 (Config.freeAccumulator n)

/-- R16: the TBU begins to count seconds on the crystal again after its state was lost: the frequency, the trim and the
accumulator it does so with are free values within their ranges (log 12). -/
def Tbu.restartLost (t : Tbu) (n : Nat) : Tbu :=
  let f : Frequency := if Config.freeFrequencyIs60 n then .hz60 else .hz50
  let trim := inRange 999 1999 (Config.freeTrim n)
  { t with
    running := true
    frequencySetting := f
    frequencyInEffect := f
    trimSetting := trim
    trimInEffect := trim
    trimAccumulator := openAccumulator n
    prescaler := 0
    cycleCounter := 0
    mainsWatch := .absent
    qualification := 0 }.refreshSource.startSecond

/-- Seconds from 0 to the whole range of the calendar: how long an outage lasted that no event began (log 36). -/
def openOutage (n : Nat) : Nat := Config.freeOutage n % (Config.lastReading + 1)

/-- R1, R8: so many second boundaries, one after another, with no mains cycle between them. -/
def State.secondBoundaries : Nat → State → State
  | 0, s => s
  | n + 1, s => State.secondBoundaries n s.secondBoundary

/-- The second in progress at an open tick before the crystal ends it (log 36). -/
def Tbu.atOpenTick (t : Tbu) (n : Nat) : Tbu :=
  match t.secondEnd with
  | .onCycle => t
  | .onTick length => { t with prescaler := Config.freePhase n % length }

/-- R16: power returns to a part whose TBU ran on in the backup domain through an outage of open length, with every second
boundary of it (log 36). -/
def State.outlast (s : State) : State :=
  let ran := s.secondBoundaries (openOutage s.draws)
  (ran.withTbu (ran.tbu.atOpenTick s.draws)).withDraws (s.draws + 1)

/-- POWER_RETURN (R16): a TBU that stopped when its backup domain was lost begins to qualify the mains on the crystal, from
a count of 0. One that ran on in LOW goes on judging seconds by R5. Outside LOW the whole main supply was lost, and the TBU
ran on in the backup domain (log 36). -/
def execPowerReturn (s : State) : Result :=
  if s.tbu.running then
    if s.isLow then .next s else .next s.losePower.outlast
  else
    let s1 := s.losePower
    .next (((s1.withTbu (s1.tbu.restartLost s1.draws)).reportSource s1.tbu.timeSource).withDraws (s1.draws + 1))

end Sys2Proof.Machine
end

