-- ==== Sys2Proof/Machine/TotalsCommands.lean ====
section
/-!
DEFINITION. The commands of record closing and the pay periods (chapter 8, 8.5 and 8.6).
-/

namespace Sys2Proof.Machine

open Sys2Proof

/-! ### CLOSE_RECORD (R141, R142) -/

/-- R142: the record is closed MANUAL with the command's out time; the reply gives the close. -/
def State.closeManually (s : State) (b : Badge) (r : OpenRecord) (outTime : Nat) : Answered :=
  let c := computeClose b.number b.carry r (.outTime outTime)
  done (s.closeRecord b r .manual (.outTime outTime)) (.closeRecord c.effectiveIn c.effectiveOut c.worked c.pay)

/-- R141, R142: checks 2 to 4 of CLOSE_RECORD, and the close. -/
def State.closeOf (s : State) (n outTime : Nat) : Answered :=
  match s.findBadge n with
  | none => denied s .notFound
  | some b =>
    match b.record with
    | none => denied s .notFound
    | some r =>
      if (s.passageOf n).isSome then denied s .busy
      else if s.sparePlaces < 1 then denied s .queueFull
      else s.closeManually b r outTime

/-- CLOSE_RECORD's work (R141, R142). -/
def actCloseRecord (s : State) (a : CloseRecordArgs) : Answered :=
  withChecked s (checkCloseRecord a) fun (n, outTime) => s.closeOf n outTime

/-- CLOSE_RECORD taken. -/
def takeCloseRecord (p : Payload CloseRecordArgs) (s : State) : State :=
  (withFields s p (actCloseRecord s)).reply 0x1C

/-- CLOSE_RECORD (R141, R142). -/
def execCloseRecord (p : Payload CloseRecordArgs) (s : State) : Result :=
  .next (s.receive (.closeRecord p) (takeCloseRecord p s))

/-! ### CLOSE_PERIOD (R143) -/

/-- R143: the closed totals take the current totals, which start again from zero. -/
def Badge.closePeriod (b : Badge) : Badge := { b with closed := some b.current, current := Totals.zero }

/-- R143: the period close of the whole table. -/
def State.closePeriod (s : State) : State :=
  s.withBtb
    { entries := s.btb.entries.map Badge.closePeriod
      closedBlock := some s.minute
      period := (s.btb.period + 1) % 65536 }

/-- CLOSE_PERIOD's work (R143). DESIGN CHOICE (log 34): with an INVALID calendar and a closed block present, the status that
the rule names first is given, CLOCK_UNSET. -/
def actClosePeriod (s : State) (_ : Unit) : Answered :=
  if s.tbu.calendarValid = false then denied s .clockUnset
  else if s.btb.closedBlock.isSome then denied s .closedPending
  else done s.closePeriod (.closePeriod s.minute s.closePeriod.btb.period s.btb.entries.length)

/-- CLOSE_PERIOD taken. -/
def takeClosePeriod (p : Payload Unit) (s : State) : State := (withFields s p (actClosePeriod s)).reply 0x1D

/-- CLOSE_PERIOD (R143). -/
def execClosePeriod (p : Payload Unit) (s : State) : Result :=
  .next (s.receive (.closePeriod p) (takeClosePeriod p s))

/-! ### TOTALS_GET (R145) -/

/-- R145: the totals of an entry, with the carry, the period number and, for closed totals, the close minute. -/
def State.totalsOf (s : State) (b : Badge) (closed : Bool) : ReplyResult :=
  .totals b.number (if closed then b.closed.getD Totals.zero else b.current) b.carry s.btb.period
    (if closed then s.btb.closedBlock else none)

/-- TOTALS_GET's work (R145). -/
def actTotalsGet (s : State) (a : TotalsGetArgs) : Answered :=
  withChecked s (checkTotalsGet a) fun (n, sel, closed) =>
    if closed && s.btb.closedBlock.isNone then denied s .noClosed
    else
      match s.select sel n with
      | none => denied s .notFound
      | some b => done s (s.totalsOf b closed)

/-- TOTALS_GET taken. -/
def takeTotalsGet (p : Payload TotalsGetArgs) (s : State) : State := (withFields s p (actTotalsGet s)).reply 0x1E

/-- TOTALS_GET (R145). -/
def execTotalsGet (p : Payload TotalsGetArgs) (s : State) : Result :=
  .next (s.receive (.totalsGet p) (takeTotalsGet p s))

/-! ### RELEASE_CLOSED (R146) -/

/-- R146: the closed block is discarded. -/
def State.releaseClosed (s : State) : State :=
  s.withBtb { s.btb with entries := s.btb.entries.map fun b => { b with closed := none }, closedBlock := none }

/-- RELEASE_CLOSED's work (R146). -/
def actReleaseClosed (s : State) (_ : Unit) : Answered :=
  if s.btb.closedBlock.isNone then denied s .noClosed else done s.releaseClosed .none

/-- RELEASE_CLOSED taken. -/
def takeReleaseClosed (p : Payload Unit) (s : State) : State := (withFields s p (actReleaseClosed s)).reply 0x1F

/-- RELEASE_CLOSED (R146). -/
def execReleaseClosed (p : Payload Unit) (s : State) : Result :=
  .next (s.receive (.releaseClosed p) (takeReleaseClosed p s))

end Sys2Proof.Machine
end

