-- ==== Sys2Proof/Machine/OfficeLink.lean ====
section
/-!
DEFINITION. The commands and events of the Report Store and the Office Link Controller (chapter 10).
-/

namespace Sys2Proof.Machine

open Sys2Proof

/-! ### The transmitter (R173) -/

/-- READY_WIRE_CHANGE (R173, R184): the wire is read as it stands. -/
def execReadyWireChange (asserted : Bool) (s : State) : Result :=
  .next (s.withOlc { s.olc with ready := asserted }).settle

/-- REPORT_FRAME_SENT (R168, R171, R173): the record leaves the store, and the transmitter is idle. -/
def execReportFrameSent (s : State) : Result :=
  if s.olc.transmitter = .report ∧ s.isLow = false then
    .next (s.withOlc { s.olc with transmitter := .idle }).depart.settle
  else .next s

/-- R173, R176: the slot is empty. With a command waiting in the assembly, whether the transmitter chooses its next
frame before that command is taken is a free choice (log 9). -/
def State.replySent (s : State) : State :=
  let s1 := s.withOlc { s.olc with transmitter := .idle, slot := none }
  if s1.olc.assembly.isNone then s1.settle
  else if s1.draw.1 then s1.draw.2.settle
  else s1.draw.2

/-- REPLY_FRAME_SENT (R173). -/
def execReplyFrameSent (s : State) : Result :=
  if s.olc.transmitter = .reply ∧ s.isLow = false then .next s.replySent else .next s

/-- OFFICE_FRAME_DISCARDED (R175): no effect. It is the end of a frame that failed the tests, or that began while a
command waited in the assembly, or that arrived in LOW (log 41). -/
def execOfficeFrameDiscarded (s : State) : Result := .next s

/-- UNKNOWN_KIND taken (R177): the reply gives the kind received. -/
def takeUnknownKind (kind : Nat) (s : State) : State := (denied s .unknownKind).reply kind

/-- UNKNOWN_KIND (R177). -/
def execUnknownKind (kind : Nat) (s : State) : Result := .next (s.receive (.unknownKind kind) (takeUnknownKind kind s))

/-! ### PAUSE and RESUME (R174) -/

/-- The state with its pause flag replaced. -/
def State.withPause (s : State) (p : Bool) : State := s.withRps { s.rps with pause := p }

/-- PAUSE's work (R174). -/
def actPause (s : State) (_ : Unit) : Answered := done (s.withPause true) .none

/-- PAUSE taken. -/
def takePause (p : Payload Unit) (s : State) : State := (withFields s p (actPause s)).reply 0x27

/-- PAUSE (R174). -/
def execPause (p : Payload Unit) (s : State) : Result := .next (s.receive (.pause p) (takePause p s))

/-- RESUME's work (R174). -/
def actResume (s : State) (_ : Unit) : Answered := done (s.withPause false) .none

/-- RESUME taken. -/
def takeResume (p : Payload Unit) (s : State) : State := (withFields s p (actResume s)).reply 0x28

/-- RESUME (R174). -/
def execResume (p : Payload Unit) (s : State) : Result := .next (s.receive (.resume p) (takeResume p s))

/-! ### Settings (R178, R179) -/

/-- R178: every setting takes its value; the Time Base Unit holds three of them. -/
def State.putSettings (s : State) (set : Settings) (f : Frequency) (src : Source) (trim : Int) : State :=
  (s.withOlc { s.olc with settings := set }).withTbu
    { s.tbu with frequencySetting := f, sourceSetting := src, trimSetting := trim }

/-- SETTINGS_PUT's work (R178). -/
def actSettingsPut (s : State) (a : SettingsPutArgs) : Answered :=
  withChecked s (checkSettingsPut a) fun (set, f, src, trim) => done (s.putSettings set f src trim) .none

/-- SETTINGS_PUT taken. -/
def takeSettingsPut (p : Payload SettingsPutArgs) (s : State) : State :=
  (withFields s p (actSettingsPut s)).reply 0x29

/-- SETTINGS_PUT (R178). -/
def execSettingsPut (p : Payload SettingsPutArgs) (s : State) : Result :=
  .next (s.receive (.settingsPut p) (takeSettingsPut p s))

/-- SETTINGS_GET's work (R179). -/
def actSettingsGet (s : State) (_ : Unit) : Answered :=
  done s (.settings s.olc.settings s.tbu.frequencySetting s.tbu.sourceSetting s.tbu.trimSetting)

/-- SETTINGS_GET taken. -/
def takeSettingsGet (p : Payload Unit) (s : State) : State := (withFields s p (actSettingsGet s)).reply 0x2A

/-- SETTINGS_GET (R179). -/
def execSettingsGet (p : Payload Unit) (s : State) : Result :=
  .next (s.receive (.settingsGet p) (takeSettingsGet p s))

/-! ### STATUS, IDENT and RESET (R180 to R182) -/

/-- R180: what STATUS returns. -/
def State.statusResult (s : State) : ReplyResult :=
  .status s.tbu.supply s.tbu.timeSource s.tbu.calendarValid s.tbu.calendar s.rps.records.length s.sparePlaces
    s.rps.pause s.rps.owed.any (s.pev.conflictSet != 0) s.btb.closedBlock.isSome s.pev.passages.length

/-- STATUS's work (R180). -/
def actStatus (s : State) (_ : Unit) : Answered := done s s.statusResult

/-- STATUS taken. -/
def takeStatus (p : Payload Unit) (s : State) : State := (withFields s p (actStatus s)).reply 0x2B

/-- STATUS (R180). -/
def execStatus (p : Payload Unit) (s : State) : Result := .next (s.receive (.status p) (takeStatus p s))

/-- IDENT's work (R181). -/
def actIdent (s : State) (_ : Unit) : Answered := done s .ident

/-- IDENT taken. -/
def takeIdent (p : Payload Unit) (s : State) : State := (withFields s p (actIdent s)).reply 0x2C

/-- IDENT (R181). -/
def execIdent (p : Payload Unit) (s : State) : Result := .next (s.receive (.ident p) (takeIdent p s))

/-- RESET's work (R182): a warm start, with the reply OK. -/
def actReset (s : State) (_ : Unit) : Answered := done s.warmStart .none

/-- RESET taken. -/
def takeReset (p : Payload Unit) (s : State) : State := (withFields s p (actReset s)).reply 0x2D

/-- RESET (R182). -/
def execReset (p : Payload Unit) (s : State) : Result := .next (s.receive (.reset p) (takeReset p s))

/-! ### The assembly (R176) -/

/-- R176: a command that waited is taken; an event never waits in the assembly. -/
def State.takeCommand (s : State) : Instr → State
  | .crystalSecondEnd => s
  | .mainsCycle => s
  | .mainsLoss => s
  | .lowBatterySample _ => s
  | .attentionWireChange _ => s
  | .roundResult _ => s
  | .restTimerExpiry => s
  | .gateFrameDiscarded => s
  | .punchFrame _ _ _ => s
  | .statusFrame _ _ => s
  | .grantTimeout => s
  | .probeTimerExpiry _ => s
  | .probeWaitExpiry => s
  | .gateFrameSent => s
  | .inputLevelChange _ _ => s
  | .filterTimeExpiry _ => s
  | .inputSample => s
  | .releaseTimerExpiry _ => s
  | .heldTimerExpiry _ => s
  | .pulseTimerExpiry => s
  | .phaseTimerExpiry _ => s
  | .readyWireChange _ => s
  | .reportFrameSent => s
  | .replyFrameSent => s
  | .commandTakenFromAssembly => s
  | .officeFrameDiscarded => s
  | .unknownKind kind => takeUnknownKind kind s
  | .setTime p => takeSetTime p s
  | .stationPut p => takeStationPut p s
  | .stationGet p => takeStationGet p s
  | .stationResume p => takeStationResume p s
  | .display p => takeDisplay p s
  | .badgePut p => takeBadgePut p s
  | .badgeDrop p => takeBadgeDrop p s
  | .badgeGet p => takeBadgeGet p s
  | .presenceSet p => takePresenceSet p s
  | .conflictRead p => takeConflictRead p s
  | .inputPut p => takeInputPut p s
  | .inputGet p => takeInputGet p s
  | .doorPut p => takeDoorPut p s
  | .doorGet p => takeDoorGet p s
  | .schedulePut p => takeSchedulePut p s
  | .scheduleGet p => takeScheduleGet p s
  | .doorCommandLockdown p => takeDoorCommandLockdown p s
  | .doorCommandHoldFree p => takeDoorCommandHoldFree p s
  | .doorCommandNormal p => takeDoorCommandNormal p s
  | .releaseOnce p => takeReleaseOnce p s
  | .alarmClear p => takeAlarmClear p s
  | .shiftPut p => takeShiftPut p s
  | .shiftGet p => takeShiftGet p s
  | .rotaPut p => takeRotaPut p s
  | .rotaGet p => takeRotaGet p s
  | .holidayPut p => takeHolidayPut p s
  | .holidayDrop p => takeHolidayDrop p s
  | .holidayList p => takeHolidayList p s
  | .payclassPut p => takePayclassPut p s
  | .payclassGet p => takePayclassGet p s
  | .closeRecord p => takeCloseRecord p s
  | .closePeriod p => takeClosePeriod p s
  | .totalsGet p => takeTotalsGet p s
  | .releaseClosed p => takeReleaseClosed p s
  | .bellPut p => takeBellPut p s
  | .bellGet p => takeBellGet p s
  | .bellDrop p => takeBellDrop p s
  | .patternPut p => takePatternPut p s
  | .patternGet p => takePatternGet p s
  | .bellRing p => takeBellRing p s
  | .bellStop p => takeBellStop p s
  | .pause p => takePause p s
  | .resume p => takeResume p s
  | .settingsPut p => takeSettingsPut p s
  | .settingsGet p => takeSettingsGet p s
  | .status p => takeStatus p s
  | .ident p => takeIdent p s
  | .reset p => takeReset p s
  | .backupDomainLost => s
  | .powerReturn => s

/-- COMMAND_TAKEN_FROM_ASSEMBLY (R176): the waiting command is taken when the slot is empty. -/
def execCommandTakenFromAssembly (s : State) : Result :=
  match s.olc.assembly with
  | none => .next s
  | some c =>
    if s.olc.slot.isNone = true ∧ s.isLow = false then .next ((s.withOlc { s.olc with assembly := none }).takeCommand c)
    else .next s

end Sys2Proof.Machine
end

