-- ==== Sys2Proof/Machine/Dispatch.lean ====
section
/-! DEFINITION. The dispatcher: one call of a meaning for each command and event. -/

namespace Sys2Proof.Machine

open Sys2Proof

def exec (i : Instr) (s : State) : Host.Outcome State Fault Refusal :=
  match i with
  | .crystalSecondEnd => Sys2Proof.Machine.execCrystalSecondEnd s
  | .mainsCycle => Sys2Proof.Machine.execMainsCycle s
  | .mainsLoss => Sys2Proof.Machine.execMainsLoss s
  | .lowBatterySample asserted => Sys2Proof.Machine.execLowBatterySample asserted s
  | .attentionWireChange pulled => Sys2Proof.Machine.execAttentionWireChange pulled s
  | .roundResult answered => Sys2Proof.Machine.execRoundResult answered s
  | .restTimerExpiry => Sys2Proof.Machine.execRestTimerExpiry s
  | .gateFrameDiscarded => Sys2Proof.Machine.execGateFrameDiscarded s
  | .punchFrame badge age more => Sys2Proof.Machine.execPunchFrame badge age more s
  | .statusFrame tamper fault => Sys2Proof.Machine.execStatusFrame tamper fault s
  | .grantTimeout => Sys2Proof.Machine.execGrantTimeout s
  | .probeTimerExpiry station => Sys2Proof.Machine.execProbeTimerExpiry station s
  | .probeWaitExpiry => Sys2Proof.Machine.execProbeWaitExpiry s
  | .gateFrameSent => Sys2Proof.Machine.execGateFrameSent s
  | .inputLevelChange input closed => Sys2Proof.Machine.execInputLevelChange input closed s
  | .filterTimeExpiry input => Sys2Proof.Machine.execFilterTimeExpiry input s
  | .inputSample => Sys2Proof.Machine.execInputSample s
  | .releaseTimerExpiry door => Sys2Proof.Machine.execReleaseTimerExpiry door s
  | .heldTimerExpiry door => Sys2Proof.Machine.execHeldTimerExpiry door s
  | .pulseTimerExpiry => Sys2Proof.Machine.execPulseTimerExpiry s
  | .phaseTimerExpiry output => Sys2Proof.Machine.execPhaseTimerExpiry output s
  | .readyWireChange asserted => Sys2Proof.Machine.execReadyWireChange asserted s
  | .reportFrameSent => Sys2Proof.Machine.execReportFrameSent s
  | .replyFrameSent => Sys2Proof.Machine.execReplyFrameSent s
  | .commandTakenFromAssembly => Sys2Proof.Machine.execCommandTakenFromAssembly s
  | .officeFrameDiscarded => Sys2Proof.Machine.execOfficeFrameDiscarded s
  | .unknownKind kind => Sys2Proof.Machine.execUnknownKind kind s
  | .setTime p => Sys2Proof.Machine.execSetTime p s
  | .stationPut p => Sys2Proof.Machine.execStationPut p s
  | .stationGet p => Sys2Proof.Machine.execStationGet p s
  | .stationResume p => Sys2Proof.Machine.execStationResume p s
  | .display p => Sys2Proof.Machine.execDisplay p s
  | .badgePut p => Sys2Proof.Machine.execBadgePut p s
  | .badgeDrop p => Sys2Proof.Machine.execBadgeDrop p s
  | .badgeGet p => Sys2Proof.Machine.execBadgeGet p s
  | .presenceSet p => Sys2Proof.Machine.execPresenceSet p s
  | .conflictRead p => Sys2Proof.Machine.execConflictRead p s
  | .inputPut p => Sys2Proof.Machine.execInputPut p s
  | .inputGet p => Sys2Proof.Machine.execInputGet p s
  | .doorPut p => Sys2Proof.Machine.execDoorPut p s
  | .doorGet p => Sys2Proof.Machine.execDoorGet p s
  | .schedulePut p => Sys2Proof.Machine.execSchedulePut p s
  | .scheduleGet p => Sys2Proof.Machine.execScheduleGet p s
  | .doorCommandLockdown p => Sys2Proof.Machine.execDoorCommandLockdown p s
  | .doorCommandHoldFree p => Sys2Proof.Machine.execDoorCommandHoldFree p s
  | .doorCommandNormal p => Sys2Proof.Machine.execDoorCommandNormal p s
  | .releaseOnce p => Sys2Proof.Machine.execReleaseOnce p s
  | .alarmClear p => Sys2Proof.Machine.execAlarmClear p s
  | .shiftPut p => Sys2Proof.Machine.execShiftPut p s
  | .shiftGet p => Sys2Proof.Machine.execShiftGet p s
  | .rotaPut p => Sys2Proof.Machine.execRotaPut p s
  | .rotaGet p => Sys2Proof.Machine.execRotaGet p s
  | .holidayPut p => Sys2Proof.Machine.execHolidayPut p s
  | .holidayDrop p => Sys2Proof.Machine.execHolidayDrop p s
  | .holidayList p => Sys2Proof.Machine.execHolidayList p s
  | .payclassPut p => Sys2Proof.Machine.execPayclassPut p s
  | .payclassGet p => Sys2Proof.Machine.execPayclassGet p s
  | .closeRecord p => Sys2Proof.Machine.execCloseRecord p s
  | .closePeriod p => Sys2Proof.Machine.execClosePeriod p s
  | .totalsGet p => Sys2Proof.Machine.execTotalsGet p s
  | .releaseClosed p => Sys2Proof.Machine.execReleaseClosed p s
  | .bellPut p => Sys2Proof.Machine.execBellPut p s
  | .bellGet p => Sys2Proof.Machine.execBellGet p s
  | .bellDrop p => Sys2Proof.Machine.execBellDrop p s
  | .patternPut p => Sys2Proof.Machine.execPatternPut p s
  | .patternGet p => Sys2Proof.Machine.execPatternGet p s
  | .bellRing p => Sys2Proof.Machine.execBellRing p s
  | .bellStop p => Sys2Proof.Machine.execBellStop p s
  | .pause p => Sys2Proof.Machine.execPause p s
  | .resume p => Sys2Proof.Machine.execResume p s
  | .settingsPut p => Sys2Proof.Machine.execSettingsPut p s
  | .settingsGet p => Sys2Proof.Machine.execSettingsGet p s
  | .status p => Sys2Proof.Machine.execStatus p s
  | .ident p => Sys2Proof.Machine.execIdent p s
  | .reset p => Sys2Proof.Machine.execReset p s
  | .backupDomainLost => Sys2Proof.Machine.execBackupDomainLost s
  | .powerReturn => Sys2Proof.Machine.execPowerReturn s

end Sys2Proof.Machine
end

