-- ==== Sys2Proof/Machine/Step.lean ====
section
/-!
DEFINITION. One step of the part: the command or event at the front of the queue is taken; with an empty queue time goes
on.
-/

namespace Sys2Proof.Machine

open Sys2Proof

/-- With an empty queue the first event that is due is taken; with none due, one crystal tick passes (log 1). -/
def State.idle (s : State) : Host.Outcome State Fault Refusal :=
  match s.dueEvents with
  | [] => .next s.tick
  | e :: _ => exec e s

/-- One step: the command or event at the front of the queue is taken with the queue's rest. -/
def step (s : State) : Host.Outcome State Fault Refusal :=
  match s.pending with
  | [] => s.idle
  | c :: rest => exec c (s.withPending rest)

/-- The state with the command that a word spells put at the front of its queue; the table gives no command bits, so no
word spells one. -/
def State.withFetchWord (s : State) (nbits w : Nat) : State :=
  match decodeTableWord nbits w with
  | none => s
  | some c => s.withPending (c :: s.pending)

end Sys2Proof.Machine
end

