-- ==== Sys2Proof/Machine/Layouts.lean ====
section
/-!
DEFINITION. The bytes of numbers, lists and frames (00_scope.md 3.5, R185), and layouts: a layout says together how a
value is sent, how it is read from the front of a list of bytes, and which values its bytes can hold.
-/

namespace Sys2Proof.Machine

open Sys2Proof

/-! ### Numbers (R185) -/

/-- R185: a number in `w` bytes, high byte first. -/
def numBytes : Nat → Nat → List Byte
  | 0, _ => []
  | w + 1, n => BitVec.ofNat 8 (n / 256 ^ w) :: numBytes w (n % 256 ^ w)

/-- The number that bytes give, high byte first. -/
def bytesNum : List Byte → Nat
  | [] => 0
  | b :: rest => b.toNat * 256 ^ rest.length + bytesNum rest

/-- R185: a signed number in `w` bytes, in two's complement. -/
def intBytes (w : Nat) (x : Int) : List Byte := numBytes w (x % (256 ^ w : Nat)).toNat

/-- The signed number of `w` bytes that a number below 256 to the `w` stands for. -/
def signed (w n : Nat) : Int := if 2 * n < 256 ^ w then n else (n : Int) - (256 ^ w : Nat)

/-- R185: a yes-or-no field. -/
def flagByte (b : Bool) : List Byte := [if b then 1 else 0]

/-- R185: a field with a named list of values. -/
def codeByte {α : Type} [DecidableEq α] (values : List α) (a : α) : List Byte := numBytes 1 (codeIn values a)

/-- R185: a field of one byte that may be absent, sent as FF hex. -/
def optByte {n : Nat} : Option (Fin n) → List Byte
  | none => [0xFF]
  | some i => numBytes 1 i.val

/-- R185: a plant minute or a calendar reading that may be absent, sent as FFFFFFFF hex. -/
def optReading : Option Nat → List Byte
  | none => [0xFF, 0xFF, 0xFF, 0xFF]
  | some m => numBytes 4 m

/-- R185: a list: its count in one byte, then its entries. -/
def listBytes {α : Type} (f : α → List Byte) (xs : List α) : List Byte := numBytes 1 xs.length ++ xs.flatMap f

/-- The bytes of a part that is absent, which the receiver does not read: free values (log 14). -/
def unread (from_ count : Nat) : List Byte := (List.range count).map fun k => Config.freeByte (from_ + k)

/-! ### The check and the envelope (00_scope.md 3.5) -/

/-- The check register after one bit, the most significant first, with polynomial x^16+x^12+x^5+1. -/
def crcBit (crc : BitVec 16) (bit : Bool) : BitVec 16 :=
  let shifted := crc <<< 1
  if crc.msb != bit then shifted ^^^ 0x1021 else shifted

/-- The check register after one byte. -/
def crcByte (crc : BitVec 16) (b : Byte) : BitVec 16 :=
  ((List.range 8).map fun k => b.getMsbD k).foldl crcBit crc

/-- The check over some bytes. -/
def crc (bytes : List Byte) : BitVec 16 := bytes.foldl crcByte 0xFFFF

/-- R185: the start byte of every frame. -/
def startByte : Byte := 0xA5

/-- The length, kind and payload bytes of a frame. -/
def frameBody (kind : Nat) (payload : List Byte) : List Byte :=
  numBytes 1 (payload.length + 3) ++ numBytes 1 kind ++ payload

/-- A whole frame: start, length, kind, payload and check. -/
def frame (kind : Nat) (payload : List Byte) : List Byte :=
  startByte :: (frameBody kind payload ++ numBytes 2 (crc (frameBody kind payload)).toNat)

/-- The last two bytes of a list, and what stands before them. -/
def splitCheck (bytes : List Byte) : List Byte × List Byte :=
  (bytes.take (bytes.length - 2), bytes.drop (bytes.length - 2))

/-- R22, R175: the kind and payload of a received frame that passes the envelope tests: it begins with the start byte,
its length byte is at most 250 and counts the bytes after it, and its check holds. DESIGN CHOICE (log 39): a frame with no
kind byte between its length and its check is discarded like one that fails a test. -/
def openFrame : List Byte → Option (Nat × List Byte)
  | start :: length :: rest =>
    let parts := splitCheck rest
    match parts.1 with
    | [] => none
    | kind :: payload =>
      if start = startByte ∧ length.toNat ≤ 250 ∧ rest.length = length.toNat
          ∧ parts.2 = numBytes 2 (crc (length :: kind :: payload)).toNat then
        some (kind.toNat, payload)
      else none
  | _ => none

/-! ### Layouts -/

/-- How a value is sent and read, and which values the bytes hold. -/
structure Layout (α : Type) where
  send : α → List Byte
  read : List Byte → Option (α × List Byte)
  holds : α → Bool

/-- A number in `w` bytes. -/
def Layout.num (w : Nat) : Layout Nat where
  send := numBytes w
  read := fun bytes => if bytes.length < w then none else some (bytesNum (bytes.take w), bytes.drop w)
  holds := fun n => decide (n < 256 ^ w)

/-- A signed number in `w` bytes. -/
def Layout.int (w : Nat) : Layout Int where
  send := intBytes w
  read := fun bytes => ((Layout.num w).read bytes).map fun r => (signed w r.1, r.2)
  holds := fun x => decide (-(256 ^ w : Nat) ≤ 2 * x) && decide (2 * x < (256 ^ w : Nat))

/-- One value after another. -/
def Layout.pair {α β : Type} (a : Layout α) (b : Layout β) : Layout (α × β) where
  send := fun p => a.send p.1 ++ b.send p.2
  read := fun bytes =>
    match a.read bytes with
    | none => none
    | some (x, rest) => (b.read rest).map fun r => ((x, r.1), r.2)
  holds := fun p => a.holds p.1 && b.holds p.2

/-- `n` values of one layout. -/
def readMany {α : Type} (a : Layout α) : Nat → List Byte → Option (List α × List Byte)
  | 0, bytes => some ([], bytes)
  | n + 1, bytes =>
    match a.read bytes with
    | none => none
    | some (x, rest) => (readMany a n rest).map fun r => (x :: r.1, r.2)

/-- R185: a list: its count, then its entries. -/
def Layout.list {α : Type} (a : Layout α) : Layout (List α) where
  send := listBytes a.send
  read := fun bytes =>
    match (Layout.num 1).read bytes with
    | none => none
    | some (n, rest) => readMany a n rest
  holds := fun xs => decide (xs.length < 256) && xs.all a.holds

/-- A value made of another: `into` builds it and `out` gives its parts. -/
def Layout.as {α β : Type} (a : Layout α) (into : α → β) (out : β → α) : Layout β where
  send := fun b => a.send (out b)
  read := fun bytes => (a.read bytes).map fun r => (into r.1, r.2)
  holds := fun b => a.holds (out b)

/-- No field. -/
def Layout.nothing : Layout Unit where
  send := fun _ => []
  read := fun bytes => some ((), bytes)
  holds := fun _ => true

/-- A whole payload: malformed when a value cannot be read or bytes are left over (R177). -/
def Layout.payload {α : Type} (a : Layout α) (bytes : List Byte) : Payload α :=
  match a.read bytes with
  | some (x, []) => .fields x
  | _ => .malformed

end Sys2Proof.Machine
end

