-- ==== Sys2Proof/Machine/ReceivedFrames.lean ====
section
/-!
DEFINITION. The frames the GT20 receives, byte by byte (R22, R175, R177, R185): what a received frame is as a command or
an event, and the bytes of a management command.
-/

namespace Sys2Proof.Machine

open Sys2Proof

/-! ### The gate line -/

/-- R22: the event a frame received on the gate line stands for. -/
def gateFrameOf (bytes : List Byte) : Instr :=
  match openFrame bytes with
  | some (0x31, [b2, b1, b0, a1, a0, flags]) =>
    .punchFrame (bytesNum [b2, b1, b0]) (bytesNum [a1, a0]) (flags.getLsbD 0)
  | some (0x32, [flags]) => .statusFrame (flags.getLsbD 0) (flags.getLsbD 1)
  | _ => .gateFrameDiscarded

/-! ### The payloads of the management commands (R185: the fields in the order their rules name them) -/

/-- A number of one byte. -/
def byte : Layout Nat := Layout.num 1
/-- A number of two bytes. -/
def word : Layout Nat := Layout.num 2
/-- A badge number. -/
def three : Layout Nat := Layout.num 3
/-- A calendar reading. -/
def four : Layout Nat := Layout.num 4
/-- A bell offset. -/
def signedByte : Layout Int := Layout.int 1
/-- A trim. -/
def signedWord : Layout Int := Layout.int 2

/-- R10. -/
def setTimeLayout : Layout SetTimeArgs :=
  (word.pair (byte.pair (byte.pair (byte.pair (byte.pair byte))))).as
    (fun (year, month, day, hour, minute, second) => ⟨year, month, day, hour, minute, second⟩)
    (fun a => (a.year, a.month, a.day, a.hour, a.minute, a.second))

/-- R20. -/
def stationPutLayout : Layout StationPutArgs :=
  (byte.pair (byte.pair (byte.pair (byte.pair (byte.pair (byte.pair byte)))))).as
    (fun (station, configured, level, mode, door, zone, enabled) => ⟨station, configured, level, mode, door, zone,
      enabled⟩)
    (fun a => (a.station, a.configured, a.level, a.mode, a.door, a.zone, a.enabled))

/-- R36. -/
def displayLayout : Layout DisplayArgs :=
  (byte.pair byte.list).as
    (fun (target, text) => ⟨target, text⟩)
    (fun a => (a.target, a.text))

/-- R42. -/
def badgePutLayout : Layout BadgePutArgs :=
  (three.pair (byte.pair (byte.pair (word.pair byte)))).as
    (fun (badge, crew, payClass, doors, flags) => ⟨badge, crew, payClass, doors, flags⟩)
    (fun a => (a.badge, a.crew, a.payClass, a.doors, a.flags))

/-- R45. -/
def badgeGetLayout : Layout BadgeGetArgs :=
  (three.pair byte).as
    (fun (badge, selector) => ⟨badge, selector⟩)
    (fun a => (a.badge, a.selector))

/-- R47. -/
def presenceSetLayout : Layout PresenceSetArgs :=
  (three.pair byte).as
    (fun (badge, presence) => ⟨badge, presence⟩)
    (fun a => (a.badge, a.presence))

/-- R81. -/
def inputPutLayout : Layout InputPutArgs :=
  (byte.pair (byte.pair byte)).as
    (fun (input, activeLevel, filterTime) => ⟨input, activeLevel, filterTime⟩)
    (fun a => (a.input, a.activeLevel, a.filterTime))

/-- R82. -/
def doorPutLayout : Layout DoorPutArgs :=
  (byte.pair (byte.pair (byte.pair (byte.pair (byte.pair (byte.pair (word.pair (byte.pair (byte.pair (byte.pair
    (byte.pair (byte.pair byte)))))))))))).as
    (fun (door, configured, kind, contact, button, releaseTime, heldLimit, schedule, defaultMode, failMode,
      bellPresent, bellOutputs, bellPattern) => ⟨door, configured, kind, contact, button, releaseTime, heldLimit,
      schedule, defaultMode, failMode, bellPresent, bellOutputs, bellPattern⟩)
    (fun a => (a.door, a.configured, a.kind, a.contact, a.button, a.releaseTime, a.heldLimit, a.schedule,
      a.defaultMode, a.failMode, a.bellPresent, a.bellOutputs, a.bellPattern))

/-- R84. -/
def windowLayout : Layout WindowArgs :=
  (byte.pair (word.pair (word.pair byte))).as
    (fun (weekdays, start, stop, mode) => ⟨weekdays, start, stop, mode⟩)
    (fun a => (a.weekdays, a.start, a.stop, a.mode))

/-- R84. -/
def schedulePutLayout : Layout SchedulePutArgs :=
  (byte.pair windowLayout.list).as
    (fun (schedule, windows) => ⟨schedule, windows⟩)
    (fun a => (a.schedule, a.windows))

/-- R103. -/
def breakLayout : Layout BreakArgs :=
  (word.pair (byte.pair byte)).as
    (fun (offset, length, paid) => ⟨offset, length, paid⟩)
    (fun a => (a.offset, a.length, a.paid))

/-- R103. -/
def shiftPutLayout : Layout ShiftPutArgs :=
  (byte.pair (byte.pair (word.pair (word.pair (word.pair (byte.pair (byte.pair (word.pair (byte.pair (byte.pair
    (byte.pair (word.pair breakLayout.list)))))))))))).as
    (fun (shift, defined, start, length, standardLength, entryLead, lateGrace, latestIn, leaveGrace, overstayGrace,
      unit, autoCloseDelay, breaks) => ⟨shift, defined, start, length, standardLength, entryLead, lateGrace,
      latestIn, leaveGrace, overstayGrace, unit, autoCloseDelay, breaks⟩)
    (fun a => (a.shift, a.defined, a.start, a.length, a.standardLength, a.entryLead, a.lateGrace, a.latestIn,
      a.leaveGrace, a.overstayGrace, a.unit, a.autoCloseDelay, a.breaks))

/-- R105. -/
def rotaPutLayout : Layout RotaPutArgs :=
  (byte.pair (byte.pair (word.pair byte.list))).as
    (fun (crew, cycleLength, anchor, entries) => ⟨crew, cycleLength, anchor, entries⟩)
    (fun a => (a.crew, a.cycleLength, a.anchor, a.entries))

/-- R109. -/
def payclassPutLayout : Layout PayClassPutArgs :=
  (byte.pair (word.pair (word.pair (word.pair word)))).as
    (fun (payClass, baseRate, overtimeFactor, holidayFactor, nightAdder) => ⟨payClass, baseRate, overtimeFactor,
      holidayFactor, nightAdder⟩)
    (fun a => (a.payClass, a.baseRate, a.overtimeFactor, a.holidayFactor, a.nightAdder))

/-- R141. -/
def closeRecordLayout : Layout CloseRecordArgs :=
  (three.pair four).as
    (fun (badge, outTime) => ⟨badge, outTime⟩)
    (fun a => (a.badge, a.outTime))

/-- R145. -/
def totalsGetLayout : Layout TotalsGetArgs :=
  (three.pair (byte.pair byte)).as
    (fun (badge, selector, choice) => ⟨badge, selector, choice⟩)
    (fun a => (a.badge, a.selector, a.choice))

/-- R149. -/
def bellPutLayout : Layout BellPutArgs :=
  (byte.pair (byte.pair (byte.pair (word.pair (byte.pair (byte.pair (byte.pair (signedByte.pair (byte.pair
    (byte.pair (byte.pair (byte.pair byte)))))))))))).as
    (fun (entry, defined, kind, minute, weekdays, crew, edge, offset, holidayAction, outputs, pattern, priority,
      recurrence) => ⟨entry, defined, kind, minute, weekdays, crew, edge, offset, holidayAction, outputs, pattern,
      priority, recurrence⟩)
    (fun a => (a.entry, a.defined, a.kind, a.minute, a.weekdays, a.crew, a.edge, a.offset, a.holidayAction,
      a.outputs, a.pattern, a.priority, a.recurrence))

/-- R150. -/
def stepLayout : Layout StepArgs :=
  (byte.pair byte).as
    (fun (on, off) => ⟨on, off⟩)
    (fun a => (a.on, a.off))

/-- R150. -/
def patternPutLayout : Layout PatternPutArgs :=
  (byte.pair (stepLayout.list.pair byte)).as
    (fun (pattern, steps, repeats) => ⟨pattern, steps, repeats⟩)
    (fun a => (a.pattern, a.steps, a.repeats))

/-- R161. -/
def bellRingLayout : Layout BellRingArgs :=
  (byte.pair (byte.pair byte)).as
    (fun (outputs, pattern, priority) => ⟨outputs, pattern, priority⟩)
    (fun a => (a.outputs, a.pattern, a.priority))

/-- R178. -/
def settingsPutLayout : Layout SettingsPutArgs :=
  (byte.pair (byte.pair (byte.pair (byte.pair (word.pair (word.pair (word.pair (byte.pair (byte.pair (byte.pair
    (byte.pair signedWord))))))))))).as
    (fun (duplicateWindow, conflictWindow, staleLimit, burstBudget, catchUpLimit, nightStart, nightEnd,
      evacuationPattern, alarmMode, frequency, source, trim) => ⟨duplicateWindow, conflictWindow, staleLimit,
      burstBudget, catchUpLimit, nightStart, nightEnd, evacuationPattern, alarmMode, frequency, source, trim⟩)
    (fun a => (a.duplicateWindow, a.conflictWindow, a.staleLimit, a.burstBudget, a.catchUpLimit, a.nightStart,
      a.nightEnd, a.evacuationPattern, a.alarmMode, a.frequency, a.source, a.trim))

/-- R87: the command that a DOOR_COMMAND payload of a target and a command code gives; a code that is none of the four is
no payload of any of them. -/
def doorCommandOf : Payload (Nat × Nat) → Instr
  | .fields (target, 0) => .doorCommandLockdown (.fields target)
  | .fields (target, 1) => .doorCommandHoldFree (.fields target)
  | .fields (target, 2) => .doorCommandNormal (.fields target)
  | .fields (target, 3) => .releaseOnce (.fields target)
  | _ => .doorCommandNormal .malformed

/-- R177, R185: the command of a kind and a payload. -/
def commandOf (kind : Nat) (payload : List Byte) : Instr :=
  match kind with
  | 0x01 => .setTime (setTimeLayout.payload payload)
  | 0x02 => .stationPut (stationPutLayout.payload payload)
  | 0x03 => .stationGet (byte.payload payload)
  | 0x04 => .stationResume (byte.payload payload)
  | 0x05 => .display (displayLayout.payload payload)
  | 0x06 => .badgePut (badgePutLayout.payload payload)
  | 0x07 => .badgeDrop (three.payload payload)
  | 0x08 => .badgeGet (badgeGetLayout.payload payload)
  | 0x09 => .presenceSet (presenceSetLayout.payload payload)
  | 0x0A => .conflictRead (Layout.nothing.payload payload)
  | 0x0B => .inputPut (inputPutLayout.payload payload)
  | 0x0C => .inputGet (byte.payload payload)
  | 0x0D => .doorPut (doorPutLayout.payload payload)
  | 0x0E => .doorGet (byte.payload payload)
  | 0x0F => .schedulePut (schedulePutLayout.payload payload)
  | 0x10 => .scheduleGet (byte.payload payload)
  | 0x11 => doorCommandOf ((byte.pair byte).payload payload)
  | 0x12 => .alarmClear (Layout.nothing.payload payload)
  | 0x13 => .shiftPut (shiftPutLayout.payload payload)
  | 0x14 => .shiftGet (byte.payload payload)
  | 0x15 => .rotaPut (rotaPutLayout.payload payload)
  | 0x16 => .rotaGet (byte.payload payload)
  | 0x17 => .holidayPut (word.payload payload)
  | 0x18 => .holidayDrop (word.payload payload)
  | 0x19 => .holidayList (Layout.nothing.payload payload)
  | 0x1A => .payclassPut (payclassPutLayout.payload payload)
  | 0x1B => .payclassGet (byte.payload payload)
  | 0x1C => .closeRecord (closeRecordLayout.payload payload)
  | 0x1D => .closePeriod (Layout.nothing.payload payload)
  | 0x1E => .totalsGet (totalsGetLayout.payload payload)
  | 0x1F => .releaseClosed (Layout.nothing.payload payload)
  | 0x20 => .bellPut (bellPutLayout.payload payload)
  | 0x21 => .bellGet (byte.payload payload)
  | 0x22 => .bellDrop (byte.payload payload)
  | 0x23 => .patternPut (patternPutLayout.payload payload)
  | 0x24 => .patternGet (byte.payload payload)
  | 0x25 => .bellRing (bellRingLayout.payload payload)
  | 0x26 => .bellStop (byte.payload payload)
  | 0x27 => .pause (Layout.nothing.payload payload)
  | 0x28 => .resume (Layout.nothing.payload payload)
  | 0x29 => .settingsPut (settingsPutLayout.payload payload)
  | 0x2A => .settingsGet (Layout.nothing.payload payload)
  | 0x2B => .status (Layout.nothing.payload payload)
  | 0x2C => .ident (Layout.nothing.payload payload)
  | 0x2D => .reset (Layout.nothing.payload payload)
  | other => .unknownKind other

/-- R175, R177: the event or command that the bytes of a frame on the office link stand for, by the tests of R175 alone;
State.officeFrame adds what the state at the start byte decides. -/
def officeFrameOf (bytes : List Byte) : Instr :=
  match openFrame bytes with
  | some (kind, payload) => commandOf kind payload
  | none => .officeFrameDiscarded

/-- R175: the event or command a frame received on the office link comes as, from the state at its start byte: with a
command waiting in the assembly there, or in LOW, the frame is discarded whole, whatever its bytes and whenever it ends
(log 41). -/
def State.officeFrame (began : State) (bytes : List Byte) : Instr :=
  if began.isLow ∨ began.olc.assembly.isSome then .officeFrameDiscarded else officeFrameOf bytes

/-- R185: the kind and the payload bytes of a management command, and whether its fields fit their bytes; nothing for an
event, an unknown kind and a malformed payload, which have no one payload. -/
def commandParts : Instr → Option (Nat × List Byte × Bool)
  | .setTime (.fields a) => some (0x01, setTimeLayout.send a, setTimeLayout.holds a)
  | .stationPut (.fields a) => some (0x02, stationPutLayout.send a, stationPutLayout.holds a)
  | .stationGet (.fields a) => some (0x03, byte.send a, byte.holds a)
  | .stationResume (.fields a) => some (0x04, byte.send a, byte.holds a)
  | .display (.fields a) => some (0x05, displayLayout.send a, displayLayout.holds a)
  | .badgePut (.fields a) => some (0x06, badgePutLayout.send a, badgePutLayout.holds a)
  | .badgeDrop (.fields a) => some (0x07, three.send a, three.holds a)
  | .badgeGet (.fields a) => some (0x08, badgeGetLayout.send a, badgeGetLayout.holds a)
  | .presenceSet (.fields a) => some (0x09, presenceSetLayout.send a, presenceSetLayout.holds a)
  | .conflictRead (.fields a) => some (0x0A, Layout.nothing.send a, Layout.nothing.holds a)
  | .inputPut (.fields a) => some (0x0B, inputPutLayout.send a, inputPutLayout.holds a)
  | .inputGet (.fields a) => some (0x0C, byte.send a, byte.holds a)
  | .doorPut (.fields a) => some (0x0D, doorPutLayout.send a, doorPutLayout.holds a)
  | .doorGet (.fields a) => some (0x0E, byte.send a, byte.holds a)
  | .schedulePut (.fields a) => some (0x0F, schedulePutLayout.send a, schedulePutLayout.holds a)
  | .scheduleGet (.fields a) => some (0x10, byte.send a, byte.holds a)
  | .doorCommandLockdown (.fields a) => some (0x11, (byte.pair byte).send (a, 0), (byte.pair byte).holds (a, 0))
  | .doorCommandHoldFree (.fields a) => some (0x11, (byte.pair byte).send (a, 1), (byte.pair byte).holds (a, 1))
  | .doorCommandNormal (.fields a) => some (0x11, (byte.pair byte).send (a, 2), (byte.pair byte).holds (a, 2))
  | .releaseOnce (.fields a) => some (0x11, (byte.pair byte).send (a, 3), (byte.pair byte).holds (a, 3))
  | .alarmClear (.fields a) => some (0x12, Layout.nothing.send a, Layout.nothing.holds a)
  | .shiftPut (.fields a) => some (0x13, shiftPutLayout.send a, shiftPutLayout.holds a)
  | .shiftGet (.fields a) => some (0x14, byte.send a, byte.holds a)
  | .rotaPut (.fields a) => some (0x15, rotaPutLayout.send a, rotaPutLayout.holds a)
  | .rotaGet (.fields a) => some (0x16, byte.send a, byte.holds a)
  | .holidayPut (.fields a) => some (0x17, word.send a, word.holds a)
  | .holidayDrop (.fields a) => some (0x18, word.send a, word.holds a)
  | .holidayList (.fields a) => some (0x19, Layout.nothing.send a, Layout.nothing.holds a)
  | .payclassPut (.fields a) => some (0x1A, payclassPutLayout.send a, payclassPutLayout.holds a)
  | .payclassGet (.fields a) => some (0x1B, byte.send a, byte.holds a)
  | .closeRecord (.fields a) => some (0x1C, closeRecordLayout.send a, closeRecordLayout.holds a)
  | .closePeriod (.fields a) => some (0x1D, Layout.nothing.send a, Layout.nothing.holds a)
  | .totalsGet (.fields a) => some (0x1E, totalsGetLayout.send a, totalsGetLayout.holds a)
  | .releaseClosed (.fields a) => some (0x1F, Layout.nothing.send a, Layout.nothing.holds a)
  | .bellPut (.fields a) => some (0x20, bellPutLayout.send a, bellPutLayout.holds a)
  | .bellGet (.fields a) => some (0x21, byte.send a, byte.holds a)
  | .bellDrop (.fields a) => some (0x22, byte.send a, byte.holds a)
  | .patternPut (.fields a) => some (0x23, patternPutLayout.send a, patternPutLayout.holds a)
  | .patternGet (.fields a) => some (0x24, byte.send a, byte.holds a)
  | .bellRing (.fields a) => some (0x25, bellRingLayout.send a, bellRingLayout.holds a)
  | .bellStop (.fields a) => some (0x26, byte.send a, byte.holds a)
  | .pause (.fields a) => some (0x27, Layout.nothing.send a, Layout.nothing.holds a)
  | .resume (.fields a) => some (0x28, Layout.nothing.send a, Layout.nothing.holds a)
  | .settingsPut (.fields a) => some (0x29, settingsPutLayout.send a, settingsPutLayout.holds a)
  | .settingsGet (.fields a) => some (0x2A, Layout.nothing.send a, Layout.nothing.holds a)
  | .status (.fields a) => some (0x2B, Layout.nothing.send a, Layout.nothing.holds a)
  | .ident (.fields a) => some (0x2C, Layout.nothing.send a, Layout.nothing.holds a)
  | .reset (.fields a) => some (0x2D, Layout.nothing.send a, Layout.nothing.holds a)
  | _ => none

/-- R185: the frame of a management command whose fields fit their bytes and whose length byte is at most 250. -/
def commandFrame (c : Instr) : Option (List Byte) :=
  match commandParts c with
  | some (kind, payload, true) => if payload.length + 3 ≤ 250 then some (frame kind payload) else none
  | _ => none

end Sys2Proof.Machine
end

