-- ==== Sys2Proof/WellFormed.lean ====
section
/-!
DEFINITION. Which commands and events can arrive: their operands fit the bytes that carry them (R185), and a command of an
unknown kind has a kind code that is no management command's (R177). Every meaning is defined for ill-formed ones too.
-/

namespace Sys2Proof

open Sys2Proof.Machine

/-- R185: the kind codes of the management commands. -/
def managementKind (kind : Nat) : Bool := decide (1 ≤ kind) && decide (kind ≤ 0x2D)

/-- R177: the kind of an unknown command is one byte and no management command's. -/
def unknownKindFits (kind : Nat) : Bool := decide (kind < 256) && !managementKind kind

/-- R185: the badge number and the age of a PUNCH frame fit their bytes. -/
def punchFits (badge age : Nat) : Bool := decide (badge < 256 ^ 3) && decide (age < 256 ^ 2)

/-- R185, 00_scope.md 3.5: the fields of a command fit their bytes, and its frame's length byte is at most 250. -/
def fieldsFit : Option (Nat × List Byte × Bool) → Bool
  | none => true
  | some (_, payload, fit) => fit && decide (payload.length + 3 ≤ 250)

/-- Whether a command or an event can arrive. -/
def Instr.wellFormed (c : Instr) : Bool :=
  match c with
  | .unknownKind kind => unknownKindFits kind
  | .punchFrame badge age _ => punchFits badge age
  | c => fieldsFit (commandParts c)

end Sys2Proof
end

