-- ==== Sys2Proof/Safety.lean ====
section
/-!
DEFINITION. The terms in which claims about the GT20 are stated: what taking a command leaves, what an event leaves once
both lines have gone on, and the conditions on the state that every step keeps.
-/

namespace Sys2Proof.Machine

open Sys2Proof

/-! ### Commands -/

/-- R185: the kind code of a management command, or the code an unknown command brought (R177); an event has none. -/
def commandKind : Instr → Option Nat
  | .crystalSecondEnd => none
  | .mainsCycle => none
  | .mainsLoss => none
  | .lowBatterySample _ => none
  | .attentionWireChange _ => none
  | .roundResult _ => none
  | .restTimerExpiry => none
  | .gateFrameDiscarded => none
  | .punchFrame _ _ _ => none
  | .statusFrame _ _ => none
  | .grantTimeout => none
  | .probeTimerExpiry _ => none
  | .probeWaitExpiry => none
  | .gateFrameSent => none
  | .inputLevelChange _ _ => none
  | .filterTimeExpiry _ => none
  | .inputSample => none
  | .releaseTimerExpiry _ => none
  | .heldTimerExpiry _ => none
  | .pulseTimerExpiry => none
  | .phaseTimerExpiry _ => none
  | .readyWireChange _ => none
  | .reportFrameSent => none
  | .replyFrameSent => none
  | .commandTakenFromAssembly => none
  | .officeFrameDiscarded => none
  | .unknownKind kind => some kind
  | .setTime _ => some 0x01
  | .stationPut _ => some 0x02
  | .stationGet _ => some 0x03
  | .stationResume _ => some 0x04
  | .display _ => some 0x05
  | .badgePut _ => some 0x06
  | .badgeDrop _ => some 0x07
  | .badgeGet _ => some 0x08
  | .presenceSet _ => some 0x09
  | .conflictRead _ => some 0x0A
  | .inputPut _ => some 0x0B
  | .inputGet _ => some 0x0C
  | .doorPut _ => some 0x0D
  | .doorGet _ => some 0x0E
  | .schedulePut _ => some 0x0F
  | .scheduleGet _ => some 0x10
  | .doorCommandLockdown _ => some 0x11
  | .doorCommandHoldFree _ => some 0x11
  | .doorCommandNormal _ => some 0x11
  | .releaseOnce _ => some 0x11
  | .alarmClear _ => some 0x12
  | .shiftPut _ => some 0x13
  | .shiftGet _ => some 0x14
  | .rotaPut _ => some 0x15
  | .rotaGet _ => some 0x16
  | .holidayPut _ => some 0x17
  | .holidayDrop _ => some 0x18
  | .holidayList _ => some 0x19
  | .payclassPut _ => some 0x1A
  | .payclassGet _ => some 0x1B
  | .closeRecord _ => some 0x1C
  | .closePeriod _ => some 0x1D
  | .totalsGet _ => some 0x1E
  | .releaseClosed _ => some 0x1F
  | .bellPut _ => some 0x20
  | .bellGet _ => some 0x21
  | .bellDrop _ => some 0x22
  | .patternPut _ => some 0x23
  | .patternGet _ => some 0x24
  | .bellRing _ => some 0x25
  | .bellStop _ => some 0x26
  | .pause _ => some 0x27
  | .resume _ => some 0x28
  | .settingsPut _ => some 0x29
  | .settingsGet _ => some 0x2A
  | .status _ => some 0x2B
  | .ident _ => some 0x2C
  | .reset _ => some 0x2D
  | .backupDomainLost => none
  | .powerReturn => none

/-- The known commands of R177 whose payload is not the payload their kind requires, with their kinds. -/
def malformedCommands : List (Nat × Instr) :=
  [(0x01, .setTime .malformed), (0x02, .stationPut .malformed), (0x03, .stationGet .malformed),
    (0x04, .stationResume .malformed), (0x05, .display .malformed), (0x06, .badgePut .malformed),
    (0x07, .badgeDrop .malformed), (0x08, .badgeGet .malformed), (0x09, .presenceSet .malformed),
    (0x0A, .conflictRead .malformed), (0x0B, .inputPut .malformed), (0x0C, .inputGet .malformed),
    (0x0D, .doorPut .malformed), (0x0E, .doorGet .malformed), (0x0F, .schedulePut .malformed)]
  ++ [(0x10, .scheduleGet .malformed), (0x11, .doorCommandLockdown .malformed),
    (0x11, .doorCommandHoldFree .malformed), (0x11, .doorCommandNormal .malformed), (0x11, .releaseOnce .malformed),
    (0x12, .alarmClear .malformed), (0x13, .shiftPut .malformed), (0x14, .shiftGet .malformed),
    (0x15, .rotaPut .malformed), (0x16, .rotaGet .malformed), (0x17, .holidayPut .malformed),
    (0x18, .holidayDrop .malformed), (0x19, .holidayList .malformed), (0x1A, .payclassPut .malformed),
    (0x1B, .payclassGet .malformed), (0x1C, .closeRecord .malformed), (0x1D, .closePeriod .malformed)]
  ++ [(0x1E, .totalsGet .malformed), (0x1F, .releaseClosed .malformed), (0x20, .bellPut .malformed),
    (0x21, .bellGet .malformed), (0x22, .bellDrop .malformed), (0x23, .patternPut .malformed),
    (0x24, .patternGet .malformed), (0x25, .bellRing .malformed), (0x26, .bellStop .malformed),
    (0x27, .pause .malformed), (0x28, .resume .malformed), (0x29, .settingsPut .malformed),
    (0x2A, .settingsGet .malformed), (0x2B, .status .malformed), (0x2C, .ident .malformed),
    (0x2D, .reset .malformed)]

/-- R175, R176: the supply state is not LOW, no command waits and the reply slot is empty, so that a command is taken at
the instant it is complete. -/
def State.takes (s : State) : Prop := s.tbu.supply ≠ .low ∧ s.olc.assembly = none ∧ s.olc.slot = none

/-! ### What a command or an event leaves -/

/-- R173: what the transmitter sends once it has made its choice. -/
def nextFrame (s : State) : Transmitter :=
  if s.olc.transmitter ≠ .idle ∨ s.olc.ready = false then s.olc.transmitter
  else if s.olc.slot.isSome then .reply
  else if s.rps.pause = false ∧ s.rps.records ≠ [] then .report
  else .idle

/-- The gate line of a state, gone on as R24 and R34 say. -/
def nextGate (s : State) : Glc := s.glc.weigh s.tbu.calendar s.tbu.quality s.sparePlaces

/-- `t` is `s` with both lines gone on, as they do outside LOW, and nothing else changed. -/
def Settled (s t : State) : Prop :=
  t = if s.tbu.supply = .low then s
    else { s with glc := nextGate s, olc := { s.olc with transmitter := nextFrame s } }

/-- The state after a command or an event. -/
def After (c : Instr) (s t : State) : Prop := exec c s = .next t

/-- R173, R176, R177: `t` is `s` with the reply of a command placed in the reply slot, both lines gone on, and nothing
else changed. -/
def Replied (s : State) (kind : Nat) (status : Status) (result : ReplyResult) (t : State) : Prop :=
  t = { s with
    glc := nextGate s
    olc := { s.olc with
      slot := some ⟨kind, status, result⟩
      transmitter := if s.olc.transmitter = .idle ∧ s.olc.ready = true then .reply else s.olc.transmitter } }

/-- A command with this kind is carried out: its effect is `s`, and it is answered OK with these result fields. -/
def Carried (c : Instr) (before : State) (s : State) (kind : Nat) (result : ReplyResult) : Prop :=
  ∃ t, After c before t ∧ Replied s kind .ok result t

/-- A command with this kind is refused with a status, and changes nothing (R177). -/
def Refused (c : Instr) (before : State) (kind : Nat) (status : Status) : Prop :=
  ∃ t, After c before t ∧ Replied before kind status .none t

/-- A command or an event changes nothing. -/
def Ignored (c : Instr) (s : State) : Prop := After c s s

/-! ### A second boundary -/

/-- R5: the second just ended brings the count of good seconds to 30. -/
def returnQualified (t : Tbu) : Prop :=
  t.secondBeganAbsent = true ∧ t.mainsWatch = .absent ∧ 29 ≤ t.qualification
    ∧ match t.frequencyInEffect with
      | .hz50 => 49 ≤ t.cycleCounter ∧ t.cycleCounter ≤ 51
      | .hz60 => 59 ≤ t.cycleCounter ∧ t.cycleCounter ≤ 61

/-- R8, R9, R11: the calendar reading after the boundary. -/
def nextReading (t : Tbu) : Nat :=
  match t.pendingTime with
  | some new => new
  | none => if t.calendar < Config.lastReading then t.calendar + 1 else 0

/-- R12: whether the boundary raises a minute boundary event, the RESTART of a warm start out of LOW among them. -/
def raisesMinuteEvent (t : Tbu) : Prop :=
  t.pendingTime.isSome = true ∨ nextReading t % 60 = 0 ∨ (t.supply = .low ∧ returnQualified t)

/-- The Time Base Unit after a second boundary that does not end in a cold start. -/
structure SecondPassed (t t' : Tbu) : Prop where
  /-- R8: both counters restart from 0. -/
  counters : t'.prescaler = 0 ∧ t'.cycleCounter = 0
  /-- R8, R9, R11: the calendar. -/
  calendar : t'.calendar = nextReading t
  /-- R9, R11: a pending time makes the calendar valid, and the end of the range makes it INVALID. -/
  valid : t'.calendarValid = true ↔
    t.pendingTime.isSome = true ∨ (t.calendarValid = true ∧ t.calendar < Config.lastReading)
  /-- R11: the pending time becomes absent. -/
  pendingTime : t'.pendingTime = none
  /-- R7, R2: the settings are kept, and the source and the frequency in effect take them. -/
  settings : t'.sourceSetting = t.sourceSetting ∧ t'.frequencySetting = t.frequencySetting
    ∧ t'.trimSetting = t.trimSetting
  inEffect : t'.sourceInEffect = t.sourceSetting ∧ t'.frequencyInEffect = t.frequencySetting
  /-- R5: the mains watch, and R14, R16: the supply state. -/
  returned : returnQualified t → t'.mainsWatch = .present ∧ t'.qualification = 0 ∧ t'.gapTime = 0 ∧ t'.supply = .mains
  notReturned : ¬ returnQualified t → t'.mainsWatch = t.mainsWatch ∧ t'.gapTime = t.gapTime ∧ t'.supply = t.supply
  /-- R5: a second is judged when it began while the watch was ABSENT. -/
  counted : ¬ returnQualified t → t'.qualification =
    if t.secondBeganAbsent = true ∧ t.mainsWatch = .absent then
      if t.frequencyInEffect.cycles ≤ t.cycleCounter + 1 ∧ t.cycleCounter ≤ t.frequencyInEffect.cycles + 1 then
        t.qualification + 1
      else 0
    else t.qualification
  /-- R6: the time source state. -/
  timeSource : t'.timeSource = timeSourceOf t.sourceSetting t'.mainsWatch
  /-- R2: the trim in effect. -/
  trim : (raisesMinuteEvent t → t'.trimInEffect = t.trimSetting)
    ∧ (¬ raisesMinuteEvent t → t'.trimInEffect = t.trimInEffect)
  /-- R3: the mains drives the next second, and the accumulator keeps its value. -/
  onMains : t'.timeSource = .mainsLocked → t'.secondEnd = .onCycle ∧ t'.trimAccumulator = t.trimAccumulator
  /-- R1: the crystal drives the next second: k is the accumulator with the trim added, divided by 10,000,000 and
  truncated toward zero. -/
  onCrystal : t'.timeSource ≠ .mainsLocked → ∃ k : Int, ∃ n : Nat,
    t.trimAccumulator + t'.trimInEffect * 32768 = k * 10000000 + t'.trimAccumulator
      ∧ -10000000 < t'.trimAccumulator ∧ t'.trimAccumulator < 10000000
      ∧ (0 ≤ t.trimAccumulator + t'.trimInEffect * 32768 → 0 ≤ t'.trimAccumulator)
      ∧ (t.trimAccumulator + t'.trimInEffect * 32768 ≤ 0 → t'.trimAccumulator ≤ 0)
      ∧ (n : Int) = 32768 - k ∧ t'.secondEnd = .onTick n
  /-- R5: whether the next second is judged. -/
  began : t'.secondBeganAbsent = true ↔ t'.mainsWatch = .absent

/-! ### Conditions that every step keeps -/

/-- Whether each element of a list and the next one stand in a relation. -/
def everyTwo {α : Type} (r : α → α → Bool) : List α → Bool
  | [] => true
  | [_] => true
  | a :: b :: rest => r a b && everyTwo r (b :: rest)

/-- R170: the report kinds that are non-punch reports. -/
def ReportBody.nonPunch : ReportBody → Prop
  | .punch _ => False
  | .shiftClose _ => False
  | .door _ => True
  | .station _ => True
  | .supply _ => True
  | .time _ => True
  | .conflict _ => True

/-- R168, R169, R171, R172: the report store. -/
structure StoreOk (s : State) : Prop where
  /-- R168: the free places are never fewer than twice the number of pending passages. -/
  room : s.rps.records.length + 2 * s.pev.passages.length ≤ Config.storeCapacity
  /-- R168: the next sequence number is in its range. -/
  inRange : s.rps.nextSequence < 65536
  /-- R168: the sequence numbers run on without a gap, from 65,535 to 0. -/
  consecutive : everyTwo (fun a b => b.sequence == (a.sequence + 1) % 65536) s.rps.records = true
  /-- R168: the next record takes the number after the last one's. -/
  upToNext : ∀ r, s.rps.records.getLast? = some r → s.rps.nextSequence = (r.sequence + 1) % 65536
  /-- R171: while a flag holds a report, the spare places are 0. -/
  owedOnlyWhenFull : s.rps.owed.any = true → s.sparePlaces = 0
  /-- R172: PUNCH and SHIFT_CLOSE records have the OWED mark clear. -/
  payNeverOwed : ∀ r ∈ s.rps.records, r.owed = true → r.body.nonPunch
  /-- R170: only a non-punch report becomes owed. -/
  owedKinds : ∀ src b, s.rps.owed.held src = some b → b.nonPunch

/-- 8.2, R135: period totals in their ranges. -/
def Totals.inRange (t : Totals) : Prop :=
  t.regular ≤ Config.maxCount ∧ t.overtime ≤ Config.maxCount ∧ t.night ≤ Config.maxCount ∧ t.holiday ≤ Config.maxCount
    ∧ t.pay ≤ Config.maxPay ∧ t.shifts ≤ Config.maxCount ∧ t.missedOut ≤ Config.maxCount

/-- R41, R46, R128, R135, R143: the badge table. -/
structure BadgesOk (s : State) : Prop where
  /-- R41: the entries are held in ascending badge number, no number twice. -/
  ascending : everyTwo (fun a b => decide (a.number < b.number)) s.btb.entries = true
  /-- R41: at most 2,048 entries. -/
  capacity : s.btb.entries.length ≤ Config.badgeCapacity
  /-- R41: badge numbers are 1..16,777,215. -/
  numbers : ∀ b ∈ s.btb.entries, 1 ≤ b.number ∧ b.number ≤ Config.maxBadgeNumber
  /-- R128: a carry is less than one cent. -/
  carries : ∀ b ∈ s.btb.entries, b.carry < Config.unitsPerCent
  /-- R135: no total passes its maximum. -/
  totals : ∀ b ∈ s.btb.entries, b.current.inRange ∧ ∀ t, b.closed = some t → t.inRange
  /-- R143, R146: every entry holds closed totals exactly while the closed block is present. -/
  closed : ∀ b ∈ s.btb.entries, b.closed.isSome = s.btb.closedBlock.isSome
  /-- R46: an open record is held exactly by a badge that is IN and not NO_PAY. -/
  records : ∀ b ∈ s.btb.entries, b.record.isSome = (!b.flags.noPay && decide (b.presence = .inside))
  /-- 8.6: the period number is in its range. -/
  period : s.btb.period < 65536

/-- R86, R88, R97: a door's mode, state and timers fit together. -/
structure DoorOk (r : Door) : Prop where
  free : r.mode = .free ↔ r.state = .free
  lockdown : r.mode = .lockdown → r.state ≠ .released
  releaseTimer : r.releaseTimer.isSome = true ↔ r.state = .released
  heldTimer : r.heldTimer.isSome = true ↔ r.state = .opened ∧ 0 < r.config.heldLimit
  turnstile : r.config.kind = .turnstile → r.state = .secure ∨ r.state = .released ∨ r.state = .free
  contact : r.config.contact.val < 16
  button : ∀ b, r.config.button = some b → 16 ≤ b.val ∧ b.val < 32

/-- Chapter 5: the doors, their contacts and the alarm. -/
structure DoorsOk (s : State) : Prop where
  doors : ∀ d r, s.drc.doors.get d = some r → DoorOk r
  /-- R82: no input is named by two doors. -/
  inputs : ∀ d r, s.drc.doors.get d = some r → s.inputTaken d r.config = false
  /-- R90, R92, R96: outside FREE a swing door is OPEN, HELD or FORCED exactly while its contact is accepted ACTIVE. -/
  contacts : ∀ d r, s.drc.doors.get d = some r → r.config.kind = .swing → r.mode ≠ .free →
    (s.accepted r.config.contact = true ↔ r.state = .opened ∨ r.state = .held ∨ r.state = .forced)
  /-- R98: the pulse timer runs exactly in PULSING. -/
  pulse : s.drc.pulseTimer.isSome = true ↔ s.drc.alarm = .pulsing

/-- R86: outside LOW every configured door has the effective mode its resolution gives. -/
def ModesResolved (s : State) : Prop :=
  s.tbu.supply ≠ .low → ∀ d r, s.drc.doors.get d = some r → r.mode = s.resolveMode r.config r.override

/-- R48, R49, R68, R69: the pending passages, their badges and their doors. -/
structure PassagesOk (s : State) : Prop where
  /-- R69: at most one passage at each door, kept in ascending door number. -/
  ascending : everyTwo (fun p q => decide (p.door < q.door)) s.pev.passages = true
  /-- R69: at most one passage of each badge. -/
  badges : (s.pev.passages.map fun p => p.badge).Nodup
  /-- R44: the badge of a passage is in the table. -/
  present : ∀ p ∈ s.pev.passages, (s.findBadge p.badge).isSome = true
  /-- R48, R49: a saved last punch is held exactly by the badges with a pending passage. -/
  saved : ∀ b ∈ s.btb.entries, b.savedPunch.isSome = (s.passageOf b.number).isSome
  /-- R68: the door of a passage is RELEASED, in a mode in which it can be. -/
  released : ∀ p ∈ s.pev.passages, ∃ r, s.drc.doors.get p.door = some r ∧ r.state = .released ∧ r.mode ≠ .free
    ∧ r.mode ≠ .lockdown

/-- Chapters 4 and 5: the doors, their modes and the passages pending at them. -/
structure DoorsAndPassagesOk (s : State) : Prop where
  doors : DoorsOk s
  modes : ModesResolved s
  passages : PassagesOk s

/-- Chapter 1: the Time Base Unit. -/
structure TimeOk (s : State) : Prop where
  calendar : s.tbu.calendar ≤ Config.lastReading
  /-- R12: the last minute boundary event was for the plant minute of the calendar. -/
  minute : s.tbu.lastMinute = plantMinute s.tbu.calendar
  /-- R1: the accumulator stays below one whole tick either way. -/
  accumulator : -Config.trimDivisor < s.tbu.trimAccumulator ∧ s.tbu.trimAccumulator < Config.trimDivisor
  trims : -999 ≤ s.tbu.trimSetting ∧ s.tbu.trimSetting ≤ 999 ∧ -999 ≤ s.tbu.trimInEffect ∧ s.tbu.trimInEffect ≤ 999
  /-- R5: 30 good seconds qualify. -/
  qualification : s.tbu.qualification < 30
  /-- R14, R15: the supply state is MAINS exactly while the mains watch is PRESENT. -/
  supply : s.tbu.supply = .mains ↔ s.tbu.mainsWatch = .present
  /-- R6: the time source state. -/
  source : s.tbu.timeSource = timeSourceOf s.tbu.sourceInEffect s.tbu.mainsWatch
  /-- R3: the mains ends the second exactly in MAINS_LOCKED. -/
  driver : s.tbu.timeSource = .mainsLocked ↔ s.tbu.secondEnd = .onCycle
  /-- R1: a crystal second is 32,768 ticks, four more or four fewer at the most. -/
  second : ∀ n, s.tbu.secondEnd = .onTick n → 32764 ≤ n ∧ n ≤ 32772
  /-- R15: the low-battery input is sampled exactly in BATTERY, and two readings are kept. -/
  sampling : s.tbu.lowBatteryTimer.isSome = true ↔ s.tbu.supply = .battery
  samples : s.tbu.lowBatterySamples.length ≤ 2
  /-- R10, R15: a pending time is a calendar reading, and none is held in LOW. -/
  pendingTime : ∀ p, s.tbu.pendingTime = some p → p ≤ Config.lastReading ∧ s.tbu.supply ≠ .low
  /-- R16: the TBU stops, and its backup domain is lost, only in LOW. -/
  backup : s.tbu.running = false ∨ s.tbu.backupIntact = false → s.tbu.supply = .low
  /-- R5: a second that began while the watch was ABSENT is still judged with it ABSENT. -/
  judged : s.tbu.secondBeganAbsent = true → s.tbu.mainsWatch = .absent

/-- R26, R27, R34: what the gate line may be doing in each line state. -/
def Glc.lineFits (g : Glc) : Prop :=
  match g.line with
  | .free => g.sending = none ∧ g.grant = none ∧ g.probed = none
  | .round => g.sending = none ∧ g.grant = none ∧ g.probed = none
  | .own => g.sending.isSome = true ∧ g.grant = none ∧ (g.probed.isSome = true → ∃ level, g.sending = some (.probe level))
  | .probeWait => g.sending = none ∧ g.grant = none ∧ g.probed.isSome = true
  | .grant => (g.sending.isSome = true ∨ g.grant.isSome = true) ∧ g.probed = none

/-- R26, R27: what the part may be sending within a grant. -/
def GateFrame.underGrant : GateFrame → Prop
  | .grant _ _ => True
  | .reply _ _ _ _ => True
  | .time _ _ => False
  | .probe _ => False
  | .display _ _ => False

/-- R26 to R30: the current grant. -/
structure GrantOk (g : Glc) (gr : Grant) : Prop where
  station : (g.stations.get gr.station).config.isSome = true ∧ (g.stations.get gr.station).state = .granted
  budget : 1 ≤ gr.budget ∧ gr.budget ≤ 4
  line : g.line = .grant
  /-- R26, R30: the grant timer runs exactly while the part waits for the station's frame. -/
  timer : gr.timer.isSome = true ↔ g.sending = none
  sending : ∀ f, g.sending = some f → f.underGrant
  /-- R27: while the station may still send, it has sent fewer frames than its budget. -/
  taken : g.sending = none → gr.taken < gr.budget
  replying : ∀ l c r, g.sending = some (.reply l c r false) → gr.taken < gr.budget
  granting : ∀ l b, g.sending = some (.grant l b) → gr.taken < gr.budget

/-- Chapter 2: the station table and the gate line. -/
structure GateOk (s : State) : Prop where
  /-- R178: the burst budget is in its range. -/
  setting : 1 ≤ s.olc.settings.burstBudget ∧ s.olc.settings.burstBudget ≤ 4
  /-- R20: no two configured stations share a level. -/
  levels : ∀ i c, s.stationConfig i = some c → s.glc.levelTaken i c.level = false
  /-- 2.1: an unconfigured station has the record of a cold start. -/
  unconfigured : ∀ i, s.stationConfig i = none → s.glc.stations.get i = Station.cold
  /-- R30: fewer than three consecutive timeouts are counted. -/
  timeouts : ∀ i, (s.glc.stations.get i).timeouts ≤ 2
  /-- R30, R38: a probe timer runs exactly at a SUSPENDED station outside LOW. -/
  probeTimers : ∀ i, (s.glc.stations.get i).probeTimer.isSome = true ↔
    (s.glc.stations.get i).state = .suspended ∧ s.tbu.supply ≠ .low
  /-- R26: the GRANTED station is the one of the current grant. -/
  granted : ∀ i, (s.glc.stations.get i).state = .granted → ∃ gr, s.glc.grant = some gr ∧ gr.station = i
  grant : ∀ gr, s.glc.grant = some gr → GrantOk s.glc gr
  line : s.glc.lineFits
  /-- R38: the line is silent in LOW. -/
  silent : s.tbu.supply = .low → s.glc.line = .free ∧ s.glc.restTimer = none
  /-- R36: at most 32 messages wait. -/
  displays : s.glc.displayQueue.length ≤ Config.displayCapacity

/-- R24, R34: outside LOW a FREE gate line has nothing to send and no round to open. -/
def GateIdle (s : State) : Prop :=
  s.tbu.supply ≠ .low → s.glc.line = .free → s.glc.sending = none →
    s.glc.timePending = false ∧ s.glc.nextProbe = none ∧ s.glc.displayQueue = []
      ∧ s.glc.mayOpenRound s.sparePlaces = false

/-- R157 to R166: one bell output. -/
structure OutputOk (supply : Supply) (o : BellOutput) : Prop where
  /-- R159: at most four rings wait. -/
  capacity : o.waiting.length ≤ Config.waitingCapacity
  /-- R159: in descending order of priority. -/
  order : everyTwo (fun a b => decide (b.priority ≤ a.priority)) o.waiting = true
  /-- R160: an output without a current ring has none waiting. -/
  idle : o.current = none → o.waiting = []
  /-- R164: an evacuation ring never waits. -/
  noneWaits : ∀ w ∈ o.waiting, w.source ≠ .evacuation
  /-- R151, R164: the current ring is at a step of its copied pattern, and only an EVACUATION ring is endless. -/
  current : ∀ c, o.current = some c → 1 ≤ c.position ∧ c.position ≤ c.steps.length
    ∧ (c.ring.source = .evacuation ↔ c.repsLeft = none) ∧ ∀ n, c.repsLeft = some n → 1 ≤ n
  /-- R166: in LOW nothing rings. -/
  low : supply = .low → o.current = none
  /-- R166: in BATTERY only rings of priority 3 are held. -/
  battery : supply = .battery → (∀ c, o.current = some c → c.ring.priority = 3) ∧ ∀ w ∈ o.waiting, w.priority = 3

/-- Chapter 9: the bell outputs. -/
def OutputsOk (s : State) : Prop := ∀ o, OutputOk s.tbu.supply (s.blc.outputs.get o)

/-- R173, R176, R183: the office link. -/
structure OfficeOk (s : State) : Prop where
  /-- R176: what waits in the assembly is a command. -/
  assembly : ∀ c, s.olc.assembly = some c → (commandKind c).isSome = true
  /-- R173: a reply that is being sent is in the reply slot. -/
  reply : s.olc.transmitter = .reply → s.olc.slot.isSome = true
  /-- R173: a REPORT frame that is being sent is the head record's. -/
  report : s.olc.transmitter = .report → s.rps.records ≠ []
  /-- R173: outside LOW an idle transmitter with the ready wire asserted has nothing to send, but where a command in the
  assembly is to be taken first (log 9). -/
  idle : s.tbu.supply ≠ .low → s.olc.transmitter = .idle → s.olc.ready = true →
    s.olc.slot = none ∧ (s.rps.pause = true ∨ s.rps.records = [] ∨ s.olc.assembly.isSome = true)
  /-- R183: in LOW the office link is silent. -/
  low : s.tbu.supply = .low → s.olc.transmitter = .idle ∧ s.olc.slot = none ∧ s.olc.assembly = none

/-- R24, R34, R173: both lines go on outside LOW. -/
structure LinesOk (s : State) : Prop where
  gate : GateIdle s
  office : OfficeOk s

/-! ### The shift plan and what is built from it -/

/-- R103, 6.1: a shift definition in its ranges, its breaks inside the shift, in order and apart. -/
structure ShiftDef.InRange (d : ShiftDef) : Prop where
  times : d.start ≤ 1439 ∧ 1 ≤ d.length ∧ d.length ≤ 960 ∧ d.standardLength ≤ 960
  window : d.entryLead ≤ 240 ∧ d.latestIn ≤ 480
  graces : d.lateGrace ≤ 60 ∧ d.leaveGrace ≤ 60 ∧ d.overstayGrace ≤ 60
  unit : d.unit ∈ [1, 5, 6, 10, 15, 30]
  delay : d.autoCloseDelay ≤ 480
  fewBreaks : d.breaks.length ≤ 3
  breaks : ∀ b ∈ d.breaks, b.offset ≤ 959 ∧ 1 ≤ b.length ∧ b.length ≤ 120 ∧ b.offset + b.length ≤ d.length
  order : everyTwo (fun a b => decide (a.offset < b.offset ∧ a.offset + a.length ≤ b.offset)) d.breaks = true

/-- R109: the rates of a pay class in their ranges. -/
def PayClass.InRange (p : PayClass) : Prop :=
  p.baseRate ≤ 65535 ∧ 100 ≤ p.overtimeFactor ∧ p.overtimeFactor ≤ 300 ∧ 100 ≤ p.holidayFactor
    ∧ p.holidayFactor ≤ 300 ∧ p.nightAdder ≤ 65535

/-- R105: a rota of 1 to 28 days. -/
def Rota.InRange (r : Rota) : Prop := 1 ≤ r.days.length ∧ r.days.length ≤ 28 ∧ r.anchor ≤ Config.lastDay

/-- R103: absolute breaks in order, none beginning before the one before it has ended. -/
def breaksApart (breaks : List AbsBreak) : Prop :=
  (∀ b ∈ breaks, b.start ≤ b.stop) ∧ everyTwo (fun a b => decide (a.stop ≤ b.start)) breaks = true

/-- R106: a shift instance as the plan gives it. -/
structure ShiftInstance.Fits (i : ShiftInstance) : Prop where
  breaks : breaksApart i.breaks
  unit : i.unit ∈ [1, 5, 6, 10, 15, 30]

/-- R117, R118: an open record as a commit builds it. -/
structure OpenRecord.Fits (r : OpenRecord) : Prop where
  breaks : breaksApart r.breaks
  unit : r.unit ∈ [1, 5, 6, 10, 15, 30]
  night : r.nightStart ≤ 1439 ∧ r.nightEnd ≤ 1439
  rates : r.rates.InRange
  /-- R118: unscheduled work has no breaks and is never holiday work. -/
  unscheduled : r.scheduled = none → r.breaks = [] ∧ r.holiday = false ∧ r.standardLength = 0

/-- Chapter 6: the tables of the Shift Plan Store, and the copies made of them. -/
structure PlanOk (s : State) : Prop where
  shifts : ∀ id d, s.sps.shifts.get id = some d → d.InRange
  rotas : ∀ c, (s.sps.rotas.get c).InRange
  payClasses : ∀ c, (s.sps.payClasses.get c).InRange
  /-- R107: the days of the holiday list, ascending, each once, at most 32. -/
  holidays : everyTwo (fun a b => decide (a < b)) s.sps.holidays = true
  fewHolidays : s.sps.holidays.length ≤ Config.holidayCapacity
  days : ∀ d ∈ s.sps.holidays, d ≤ Config.lastDay
  /-- R178: the night window setting. -/
  night : s.olc.settings.nightStart ≤ 1439 ∧ s.olc.settings.nightEnd ≤ 1439
  captured : ∀ p ∈ s.pev.passages, ∀ i, p.captured = .shift i → i.Fits
  records : ∀ b ∈ s.btb.entries, ∀ r, b.record = some r → r.Fits

end Sys2Proof.Machine
end

