-- ==== Sys2Proof/Certificates/Slice0/Obligations.lean ====
section
/-!
DEFINITION. The statements for the provers, chapter by chapter. A docstring names the rules a statement rests on; where it
rests on a choice of the model, it names the entry of the assumption log.
-/

open Sys2Proof Sys2Proof.Machine

/-! ### Steps -/

/-- The model's own queue and clock (log 1): a step takes the command or event at the front of the queue with the queue's
rest; with an empty queue the first event that is due is taken, and with none due every timer advances by one crystal
tick. -/
def Obligations.StepTakesTheFrontCommandElseTimePasses : Prop :=
  (∀ (c : Instr) (rest : List Instr) (s : State), step (s.withPending (c :: rest)) = exec c (s.withPending rest))
  ∧ (∀ (e : Instr) (later : List Instr) (s : State), s.pending = [] → s.dueEvents = e :: later → step s = exec e s)
  ∧ (∀ s : State, s.pending = [] → s.dueEvents = [] → step s = .next s.tick)

/-- Every command and event has an effect in every state, and none touches the queue of those that wait. -/
def Obligations.EveryCommandAnswersAndKeepsTheQueue : Prop :=
  ∀ (c : Instr) (s : State), ∃ t, After c s t ∧ t.pending = s.pending

/-! ### Terms of several chapters -/

/-- The state with one input replaced. -/
def inputSet (s : State) (i : InputId) (r : Input) : State :=
  { s with drc := { s.drc with inputs := s.drc.inputs.set i r } }

/-- 5.1: the logical level of a circuit under an active level. -/
def reads (level : ActiveLevel) (closed active : Bool) : Prop :=
  match level with
  | .activeOpen => active = !closed
  | .activeClosed => active = closed

/-- R78, R81: an input watched in MAINS: a difference begins a change in progress or lets it go on, a return ends it. -/
def watched (r : Input) (active : Bool) : Input :=
  { r with change := if active = r.accepted then none else some (r.change.getD 0) }

/-- R82: a configured door worked out afresh from its effective mode and its contact, with its override kept. -/
def doorAfresh (s : State) (c : DoorConfig) (o : Override) : Door :=
  if s.resolveMode c o = .free then ⟨c, o, .free, .free, none, none⟩
  else if c.kind = .swing ∧ s.accepted c.contact = true then
    ⟨c, o, s.resolveMode c o, .opened, none, if 0 < c.heldLimit then some (Config.seconds c.heldLimit) else none⟩
  else ⟨c, o, s.resolveMode c o, .secure, none, none⟩

/-- R19: the state with a SUPPLY report of its present supply and time source states. -/
def supplyReported (s : State) (event : SupplyEvent) : State :=
  s.nonPunch .supply (.supply ⟨event, s.tbu.supply, s.tbu.timeSource, none, s.tbu.calendar⟩)

/-- R6, R19: the state with a TIME_SOURCE report, where its time source state is another than before. -/
def sourceReported (s : State) (before : TimeSource) : State :=
  if s.tbu.timeSource = before then s
  else s.nonPunch .supply (.supply ⟨.timeSource, s.tbu.supply, s.tbu.timeSource, some before, s.tbu.calendar⟩)

/-- R12: the state after the minute boundary event of a second boundary, if it raises one. -/
def minuteTaken (s : State) : Option MinuteEvent → State
  | none => s
  | some e => s.minuteEvent e

/-- R39, R77, R81, R101, R167, R182, R183: the blocks but the Time Base Unit at a warm start, from the state `r` once the
passages are cancelled and the reports are made: every configured station IDLE and the gate line's own work gone, every
input read once, every configured door worked out afresh, the alarm OFF, no ring but that of an active evacuation input, no
command waiting and the pause flag clear. A frame being sent goes on to its end: R39 says so of a REPLY, TIME, PROBE and
DISPLAY frame, and that a GRANT frame does is an inference (log 20). -/
structure WarmValues (r w : State) : Prop where
  others : w = { r with
    glc := w.glc
    drc := { r.drc with inputs := w.drc.inputs, doors := w.drc.doors, alarm := .off, pulseTimer := none }
    blc := w.blc
    olc := { r.olc with assembly := none }
    rps := { r.rps with pause := false } }
  gate : w.glc = { r.glc with
    stations := w.glc.stations
    line := if r.glc.sending = none then .free else r.glc.line
    grant := none, probed := none, probeWait := none, restTimer := none
    timePending := false, pendingProbes := 0, displayQueue := [] }
  stations : ∀ i, w.glc.stations.get i = match r.stationConfig i with
    | some c => ⟨some c, .idle, 0, none⟩
    | none => r.glc.stations.get i
  inputs : ∀ i active, reads (r.drc.inputs.get i).activeLevel (r.drc.inputs.get i).closed active →
    w.drc.inputs.get i = { r.drc.inputs.get i with accepted := active, change := none, lastSample := none }
  doors : ∀ d, w.drc.doors.get d = (r.drc.doors.get d).map fun x => doorAfresh w x.config x.override
  bells : w.blc = if (w.drc.inputs.get 32).accepted = true then
      Blc.evacuate { r.blc with outputs := Table.fill 8 ⟨none, []⟩ } r.olc.settings.evacuationPattern
    else { r.blc with outputs := Table.fill 8 ⟨none, []⟩ }

/-- R15, R38, R79, R101, R166, R183: `q` is `r` made quiescent: both lines silent with the grant ended and every timer of
the gate line stopped, the inputs not watched and no sample held (log 40), every output inactive with every ring ended, no
command waiting and no reply held; the tables, the totals, the store and the Time Base Unit are those of `r`. -/
structure Quieted (r q : State) : Prop where
  others : q = { r with
    glc := { r.glc with
      stations := q.glc.stations, line := .free, grant := none, sending := none, probed := none
      probeWait := none, restTimer := none }
    drc := { r.drc with inputs := q.drc.inputs, sampleTimer := none, alarm := .off, pulseTimer := none }
    blc := { r.blc with outputs := Table.fill 8 ⟨none, []⟩ }
    olc := { r.olc with assembly := none, slot := none, transmitter := .idle } }
  inputs : ∀ i, q.drc.inputs.get i = { r.drc.inputs.get i with change := none, lastSample := none }
  stations : ∀ i, q.glc.stations.get i = { r.glc.stations.get i with
    state := if r.glc.grant.map Grant.station = some i then .hold else (r.glc.stations.get i).state
    probeTimer := none }

/-! ### Chapter 10: the office link -/

/-- R175, R176: a command that is complete is discarded in LOW and while another waits in the assembly; with the reply
slot full it waits in the assembly. The command in the assembly is taken as soon as the slot is empty, exactly as if it
had arrived then; with the slot full, or in LOW, or with none waiting, nothing happens. With none waiting
COMMAND_TAKEN_FROM_ASSEMBLY cannot come (log 6). A frame that began while one waited and ends after that one was taken is
no command: it comes as OFFICE_FRAME_DISCARDED (log 41, FramesAreReceivedOrDiscarded). -/
def Obligations.CommandsWaitAndAreTakenLater : Prop :=
  (∀ (c : Instr) (k : Nat) (s : State), commandKind c = some k →
    (s.tbu.supply = .low → Ignored c s)
      ∧ (s.olc.assembly.isSome = true → Ignored c s)
      ∧ (s.tbu.supply ≠ .low → s.olc.assembly = none → s.olc.slot.isSome = true →
          After c s { s with olc := { s.olc with assembly := some c } }))
  ∧ (∀ (c : Instr) (k : Nat) (s : State), commandKind c = some k → s.olc.assembly = some c → s.olc.slot = none →
    s.tbu.supply ≠ .low →
    ∃ t, After .commandTakenFromAssembly s t ∧ After c { s with olc := { s.olc with assembly := none } } t
      ∧ t.olc.assembly = none ∧ t.olc.slot.isSome = true)
  ∧ (∀ s : State, s.olc.slot.isSome = true ∨ s.tbu.supply = .low ∨ s.olc.assembly = none →
    Ignored .commandTakenFromAssembly s)

/-- R177: a command that is taken gets one reply of its kind in the reply slot; a command refused with any status but OK
changes nothing and gets no result fields; a payload that is not the one its kind requires gets BAD_ARG; a kind that is no
management command's gets UNKNOWN_KIND. -/
def Obligations.TakenCommandsAreAnsweredOnce : Prop :=
  (∀ (c : Instr) (k : Nat) (s : State), commandKind c = some k → s.takes →
    ∃ t status result, After c s t ∧ t.olc.slot = some ⟨k, status, result⟩
      ∧ (status ≠ .ok → Replied s k status .none t))
  ∧ (∀ (c : Instr) (k : Nat) (s : State), (k, c) ∈ malformedCommands → s.takes → Refused c s k .badArg)
  ∧ (∀ (k : Nat) (s : State), s.takes → Refused (.unknownKind k) s k .unknownKind)

/-- R173, R168: the transmitter. The ready wire lets it choose: the reply in the slot, else the head record while the
pause flag is clear. With the last byte of a reply the slot becomes empty; with that of a REPORT frame the head record
leaves the store and owed reports are emitted. With a command waiting in the assembly, whether the transmitter chooses
before that command is taken is a free choice (log 9). The end of a frame that is not being sent changes nothing (log 6). -/
def Obligations.TransmitterSendsOneFrameAtATime : Prop :=
  (∀ (asserted : Bool) (s : State), ∃ t, After (.readyWireChange asserted) s t
    ∧ Settled { s with olc := { s.olc with ready := asserted } } t)
  ∧ (∀ s : State, s.olc.transmitter = .report → s.tbu.supply ≠ .low → ∃ t, After .reportFrameSent s t
    ∧ Settled { s with
        olc := { s.olc with transmitter := .idle }
        rps := ({ s with rps := { s.rps with records := s.rps.records.tail } }).emitOwed.rps } t)
  ∧ (∀ s : State, s.olc.transmitter = .reply → s.tbu.supply ≠ .low → s.olc.assembly = none →
    ∃ t, After .replyFrameSent s t ∧ Settled { s with olc := { s.olc with transmitter := .idle, slot := none } } t)
  ∧ (∀ s : State, s.olc.transmitter = .reply → s.tbu.supply ≠ .low → s.olc.assembly.isSome = true →
    ∃ t, After .replyFrameSent s t
      ∧ (Settled { s with olc := { s.olc with transmitter := .idle, slot := none }, draws := s.draws + 1 } t
        ∨ t = { s with olc := { s.olc with transmitter := .idle, slot := none }, draws := s.draws + 1 }))
  ∧ (∀ s : State, s.olc.transmitter ≠ .report → Ignored .reportFrameSent s)
  ∧ (∀ s : State, s.olc.transmitter ≠ .reply → Ignored .replyFrameSent s)

/-- R22, R175, R185: a frame whose envelope fails is discarded on either line, and a discarded frame has no effect. On the
gate line a PUNCH frame is received with its badge number, its age and MORE, a STATUS frame with its two flags, whatever
the bits not named hold, and a frame of another kind or length is discarded. An office link frame without a kind byte is
discarded too (log 39). An office link frame whose start byte arrives while a command waits in the assembly, or in LOW, is
discarded whole, whatever its bytes: it comes as OFFICE_FRAME_DISCARDED, and any other comes as its bytes say (log 41). -/
def Obligations.FramesAreReceivedOrDiscarded : Prop :=
  (∀ (start length : Byte) (rest : List Byte),
    (start ≠ 0xA5 ∨ 250 < length.toNat ∨ rest.length ≠ length.toNat ∨ rest.length < 3
      ∨ rest.drop (rest.length - 2) ≠ numBytes 2 (crc (length :: rest.take (rest.length - 2))).toNat) →
    officeFrameOf (start :: length :: rest) = .officeFrameDiscarded
      ∧ gateFrameOf (start :: length :: rest) = .gateFrameDiscarded)
  ∧ (∀ (badge age : Nat) (flags : Byte), badge < 256 ^ 3 → age < 256 ^ 2 →
    gateFrameOf (frame 0x31 (numBytes 3 badge ++ numBytes 2 age ++ [flags])) =
      .punchFrame badge age (flags.getLsbD 0))
  ∧ (∀ flags : Byte, gateFrameOf (frame 0x32 [flags]) = .statusFrame (flags.getLsbD 0) (flags.getLsbD 1))
  ∧ (∀ (kind : Nat) (payload : List Byte), kind < 256 → payload.length + 3 ≤ 250 →
    (kind = 0x31 → payload.length ≠ 6) → (kind = 0x32 → payload.length ≠ 1) →
    gateFrameOf (frame kind payload) = .gateFrameDiscarded)
  ∧ (∀ (began : State) (bytes : List Byte), began.olc.assembly.isSome = true ∨ began.tbu.supply = .low →
    began.officeFrame bytes = .officeFrameDiscarded)
  ∧ (∀ (began : State) (bytes : List Byte), began.olc.assembly = none → began.tbu.supply ≠ .low →
    began.officeFrame bytes = officeFrameOf bytes)
  ∧ (∀ s : State, Ignored .officeFrameDiscarded s ∧ Ignored .gateFrameDiscarded s)

/-- R178: the raw fields of a SETTINGS_PUT that carries these settings. -/
def settingsFields (set : Settings) (f : Frequency) (src : Source) (trim : Int) : SettingsPutArgs where
  duplicateWindow := set.duplicateWindow
  conflictWindow := set.conflictWindow
  staleLimit := set.staleLimit
  burstBudget := set.burstBudget
  catchUpLimit := set.catchUpLimit
  nightStart := set.nightStart
  nightEnd := set.nightEnd
  evacuationPattern := set.evacuationPattern
  alarmMode := match set.alarmMode with
    | .pulsed => 0
    | .latched => 1
  frequency := match f with
    | .hz50 => 50
    | .hz60 => 60
  source := match src with
    | .mains => 0
    | .crystal => 1
  trim := trim

/-- R178, the table of 10.5: every setting lies in its range. -/
def settingsInRange (a : SettingsPutArgs) : Prop :=
  a.duplicateWindow ≤ 120 ∧ a.conflictWindow ≤ 120 ∧ a.staleLimit ≤ 60 ∧ 1 ≤ a.burstBudget ∧ a.burstBudget ≤ 4
    ∧ a.catchUpLimit ≤ 900 ∧ a.nightStart ≤ 1439 ∧ a.nightEnd ≤ 1439 ∧ a.evacuationPattern ≤ 15 ∧ a.alarmMode ≤ 1
    ∧ (a.frequency = 50 ∨ a.frequency = 60) ∧ a.source ≤ 1 ∧ -999 ≤ a.trim ∧ a.trim ≤ 999

/-- R174, R178 to R181: PAUSE, RESUME, SETTINGS_GET, STATUS and IDENT. The status fields are those of the instant: the
records held, the spare places (4,096 less the records, less twice the passages), the pause flag and whether any report is
owed among them. SETTINGS_PUT with every value in its range stores every value, the three of the Time Base Unit as its
settings and not in effect; with any value outside its range it is refused with BAD_ARG. The frequency goes as the number
50 or 60 (log 30). -/
def Obligations.SettingsPauseAndReadingCommands : Prop :=
  (∀ s : State, s.takes →
    Carried (.pause (.fields ())) s { s with rps := { s.rps with pause := true } } 0x27 .none
    ∧ Carried (.resume (.fields ())) s { s with rps := { s.rps with pause := false } } 0x28 .none
    ∧ Carried (.settingsGet (.fields ())) s s 0x2A
        (.settings s.olc.settings s.tbu.frequencySetting s.tbu.sourceSetting s.tbu.trimSetting)
    ∧ Carried (.ident (.fields ())) s s 0x2C .ident
    ∧ ∃ owed : Bool, (owed = true ↔ ∃ src, (s.rps.owed.held src).isSome = true)
        ∧ Carried (.status (.fields ())) s s 0x2B (.status s.tbu.supply s.tbu.timeSource s.tbu.calendarValid
            s.tbu.calendar s.rps.records.length (4096 - s.rps.records.length - 2 * s.pev.passages.length) s.rps.pause
            owed (s.pev.conflictSet != 0) s.btb.closedBlock.isSome s.pev.passages.length))
  ∧ (∀ (set : Settings) (f : Frequency) (src : Source) (trim : Int) (s : State), s.takes →
    settingsInRange (settingsFields set f src trim) →
    Carried (.settingsPut (.fields (settingsFields set f src trim))) s
      { s with
        olc := { s.olc with settings := set }
        tbu := { s.tbu with frequencySetting := f, sourceSetting := src, trimSetting := trim } } 0x29 .none)
  ∧ (∀ (a : SettingsPutArgs) (s : State), s.takes → ¬ settingsInRange a →
    Refused (.settingsPut (.fields a)) s 0x29 .badArg)

/-- R182, R2, R12, R18, R39, R54, R77, R81, R101, R167, R183: RESET is answered OK and warm starts the part. The passages are
cancelled in ascending door number with their reports, the conflict set is emptied and the WARM_START report is made; every
block takes its warm-start values (every configured station IDLE and the gate line's own work gone, a frame being sent
going on to its end, a GRANT frame among them by inference (log 20), every input read once with
its settings kept, every configured door worked out afresh with its configuration and override kept, the alarm OFF, no ring
but that of an active evacuation input, no command waiting and the pause flag clear); then the RESTART event has its effect.
The calendar, the settings, the shift plan, the period and the closed totals, the configuration of every badge, station,
schedule and pattern are kept, and the RESTART event takes the trim setting into effect (R2, R12). The fields of a badge that the
cancelled passages and the walk of that event do not change are kept with them. -/
def Obligations.ResetWarmStartsThePart : Prop :=
  ∀ s : State, s.takes → ∃ t cancelled w, After (.reset (.fields ())) s t
    ∧ cancelled = (List.finRange 16).foldl State.cancelPassage s
    ∧ WarmValues (supplyReported { cancelled with pev := Pev.cold } .warmStart) w
    ∧ Replied (w.minuteEvent ⟨.restart, s.tbu.calendar / 60, none⟩) 0x2D .ok .none t
    ∧ cancelled.btb.entries.map (fun b => (b.number, b.crew, b.payClass, b.doors, b.flags, b.presence, b.record,
        b.current, b.carry, b.closed)) =
      s.btb.entries.map (fun b => (b.number, b.crew, b.payClass, b.doors, b.flags, b.presence, b.record,
        b.current, b.carry, b.closed))
    ∧ (∀ d x, s.drc.doors.get d = some x → ∃ y, t.drc.doors.get d = some y
      ∧ y.config = x.config ∧ y.override = x.override)
    ∧ (∀ n, (t.blc.entries.get n).isSome = (s.blc.entries.get n).isSome)
    ∧ t.olc.slot = some ⟨0x2D, .ok, .none⟩ ∧ t.olc.assembly = none
    ∧ t.olc.settings = s.olc.settings ∧ t.olc.ready = s.olc.ready ∧ t.rps.pause = false
    ∧ t.pev = Pev.cold
    ∧ t.tbu = { s.tbu with trimInEffect := s.tbu.trimSetting, lastMinute := s.tbu.calendar / 60 }
    ∧ t.sps = s.sps
    ∧ t.btb.period = s.btb.period ∧ t.btb.closedBlock = s.btb.closedBlock
    ∧ t.btb.entries.map (fun b => (b.number, b.crew, b.payClass, b.doors, b.flags, b.closed)) =
      s.btb.entries.map (fun b => (b.number, b.crew, b.payClass, b.doors, b.flags, b.closed))
    ∧ (∀ i, (t.glc.stations.get i).config = s.stationConfig i
      ∧ (s.stationConfig i ≠ none → t.glc.stations.get i = ⟨s.stationConfig i, .idle, 0, none⟩))
    ∧ t.drc.alarm = .off ∧ t.drc.pulseTimer = none ∧ t.drc.schedules = s.drc.schedules
    ∧ (∀ i, (t.drc.inputs.get i).accepted = (s.drc.inputs.get i).logical)
    ∧ t.blc.patterns = s.blc.patterns

/-- R185: the bytes of a management command, put in an envelope, are received as that command, for every command whose
fields fit their bytes. -/
def Obligations.CommandFramesAreReceivedAsSent : Prop :=
  ∀ (c : Instr) (bytes : List Byte), commandFrame c = some bytes → officeFrameOf bytes = c

/-- R170, R171: a non-punch report is stored when a spare place exists and its source owes nothing; otherwise its flag
takes it in place of any report the flag held, and nothing else changes. Owed reports are emitted in the order supply,
time, conflict, stations, doors, one for each spare place: each joins the tail with the mark OWED and the next sequence
number, and its flag becomes clear. The next sequence number stays in its range (EveryStepKeepsTheReportStore), which the
numbers of the emitted records need. -/
def Obligations.NonPunchReportsAreStoredOrOwedAndEmitted : Prop :=
  (∀ (s : State) (src : ReportSource) (body : ReportBody),
    (1 ≤ s.sparePlaces → s.rps.owed.held src = none →
      s.nonPunch src body = { s with rps := { s.rps with
        records := s.rps.records ++ [⟨s.rps.nextSequence, false, body⟩]
        nextSequence := (s.rps.nextSequence + 1) % 65536 } })
    ∧ (s.sparePlaces = 0 ∨ s.rps.owed.held src ≠ none →
      ∃ owed, s.nonPunch src body = { s with rps := { s.rps with owed := owed } }
        ∧ owed.held src = some body ∧ ∀ other, other ≠ src → owed.held other = s.rps.owed.held other))
  ∧ (∀ s : State, s.rps.nextSequence < 65536 → ∃ (emitted : List ReportSource) (t : Rps),
    s.emitOwed = { s with rps := t }
    ∧ emitted = (emissionOrder.filter fun src => (s.rps.owed.held src).isSome).take s.sparePlaces
    ∧ t.records = s.rps.records ++ (emitted.zipIdx.filterMap fun (src, k) =>
        (s.rps.owed.held src).map fun b => ⟨(s.rps.nextSequence + k) % 65536, true, b⟩)
    ∧ t.nextSequence = (s.rps.nextSequence + emitted.length) % 65536
    ∧ (∀ src, src ∈ emitted → t.owed.held src = none)
    ∧ (∀ src, src ∉ emitted → t.owed.held src = s.rps.owed.held src)
    ∧ t.pause = s.rps.pause)

/-! ### Chapter 1: time base, calendar and supply -/

/-- R10: the ranges of a date and time. -/
def dateInRange (a : SetTimeArgs) : Prop :=
  2000 ≤ a.year ∧ a.year ≤ 2099 ∧ 1 ≤ a.month ∧ a.month ≤ 12 ∧ 1 ≤ a.day ∧ a.day ≤ daysInMonth a.year a.month
    ∧ a.hour ≤ 23 ∧ a.minute ≤ 59 ∧ a.second ≤ 59

/-- R10: a SET_TIME in range becomes the pending time in place of any before it, and changes nothing else; one out of
range is refused with BAD_ARG. The reading of a date and time (00_scope.md 3.2) is the number of seconds since 2000-01-01
00:00:00. -/
def Obligations.SetTimeBecomesThePendingTime : Prop :=
  (∀ (a : SetTimeArgs) (s : State), s.takes →
    (dateInRange a → Carried (.setTime (.fields a)) s
      { s with tbu := { s.tbu with
        pendingTime := some (readingOf a.year a.month a.day a.hour a.minute a.second) } } 0x01 .none)
    ∧ (¬ dateInRange a → Refused (.setTime (.fields a)) s 0x01 .badArg))
  ∧ readingOf 2000 1 1 0 0 0 = 0
  ∧ (∀ a : SetTimeArgs, dateInRange a →
      readingOf a.year a.month a.day a.hour a.minute a.second ≤ 3155759999
      ∧ (a.second < 59 → readingOf a.year a.month a.day a.hour a.minute (a.second + 1) =
          readingOf a.year a.month a.day a.hour a.minute a.second + 1)
      ∧ (a.minute < 59 → readingOf a.year a.month a.day a.hour (a.minute + 1) 0 =
          readingOf a.year a.month a.day a.hour a.minute 59 + 1)
      ∧ (a.hour < 23 → readingOf a.year a.month a.day (a.hour + 1) 0 0 =
          readingOf a.year a.month a.day a.hour 59 59 + 1)
      ∧ (a.day < daysInMonth a.year a.month → readingOf a.year a.month (a.day + 1) 0 0 0 =
          readingOf a.year a.month a.day 23 59 59 + 1)
      ∧ (a.month < 12 → readingOf a.year (a.month + 1) 1 0 0 0 =
          readingOf a.year a.month (daysInMonth a.year a.month) 23 59 59 + 1)
      ∧ (a.year < 2099 → readingOf (a.year + 1) 1 1 0 0 0 = readingOf a.year 12 31 23 59 59 + 1))

/-- R8, R9, R11, R12, R19: the TIME report and the minute boundary event of a second boundary: `base` is the state before
the event. A reading that the advance would have given past the end of the range counts as 0 (log 15). The TIME report's own
reading is the new one (log 10). -/
def boundaryWork (s base : State) (event : Option MinuteEvent) : Prop :=
  (s.tbu.pendingTime = none → s.tbu.calendar < 3155759999 →
    base = { s with tbu := base.tbu }
      ∧ event = if (s.tbu.calendar + 1) % 60 = 0 then some ⟨.natural, (s.tbu.calendar + 1) / 60, none⟩ else none)
  ∧ (s.tbu.pendingTime = none → s.tbu.calendar = 3155759999 →
    base = ({ s with tbu := base.tbu }).nonPunch .time
        (.time ⟨.expiry, 3155759999, 0, -3155759999, s.tbu.calendarValid, 0⟩)
      ∧ event = some ⟨.step, 0, none⟩)
  ∧ (∀ new advanced : Nat, s.tbu.pendingTime = some new →
    (s.tbu.calendar < 3155759999 → advanced = s.tbu.calendar + 1) → (s.tbu.calendar = 3155759999 → advanced = 0) →
    base = ({ s with tbu := base.tbu }).nonPunch .time
        (.time ⟨.setTime, advanced, new, (new : Int) - advanced, s.tbu.calendarValid, new⟩)
      ∧ event = some ⟨.step, new / 60, if advanced < new ∧ s.tbu.calendarValid = true then
          some (s.tbu.calendar / 60, (new : Int) - advanced) else none⟩)

/-- R8, R12: what a second boundary starts from once the calendar has moved: `base` holds the new reading and the supply and
time source states after the boundary, which are those of `t`. -/
structure BoundaryBase (s base t : State) (event : Option MinuteEvent) : Prop where
  work : boundaryWork s base event
  calendar : base.tbu.calendar = nextReading s.tbu
  supply : base.tbu.supply = t.tbu.supply
  valid : base.tbu.calendarValid = t.tbu.calendarValid
  source : base.tbu.timeSource = t.tbu.timeSource

/-- R6, R8, R12: a second boundary that qualifies no mains return: the TIME report, then a TIME_SOURCE report where a new
source setting changes that state, then the minute boundary event with its effect (log 10). -/
def BoundaryLeaves (s t : State) : Prop :=
  ∃ base event, BoundaryBase s base t event
    ∧ Settled { minuteTaken (sourceReported base s.tbu.timeSource) event with tbu := t.tbu } t

/-- R14, R79, R86: a second boundary that ends BATTERY: after the TIME report the MAINS_RESTORED and TIME_SOURCE reports
(logs 10, 11), the inputs are watched again, every door is resolved, and then the minute boundary event of the boundary has
its effect: that the doors come before that event is the model's choice (log 42). Passages, rings and grants carry on. -/
def RestoresMains (s t : State) : Prop :=
  ∃ base event inputs back, BoundaryBase s base t event
    ∧ (∀ i active, reads (s.drc.inputs.get i).activeLevel (s.drc.inputs.get i).closed active →
        inputs.get i = watched { s.drc.inputs.get i with lastSample := none } active)
    ∧ back = { sourceReported (supplyReported base .mainsRestored) s.tbu.timeSource with
        drc := { s.drc with inputs := inputs, sampleTimer := none } }
    ∧ Settled { minuteTaken back.resolveAll event with tbu := t.tbu } t

/-- R16, R18, R54, R77: a second boundary that ends LOW with the backup domain intact: the passages are cancelled in
ascending door number with their reports, the conflict set is emptied, the WARM_START and TIME_SOURCE reports are made (log
11), every block takes its warm-start values (log 20), and the RESTART event of the current minute has its effect in place of the
boundary's own. -/
def WarmStartsFromLow (s t : State) : Prop :=
  ∃ base event cancelled w, BoundaryBase s base t event
    ∧ cancelled = (List.finRange 16).foldl State.cancelPassage base
    ∧ WarmValues (sourceReported (supplyReported { cancelled with pev := Pev.cold } .warmStart) s.tbu.timeSource) w
    ∧ Settled { w.minuteEvent ⟨.restart, w.tbu.calendar / 60, none⟩ with tbu := t.tbu } t

/-- R1, R2, R3, R5 to R9, R11, R12, R14, R16: a second that the crystal drives ends. Where the boundary raises no minute
boundary event, ends no LOW or BATTERY and changes no time source state, nothing but the Time Base Unit changes. Otherwise a
pending time and the end of the range make their TIME report (its own reading, and its place first: log 10; a SET_TIME at
the end of the range: log 15), a new source setting its TIME_SOURCE report, and the minute boundary event that is raised has
its effect, in LOW on the trim alone (log 35). A qualification ends BATTERY with the inputs watched and the doors resolved,
both before the minute boundary event of the boundary by the model's choice (log 42), or LOW with a warm start of every block and its RESTART event (reports: log 11; a GRANT frame being sent: log 20). The boundary that qualifies the mains after
the backup domain was lost is a cold start instead, apart. -/
def Obligations.CrystalSecondEnds : Prop :=
  ∀ (n : Nat) (s : State), TimeOk s → s.tbu.running = true → s.tbu.secondEnd = .onTick n →
    (s.tbu.supply = .low → returnQualified s.tbu → s.tbu.backupIntact = true) →
    ∃ t, After .crystalSecondEnd s t ∧ SecondPassed s.tbu t.tbu
      ∧ (¬ raisesMinuteEvent s.tbu → ¬ returnQualified s.tbu → s.tbu.sourceInEffect = s.tbu.sourceSetting →
          Settled { s with tbu := t.tbu } t)
      ∧ (¬ returnQualified s.tbu → BoundaryLeaves s t)
      ∧ (returnQualified s.tbu → s.tbu.supply = .battery → RestoresMains s t)
      ∧ (returnQualified s.tbu → s.tbu.supply = .low → WarmStartsFromLow s t)

/-- R3, R4, R8, R11, R12: a mains cycle restarts the gap time and is counted; in MAINS_LOCKED the cycle that brings the
counter to the frequency in effect ends the second, and no other one does. The boundary makes the TIME report of a pending
time or of the end of the range (logs 10, 15) and the TIME_SOURCE report of a new source setting, and the minute boundary
event it raises has its effect; with none of these nothing but the Time Base Unit changes. -/
def Obligations.MainsCyclesAreCountedAndEndSeconds : Prop :=
  ∀ (counted : Tbu) (s : State), TimeOk s → s.tbu.running = true →
    counted = { s.tbu with cycleCounter := s.tbu.cycleCounter + 1, gapTime := 0 } →
    (¬ (s.tbu.timeSource = .mainsLocked ∧ s.tbu.frequencyInEffect.cycles ≤ s.tbu.cycleCounter + 1) →
      After .mainsCycle s { s with tbu := counted })
    ∧ (s.tbu.timeSource = .mainsLocked → s.tbu.frequencyInEffect.cycles ≤ s.tbu.cycleCounter + 1 →
      ∃ t, After .mainsCycle s t ∧ SecondPassed counted t.tbu
        ∧ (¬ raisesMinuteEvent s.tbu → s.tbu.sourceInEffect = s.tbu.sourceSetting →
            Settled { s with tbu := t.tbu } t)
        ∧ BoundaryLeaves { s with tbu := counted } t)

/-- R4, R6, R14: the Time Base Unit right after a mains loss in MAINS. -/
def lossDeclared (t : Tbu) : Tbu :=
  { t with
    mainsWatch := .absent
    qualification := 0
    supply := .battery
    timeSource := timeSourceOf t.sourceInEffect .absent
    lowBatterySamples := []
    lowBatteryTimer := some Config.samplePeriod
    secondEnd := if t.timeSource = .mainsLocked then .onTick 32768 else t.secondEnd }

/-- R14, R79, R86, R166: entry to BATTERY at a mains loss: the MAINS_LOST report, then TIME_SOURCE where that state changes,
both with the states after the loss (log 11); every input is to be sampled in 500 ms and no change is in progress; every
door is resolved; every ring below priority 3 ends. -/
def BatteryEntered (s mid : State) : Prop :=
  ∃ inputs sampling,
    (∀ i, inputs.get i = { s.drc.inputs.get i with change := none, lastSample := none })
    ∧ sampling = { sourceReported (supplyReported { s with tbu := lossDeclared s.tbu } .mainsLost) s.tbu.timeSource with
        drc := { s.drc with inputs := inputs, sampleTimer := some (Config.tensOfMs 50) } }
    ∧ mid = { sampling.resolveAll with blc := s.blc.suppress }

/-- R4, R6, R14, R79, R86, R166: a mains loss in MAINS. The watch becomes ABSENT, the supply state BATTERY and the count 0,
the time source state follows, sampling of the low-battery input starts, and the MAINS_LOST report comes first, with the
time source state after the loss (log 11). The inputs are sampled from then on, every door is resolved, and rings below
priority 3 end. A second the mains drove is to be completed at 32,768 ticks without trim, and ends at once where the
prescaler already stands there, after all of this (log 37). -/
def Obligations.MainsLossMakesTheSupplyBattery : Prop :=
  (∀ s : State, s.tbu.running = true → s.tbu.mainsWatch = .present → s.tbu.supply = .mains →
    ¬ (s.tbu.timeSource = .mainsLocked ∧ 32768 ≤ s.tbu.prescaler) →
    ∃ t mid, After .mainsLoss s t ∧ BatteryEntered s mid ∧ Settled mid t
      ∧ t.tbu = lossDeclared s.tbu
      ∧ (1 ≤ s.sparePlaces → s.rps.owed.supply = none →
          ∃ more, t.rps.records = s.rps.records ++ ⟨s.rps.nextSequence, false, .supply ⟨.mainsLost, .battery,
            timeSourceOf s.tbu.sourceInEffect .absent, none, s.tbu.calendar⟩⟩ :: more)
      ∧ t.sps = s.sps ∧ t.btb.period = s.btb.period ∧ t.olc.settings = s.olc.settings)
  ∧ (∀ s : State, TimeOk s → s.tbu.running = true → s.tbu.supply = .mains → s.tbu.timeSource = .mainsLocked →
    32768 ≤ s.tbu.prescaler →
    ∃ t mid, After .mainsLoss s t ∧ BatteryEntered s mid ∧ SecondPassed mid.tbu t.tbu ∧ BoundaryLeaves mid t
      ∧ t.tbu.mainsWatch = .absent ∧ t.tbu.supply = .battery ∧ t.tbu.qualification = 0
      ∧ t.tbu.prescaler = 0 ∧ t.tbu.calendar = nextReading s.tbu)
  ∧ (∀ s : State, s.tbu.mainsWatch = .absent → Ignored .mainsLoss s)

/-- R15, R38, R79, R101, R166, R183: a sample in BATTERY joins the last two. When both are asserted the part becomes
quiescent: the supply state is LOW with the LOW_BATTERY report, a pending time is discarded, both lines are silent with the
granted station in HOLD and the timers of the gate line stopped, the inputs are not watched and no sample of them is held (log
40), every ring ends and no output is active. The tables, the totals, the accepted levels, the doors, the display queue and
the count of good seconds are kept, and the two asserted samples with them (log 16). Otherwise nothing but the samples
changes. -/
def Obligations.TwoAssertedSamplesMakeThePartQuiescent : Prop :=
  (∀ (asserted : Bool) (s : State), s.tbu.supply = .battery → ¬ (asserted = true ∧ s.tbu.lowBatterySamples.head? = some true) →
    After (.lowBatterySample asserted) s { s with tbu := { s.tbu with
      lowBatterySamples := (asserted :: s.tbu.lowBatterySamples).take 2
      lowBatteryInput := asserted
      lowBatteryTimer := some Config.samplePeriod } })
  ∧ (∀ s : State, s.tbu.supply = .battery → s.tbu.lowBatterySamples.head? = some true →
    ∃ t, After (.lowBatterySample true) s t
      ∧ Quieted (supplyReported { s with tbu := { s.tbu with
          lowBatterySamples := [true, true]
          lowBatteryInput := true
          supply := .low
          pendingTime := none
          lowBatteryTimer := none } } .lowBattery) t
      ∧ t.tbu.supply = .low ∧ t.tbu.pendingTime = none ∧ t.tbu.calendar = s.tbu.calendar
      ∧ t.tbu.qualification = s.tbu.qualification
      ∧ t.rps = (({ s with tbu := t.tbu }).nonPunch .supply
          (.supply ⟨.lowBattery, .low, s.tbu.timeSource, none, s.tbu.calendar⟩)).rps
      ∧ t.glc.line = .free ∧ t.glc.sending = none ∧ t.glc.grant = none ∧ t.glc.restTimer = none
      ∧ t.olc = { s.olc with assembly := none, slot := none, transmitter := .idle }
      ∧ (∀ d, t.releaseOutput d = false) ∧ (∀ o, t.bellOutput o = false) ∧ t.alarmOutput = false
      ∧ t.btb = s.btb ∧ t.sps = s.sps ∧ t.pev = s.pev)
  ∧ (∀ (asserted : Bool) (s : State), s.tbu.supply ≠ .battery → Ignored (.lowBatterySample asserted) s)

/-- R16: the Time Base Unit of a part that has lost its main supply entirely outside LOW (log 36). -/
def powerLost (t : Tbu) : Tbu :=
  { t with
    mainsWatch := .absent
    qualification := 0
    supply := .low
    pendingTime := none
    lowBatteryTimer := none
    timeSource := timeSourceOf t.sourceInEffect .absent
    secondEnd := if t.timeSource = .mainsLocked then .onTick 32768 else t.secondEnd }

/-- R6, R16: the state of a part whose main supply is lost entirely: in LOW it stands as it does there already; outside LOW
it is quiescent as in LOW, with the mains absent and a TIME_SOURCE report where that state changes (log 36). -/
def poweredDown (s q : State) : Prop :=
  (s.tbu.supply = .low → q = s)
  ∧ (s.tbu.supply ≠ .low → Quieted (sourceReported { s with tbu := powerLost s.tbu } s.tbu.timeSource) q)

/-- R1, R2, R5 to R9, R12: `t` is `s` after so many second boundaries that qualify no mains return, each from what the one
before it left: the calendar, the trim, the accumulator and the length of the second follow boundary by boundary. -/
def SecondsPass : Nat → State → State → Prop
  | 0, s, t => t = s
  | n + 1, s, t => ∃ m, SecondPassed s.tbu m.tbu ∧ BoundaryLeaves s m ∧ SecondsPass n m t

/-- R2, R5, R9, R16: what so many seconds in the backup domain, on the crystal without a mains cycle and with the settings in
effect, come to from `s` to `t`: the calendar has gone on, past the end of its range with the EXPIRY report, no good second is
counted, and a minute boundary has taken the trim (log 35). The accumulator and the length of the second are those of
SecondsPass (R1). -/
structure RanOn (s t : State) (seconds : Nat) : Prop where
  others : t = { s with
    tbu := { s.tbu with
      calendar := (s.tbu.calendar + seconds) % 3155760000
      calendarValid := s.tbu.calendarValid && decide (s.tbu.calendar + seconds ≤ 3155759999)
      trimInEffect := if (s.tbu.calendar + seconds) / 60 = s.tbu.calendar / 60 then s.tbu.trimInEffect
        else s.tbu.trimSetting
      lastMinute := (s.tbu.calendar + seconds) % 3155760000 / 60
      qualification := 0
      trimAccumulator := t.tbu.trimAccumulator
      secondEnd := t.tbu.secondEnd }
    rps := t.rps }
  accumulator : -10000000 < t.tbu.trimAccumulator ∧ t.tbu.trimAccumulator < 10000000
  noReport : s.tbu.calendar + seconds ≤ 3155759999 → t.rps = s.rps
  expiry : 3155759999 < s.tbu.calendar + seconds →
    t.rps = (s.nonPunch .time (.time ⟨.expiry, 3155759999, 0, -3155759999, s.tbu.calendarValid, 0⟩)).rps

/-- R16, R17: the whole main supply may be lost, with the backup domain, which stops the Time Base Unit, or without it, and
outside LOW that makes the part quiescent as in LOW (log 36). When power returns, a unit that stopped qualifies the mains by
R5 on the crystal from a count of 0 (open values: log 12); one that ran on in LOW is not touched (log 12); one that ran on
outside LOW has gone on through an outage of open length, with the trim accumulated and everything else done at each of its
second boundaries (reports: log 10), and stands at an open tick of the second in progress (log 36). Every change of the time source state is reported. The qualification that
follows a lost domain is a cold start: every block has its cold values (the repeat field of a pattern: log 38), the accepted
levels are read from the wires, and the COLD_START report is the first record. With the domain intact it is the warm start
of CrystalSecondEnds. -/
def Obligations.LostBackupDomainEndsInAColdStart : Prop :=
  (∀ s : State, ∃ q, poweredDown s q
    ∧ After .backupDomainLost s { q with tbu := { q.tbu with backupIntact := false, running := false } })
  ∧ (∀ s : State, s.tbu.running = false →
    ∃ q t, poweredDown s q ∧ After .powerReturn s t ∧ t.tbu.running = true ∧ t.tbu.mainsWatch = .absent
      ∧ t.tbu.qualification = 0 ∧ t.tbu.secondBeganAbsent = true ∧ t.tbu.prescaler = 0 ∧ t.tbu.cycleCounter = 0
      ∧ t.tbu.supply = .low ∧ t.tbu.backupIntact = s.tbu.backupIntact
      ∧ (∃ n, t.tbu.secondEnd = .onTick n ∧ 32764 ≤ n ∧ n ≤ 32772)
      ∧ t = { sourceReported { q with tbu := t.tbu } q.tbu.timeSource with draws := s.draws + 1 })
  ∧ (∀ s : State, s.tbu.running = true → s.tbu.supply = .low → Ignored .powerReturn s)
  ∧ (∀ s : State, TimeOk s → s.tbu.running = true → s.tbu.supply ≠ .low →
    ∃ q ran t seconds n tick, poweredDown s q ∧ After .powerReturn s t ∧ seconds ≤ 3155759999
      ∧ (seconds = 0 → ran = q)
      ∧ SecondsPass seconds q ran
      ∧ (1 ≤ seconds → ∃ first, SecondPassed q.tbu first.tbu ∧ BoundaryLeaves q first ∧ SecondsPass (seconds - 1) first ran
          ∧ (seconds = 1 → ran = first) ∧ (2 ≤ seconds → RanOn first ran (seconds - 1)))
      ∧ ran.tbu.secondEnd = .onTick n ∧ 32764 ≤ n ∧ n ≤ 32772 ∧ tick < n
      ∧ t = { ran with tbu := { ran.tbu with prescaler := tick }, draws := s.draws + 1 }
      ∧ t.tbu.running = true ∧ t.tbu.mainsWatch = .absent ∧ t.tbu.supply = .low
      ∧ t.tbu.backupIntact = s.tbu.backupIntact)
  ∧ (∀ (n : Nat) (s : State), s.tbu.running = true → s.tbu.secondEnd = .onTick n → s.tbu.supply = .low →
    returnQualified s.tbu → s.tbu.backupIntact = false →
    ∃ t, After .crystalSecondEnd s t
      ∧ t.tbu = { Tbu.cold with lowBatteryInput := s.tbu.lowBatteryInput }
      ∧ t.glc = { Glc.cold with attention := s.glc.attention }
      ∧ t.pev = Pev.cold ∧ t.btb = Btb.cold ∧ t.sps = Sps.cold ∧ t.rps = Rps.cold
      ∧ t.drc = { Drc.cold with inputs := s.drc.inputs.map fun i => Input.cold i.closed }
      ∧ t.blc = Blc.cold
      ∧ t.olc = { Olc.cold with ready := s.olc.ready, transmitter := if s.olc.ready then .report else .idle }
      ∧ t.pending = s.pending)

/-- R13: the clock quality, and the TIME frame that carries it as it stands when the frame is built. -/
def Obligations.ClockQualityFollowsTheCalendarAndTheSource : Prop :=
  (∀ t : Tbu, (t.calendarValid = false → t.quality = .invalid)
    ∧ (t.calendarValid = true → t.timeSource = .holdover → t.quality = .holdover)
    ∧ (t.calendarValid = true → t.timeSource = .crystal ∨ t.timeSource = .mainsLocked → t.quality = .valid))
  ∧ (∀ s : State, s.tbu.supply ≠ .low → s.glc.line = .free → s.glc.sending = none → s.glc.timePending = true →
    s.settle.glc.sending = some (.time s.tbu.calendar s.tbu.quality))

/-! ### Chapter 2: gate line and reader stations -/

/-- R37: a display message that is sent at once, with the level it is addressed to: none for ALL. -/
def addressedTo (g : Glc) (m : DisplayMessage) (level : Option (Fin 15)) : Prop :=
  match m.target with
  | .all => level = none
  | .station id => ∃ c, (g.stations.get id).config = some c ∧ level = some c.level

/-- R24, R34, R35, R37: on a free line outside LOW the part first sends its own frames: TIME with the reading and the
clock quality of the instant, else the pending probe of the lowest station id, else the first message that has a
configured target, those before it removed unsent; with none of these a round opens when the wire is pulled, the rest
timer is stopped and 64 places are spare. A line that is not free, or on which a frame is being sent, is left alone. -/
def Obligations.FreeLineSendsOwnFramesBeforeItOpensARound : Prop :=
  (∀ (g : Glc) (reading : Nat) (q : ClockQuality) (spare : Nat), g.line ≠ .free ∨ g.sending ≠ none →
    g.weigh reading q spare = g)
  ∧ (∀ (g : Glc) (reading : Nat) (q : ClockQuality) (spare : Nat), g.line = .free → g.sending = none →
    (g.timePending = true →
      g.weigh reading q spare = { g with timePending := false, line := .own, sending := some (.time reading q) })
    ∧ (∀ (id : StationId) (c : StationConfig), g.timePending = false → inSet g.pendingProbes id = true → (g.stations.get id).config = some c →
        (∀ j : StationId, j < id → inSet g.pendingProbes j = true → (g.stations.get j).config = none) →
        ∃ left, (∀ j : StationId, inSet left j = true ↔ inSet g.pendingProbes j = true ∧ j ≠ id)
          ∧ g.weigh reading q spare = { g with
              pendingProbes := left, probed := some id, line := .own, sending := some (.probe c.level) })
    ∧ (∀ skipped m rest level, g.timePending = false → g.pendingProbes = 0 →
        g.displayQueue = skipped ++ m :: rest → (∀ x ∈ skipped, ∀ l, ¬ addressedTo g x l) → addressedTo g m level →
        g.weigh reading q spare = { g with
          displayQueue := rest, line := .own, sending := some (.display level m.text) })
    ∧ (g.timePending = false → g.pendingProbes = 0 → (∀ x ∈ g.displayQueue, ∀ l, ¬ addressedTo g x l) →
        (g.attention = true ∧ g.restTimer = none ∧ 64 ≤ spare →
          g.weigh reading q spare = { g with displayQueue := [], line := .round })
        ∧ (g.attention = false ∨ g.restTimer ≠ none ∨ spare < 64 →
          g.weigh reading q spare = { g with displayQueue := [] })))

/-- R25: a contender of a round, with the levels that answered. -/
def contender (g : Glc) (answered : BitVec 15) (i : StationId) (c : StationConfig) : Prop :=
  (g.stations.get i).config = some c ∧ c.enabled = true ∧ (g.stations.get i).state ≠ .suspended
    ∧ inSet answered c.level = true

/-- R25: the states of the stations after the slots, before the winner is granted. `cleared` says that the fairness holds
were cleared. -/
def RoundStates (g : Glc) (answered : BitVec 15) (cleared : Bool) (after : StationId → StationState) : Prop :=
  ∀ i, ((∃ c, contender g answered i c) →
      after i = match (g.stations.get i).state with
        | .idle => .contending
        | .hold => if cleared then .contending else .hold
        | other => other)
    ∧ ((¬ ∃ c, contender g answered i c) →
      after i = match (g.stations.get i).state with
        | .contending => if (g.stations.get i).config.isSome then .idle else .contending
        | .hold => if cleared then .idle else .hold
        | other => other)

/-- R25, R26: the winner of a round is the contender of the lowest level that is not in HOLD or, when every contender is
in HOLD, of the lowest level with the holds cleared; it is granted with the burst budget of the instant. A round without a
contender is followed by a rest of 50 ms. An answer that counts for no contender leaves a CONTENDING station IDLE (log 19).
A round result outside a round changes nothing (log 6). -/
def Obligations.RoundGrantsTheLowestLevelNotHeld : Prop :=
  (∀ (answered : BitVec 15) (w : StationId) (c : StationConfig) (cleared : Bool) (s : State),
    s.tbu.supply ≠ .low → s.glc.line = .round →
    (∀ i j ci cj, s.stationConfig i = some ci → s.stationConfig j = some cj → ci.level = cj.level → i = j) →
    contender s.glc answered w c →
    (cleared = true ↔ ∀ i ci, contender s.glc answered i ci → (s.glc.stations.get i).state = .hold) →
    (∀ i ci, contender s.glc answered i ci → cleared = true ∨ (s.glc.stations.get i).state ≠ .hold →
      c.level ≤ ci.level) →
    (cleared = true ∨ (s.glc.stations.get w).state ≠ .hold) →
    ∃ t stations after, After (.roundResult answered) s t ∧ RoundStates s.glc answered cleared after
      ∧ (∀ i, stations.get i = { s.glc.stations.get i with state := if i = w then .granted else after i })
      ∧ Settled { s with glc := { s.glc with
          stations := stations
          line := .grant
          grant := some ⟨w, s.olc.settings.burstBudget, 0, none⟩
          sending := some (.grant c.level s.olc.settings.burstBudget) } } t)
  ∧ (∀ (answered : BitVec 15) (s : State), s.tbu.supply ≠ .low → s.glc.line = .round →
    (∀ i c, ¬ contender s.glc answered i c) →
    ∃ t stations after, After (.roundResult answered) s t ∧ RoundStates s.glc answered false after
      ∧ (∀ i, stations.get i = { s.glc.stations.get i with state := after i })
      ∧ Settled { s with glc := { s.glc with
          stations := stations, line := .free, restTimer := some (Config.tensOfMs 5) } } t)
  ∧ (∀ (answered : BitVec 15) (s : State), s.tbu.supply = .low ∨ s.glc.line ≠ .round → Ignored (.roundResult answered) s)

/-- R26, R27, R29, R32, R34: what follows the last byte of a frame: a GRANT, and a REPLY without END, start the grant timer
at 50 ms; a REPLY with END ends the grant, and its station enters HOLD; a PROBE starts the probe wait of 50 ms; after any
other frame, and where the grant or the probed station is gone meanwhile, the line is FREE (log 20). With no frame being
sent nothing changes (log 6). -/
def Obligations.LastByteOfAGateFrame : Prop :=
  (∀ (s : State) (gr : Grant), s.glc.grant = some gr →
    (∀ level budget, s.glc.sending = some (.grant level budget) → ∃ t, After .gateFrameSent s t
      ∧ Settled { s with glc := { s.glc with
          sending := none, grant := some { gr with timer := some (Config.tensOfMs 5) } } } t)
    ∧ (∀ level code release, s.glc.sending = some (.reply level code release false) → ∃ t, After .gateFrameSent s t
      ∧ Settled { s with glc := { s.glc with
          sending := none, grant := some { gr with timer := some (Config.tensOfMs 5) } } } t)
    ∧ (∀ level code release, s.glc.sending = some (.reply level code release true) → ∃ t, After .gateFrameSent s t
      ∧ Settled { s with glc := { s.glc with
          sending := none, grant := none, line := .free
          stations := s.glc.stations.set gr.station
            { s.glc.stations.get gr.station with state := .hold } } } t))
  ∧ (∀ (s : State) (level : Fin 15) (id : StationId), s.glc.sending = some (.probe level) → s.glc.probed = some id →
    ∃ t, After .gateFrameSent s t
      ∧ Settled { s with glc := { s.glc with
          sending := none, line := .probeWait, probeWait := some (Config.tensOfMs 5) } } t)
  ∧ (∀ (s : State) (f : GateFrame), s.glc.sending = some f →
    (f.underGrant → s.glc.grant = none) → ((∃ level, f = .probe level) → s.glc.probed = none) →
    ∃ t, After .gateFrameSent s t ∧ Settled { s with glc := { s.glc with sending := none, line := .free } } t)
  ∧ (∀ s : State, s.glc.sending = none → Ignored .gateFrameSent s)

/-- R27, R28: the gate line once a frame of the granted station is taken. -/
def frameTaken (g : Glc) (gr : Grant) : Glc :=
  { g with
    grant := some { gr with taken := gr.taken + 1, timer := none }
    stations := g.stations.set gr.station { g.stations.get gr.station with timeouts := 0 } }

/-- R23, R27: a PUNCH frame under a grant stops the grant timer, counts as a frame taken and sets the timeouts to 0; the
punch is judged with the age it carries, and the outcome and the release indicator go back in a REPLY inside the grant,
with END when MORE is clear, the budget is spent or the outcome is WAIT. With no grant, while the part is sending, and in
LOW, the frame is discarded. -/
def Obligations.PunchesAreAnsweredInsideTheGrant : Prop :=
  (∀ (badge age : Nat) (more : Bool) (s : State) (gr : Grant) (c : StationConfig), s.tbu.supply ≠ .low →
    s.glc.sending = none → s.glc.grant = some gr → s.stationConfig gr.station = some c →
    ∃ t v last, After (.punchFrame badge age more) s t
      ∧ v = ({ s with glc := frameTaken s.glc gr } : State).judge ⟨gr.station, c, badge, age, s.tbu.calendar,
          s.tbu.calendar - age, decide (60 ≤ age), decide (s.olc.settings.staleLimit < age)⟩
      ∧ (last = true ↔ more = false ∨ gr.budget ≤ gr.taken + 1 ∨ v.code = .wait)
      ∧ v.state.glc = frameTaken s.glc gr
      ∧ Settled { v.state with glc := { frameTaken s.glc gr with
          line := .grant, sending := some (.reply c.level v.code v.release last) } } t)
  ∧ (∀ (badge age : Nat) (more : Bool) (s : State),
    s.tbu.supply = .low ∨ s.glc.sending ≠ none ∨ s.glc.grant = none → Ignored (.punchFrame badge age more) s)

/-- R33: the reports of a STATUS frame, in their order. -/
def statusReported (s : State) (id : StationId) (restored tamper fault : Bool) : State :=
  let s1 := if restored then s.nonPunch (.station id) (.station ⟨id, .restored, s.tbu.calendar⟩) else s
  let s2 := if tamper then s1.nonPunch (.station id) (.station ⟨id, .tamper, s.tbu.calendar⟩) else s1
  if fault then s2.nonPunch (.station id) (.station ⟨id, .readerFault, s.tbu.calendar⟩) else s2

/-- R23, R28, R32, R33: a STATUS frame under a grant is answered NOTED with END after its reports; within a probe wait it
restores the station that is still SUSPENDED and ends the wait; otherwise it is discarded. -/
def Obligations.StatusFramesAreNotedOrAnswerAProbe : Prop :=
  (∀ (tamper fault : Bool) (s : State) (gr : Grant) (c : StationConfig), s.tbu.supply ≠ .low →
    s.glc.sending = none → s.glc.grant = some gr → s.stationConfig gr.station = some c →
    ∃ t, After (.statusFrame tamper fault) s t
      ∧ Settled { statusReported s gr.station false tamper fault with glc := { frameTaken s.glc gr with
          line := .grant, sending := some (.reply c.level .noted false true) } } t)
  ∧ (∀ (tamper fault : Bool) (s : State) (id : StationId), s.tbu.supply ≠ .low →
    s.glc.sending = none → s.glc.grant = none → s.glc.probed = some id →
    ∃ t stations, After (.statusFrame tamper fault) s t
      ∧ stations = (if (s.glc.stations.get id).state = .suspended then
          s.glc.stations.set id { s.glc.stations.get id with state := .idle, timeouts := 0, probeTimer := none }
        else s.glc.stations)
      ∧ Settled { statusReported s id (decide ((s.glc.stations.get id).state = .suspended)) tamper fault with
          glc := { s.glc with stations := stations, line := .free, probed := none, probeWait := none } } t)
  ∧ (∀ (tamper fault : Bool) (s : State), s.tbu.supply = .low ∨ s.glc.sending ≠ none
      ∨ (s.glc.grant = none ∧ s.glc.probed = none) → Ignored (.statusFrame tamper fault) s)

/-- R29, R30, R31, R32: the timers of the gate line. A grant that times out is revoked: the station is in HOLD with one
timeout more or, at the third, SUSPENDED with a probe timer of 60 s and a SUSPENDED report. A probe timer puts its station
among the pending probes and starts again. The end of a probe wait frees the line. The end of the rest after an empty
round, and a change of the attention wire (R24), let the line weigh again. The expiry of a timer that is not running changes
nothing (log 6). -/
def Obligations.GateLineTimersAndTheAttentionWire : Prop :=
  (∀ (s : State) (gr : Grant), s.tbu.supply ≠ .low → s.glc.grant = some gr → gr.timer.isSome = true →
    ((s.glc.stations.get gr.station).timeouts < 2 → ∃ t, After .grantTimeout s t
      ∧ Settled { s with glc := { s.glc with
          grant := none, line := .free
          stations := s.glc.stations.set gr.station { s.glc.stations.get gr.station with
            state := .hold, timeouts := (s.glc.stations.get gr.station).timeouts + 1 } } } t)
    ∧ (2 ≤ (s.glc.stations.get gr.station).timeouts → ∃ t, After .grantTimeout s t
      ∧ Settled ({ s with glc := { s.glc with
          grant := none, line := .free
          stations := s.glc.stations.set gr.station { s.glc.stations.get gr.station with
            state := .suspended, timeouts := 0, probeTimer := some (Config.seconds 60) } } }.nonPunch
          (.station gr.station) (.station ⟨gr.station, .suspended, s.tbu.calendar⟩)) t))
  ∧ (∀ (s : State) (id : StationId), s.tbu.supply ≠ .low → (s.glc.stations.get id).probeTimer.isSome = true →
    ∃ t probes, After (.probeTimerExpiry id) s t
      ∧ (∀ j : StationId, inSet probes j = true ↔ inSet s.glc.pendingProbes j = true ∨ j = id)
      ∧ Settled { s with glc := { s.glc with
          pendingProbes := probes
          stations := s.glc.stations.set id
            { s.glc.stations.get id with probeTimer := some (Config.seconds 60) } } } t)
  ∧ (∀ s : State, s.tbu.supply ≠ .low → s.glc.line = .probeWait → ∃ t, After .probeWaitExpiry s t
      ∧ Settled { s with glc := { s.glc with line := .free, probed := none, probeWait := none } } t)
  ∧ (∀ s : State, s.tbu.supply = .low ∨ s.glc.grant = none ∨ (∃ gr, s.glc.grant = some gr ∧ gr.timer = none) →
      Ignored .grantTimeout s)
  ∧ (∀ (pulled : Bool) (s : State), ∃ t, After (.attentionWireChange pulled) s t
    ∧ Settled { s with glc := { s.glc with attention := pulled } } t)
  ∧ (∀ s : State, s.tbu.supply ≠ .low → s.glc.restTimer.isSome = true →
    ∃ t, After .restTimerExpiry s t ∧ Settled { s with glc := { s.glc with restTimer := none } } t)
  ∧ (∀ s : State, s.tbu.supply = .low ∨ s.glc.restTimer = none → Ignored .restTimerExpiry s)
  ∧ (∀ (s : State) (id : StationId), s.tbu.supply = .low ∨ (s.glc.stations.get id).probeTimer = none →
      Ignored (.probeTimerExpiry id) s)
  ∧ (∀ s : State, s.tbu.supply = .low ∨ s.glc.line ≠ .probeWait → Ignored .probeWaitExpiry s)

/-- R20: the raw fields of a STATION_PUT. -/
def stationFields (id : StationId) (configured : Bool) (c : StationConfig) : StationPutArgs where
  station := id
  configured := if configured then 1 else 0
  level := c.level
  mode := match c.mode with
    | .entry => 0
    | .exit => 1
    | .toggle => 2
    | .access => 3
  door := match c.door with
    | none => 255
    | some d => d
  zone := c.zone
  enabled := if c.enabled then 1 else 0

/-- R20: every field of a STATION_PUT is in range. -/
def stationInRange (a : StationPutArgs) : Prop :=
  a.station ≤ 14 ∧ a.configured ≤ 1 ∧ a.level ≤ 14 ∧ a.mode ≤ 3 ∧ (a.door ≤ 15 ∨ a.door = 255) ∧ a.zone ≤ 3
    ∧ a.enabled ≤ 1

/-- R20: a configured station with a different id holds the level. -/
def levelHeld (s : State) (id : StationId) (level : Fin 15) : Prop :=
  ∃ j c, j ≠ id ∧ s.stationConfig j = some c ∧ c.level = level

/-- R20, R29: the gate line when a put ends the grant of its station. -/
def grantEnded (g : Glc) (id : StationId) : Glc :=
  match g.grant with
  | some gr =>
    if gr.station = id then
      { g with
        grant := none
        line := if g.sending = none then .free else g.line
        stations := g.stations.set id { g.stations.get id with state := .hold } }
    else g
  | none => g

/-- R20, R29: STATION_PUT. A station that becomes configured is IDLE with no timeouts; one that stays configured keeps its
state, timeouts and probe timer, but loses a current grant; one that becomes unconfigured has the cold record, its grant,
its pending probe and its probe wait ended; a put that leaves it unconfigured changes nothing. Where a grant or a probe ends
while a frame is being sent, the line stays as it is to the end of that frame (log 20 for a GRANT or PROBE frame). A field
out of range is answered before a level that is held (log 34). -/
def Obligations.StationPutReplacesTheRecord : Prop :=
  (∀ (id : StationId) (c : StationConfig) (s : State), s.takes → ¬ levelHeld s id c.level →
    (s.stationConfig id = none → Carried (.stationPut (.fields (stationFields id true c))) s
      { s with glc := { s.glc with stations := s.glc.stations.set id ⟨some c, .idle, 0, none⟩ } } 0x02 .none)
    ∧ (s.stationConfig id ≠ none → Carried (.stationPut (.fields (stationFields id true c))) s
      { s with glc := grantEnded { s.glc with
          stations := s.glc.stations.set id { s.glc.stations.get id with config := some c } } id } 0x02 .none))
  ∧ (∀ (id : StationId) (c : StationConfig) (s : State), s.takes →
    (s.stationConfig id = none → Carried (.stationPut (.fields (stationFields id false c))) s s 0x02 .none)
    ∧ (s.stationConfig id ≠ none → ∃ probes,
        (∀ j : StationId, inSet probes j = true ↔ inSet s.glc.pendingProbes j = true ∧ j ≠ id)
        ∧ Carried (.stationPut (.fields (stationFields id false c))) s
          { s with glc := { grantEnded s.glc id with
              stations := s.glc.stations.set id ⟨none, .idle, 0, none⟩
              pendingProbes := probes
              probed := if s.glc.probed = some id then none else s.glc.probed
              probeWait := if s.glc.probed = some id then none else s.glc.probeWait
              line := if s.glc.probed = some id ∧ (grantEnded s.glc id).line = .probeWait then .free
                else (grantEnded s.glc id).line } } 0x02 .none))
  ∧ (∀ (id : StationId) (c : StationConfig) (s : State), s.takes → levelHeld s id c.level →
    Refused (.stationPut (.fields (stationFields id true c))) s 0x02 .duplicateLevel)
  ∧ (∀ (a : StationPutArgs) (s : State), s.takes → ¬ stationInRange a → Refused (.stationPut (.fields a)) s 0x02 .badArg)

/-- R20, R21, R36: STATION_GET returns the whole record. STATION_RESUME returns a SUSPENDED station to IDLE with no timeouts, its
probe timer stopped and its pending probe cancelled, and a RESTORED report; at any other configured station it changes nothing.
DISPLAY (R36) appends its message to the queue, for a station 0..14 or ALL (FE hex) and at most 32 characters in 20..7E
hex, unless the queue holds 32 messages; a field out of range is answered before a full queue (log 34). -/
def Obligations.StationGetResumeAndDisplay : Prop :=
  (∀ (id : StationId) (s : State), s.takes →
    Carried (.stationGet (.fields id)) s s 0x03 (.station (s.glc.stations.get id))
    ∧ (s.stationConfig id = none → Refused (.stationResume (.fields id)) s 0x04 .notFound)
    ∧ (s.stationConfig id ≠ none → (s.glc.stations.get id).state ≠ .suspended →
        Carried (.stationResume (.fields id)) s s 0x04 .none)
    ∧ (s.stationConfig id ≠ none → (s.glc.stations.get id).state = .suspended → ∃ probes,
        (∀ j : StationId, inSet probes j = true ↔ inSet s.glc.pendingProbes j = true ∧ j ≠ id)
        ∧ Carried (.stationResume (.fields id)) s
          ({ s with glc := { s.glc with
            pendingProbes := probes
            stations := s.glc.stations.set id { s.glc.stations.get id with
              state := .idle, timeouts := 0, probeTimer := none } } }.nonPunch
            (.station id) (.station ⟨id, .restored, s.tbu.calendar⟩)) 0x04 .none))
  ∧ (∀ (n : Nat) (s : State), s.takes → 15 ≤ n →
    Refused (.stationGet (.fields n)) s 0x03 .badArg ∧ Refused (.stationResume (.fields n)) s 0x04 .badArg)
  ∧ (∀ (text : List Nat) (s : State), s.takes → text.length ≤ 32 → (∀ c ∈ text, 0x20 ≤ c ∧ c ≤ 0x7E) →
    (s.glc.displayQueue.length < 32 →
      Carried (.display (.fields ⟨0xFE, text⟩)) s
        { s with glc := { s.glc with displayQueue := s.glc.displayQueue ++ [⟨.all, text⟩] } } 0x05 .none
      ∧ ∀ id : StationId, Carried (.display (.fields ⟨id, text⟩)) s
        { s with glc := { s.glc with displayQueue := s.glc.displayQueue ++ [⟨.station id, text⟩] } } 0x05 .none)
    ∧ (32 ≤ s.glc.displayQueue.length →
      Refused (.display (.fields ⟨0xFE, text⟩)) s 0x05 .queueFull
      ∧ ∀ id : StationId, Refused (.display (.fields ⟨id, text⟩)) s 0x05 .queueFull))
  ∧ (∀ (a : DisplayArgs) (s : State), s.takes →
    (14 < a.target ∧ a.target ≠ 0xFE) ∨ 32 < a.text.length ∨ (∃ c ∈ a.text, c < 0x20 ∨ 0x7E < c) →
    Refused (.display (.fields a)) s 0x05 .badArg)

/-! ### Chapter 3: badge table, presence and conflicts -/

/-- R42: the raw fields of a BADGE_PUT. -/
def badgeFields (c : BadgeConfig) : BadgePutArgs where
  badge := c.number
  crew := c.crew
  payClass := c.payClass
  doors := c.doors.toNat
  flags := (if c.flags.blocked then 1 else 0) + (if c.flags.anytime then 2 else 0) + (if c.flags.noPay then 4 else 0)
    + (if c.flags.passbackExempt then 8 else 0)

/-- The state with its badge entries replaced. -/
def withEntries (s : State) (entries : List Badge) : State := { s with btb := { s.btb with entries := entries } }

/-- The state with one badge entry changed. -/
def entryChanged (s : State) (number : Nat) (f : Badge → Badge) : State :=
  withEntries s (s.btb.entries.map fun e => if e.number = number then f e else e)

/-- R43, R44: the entry has an open shift record or a pending passage. -/
def heldFast (s : State) (b : Badge) : Prop := b.record ≠ none ∨ ∃ p ∈ s.pev.passages, p.badge = b.number

/-- R43: a replace of this entry would be refused with BUSY. -/
def replaceRefused (s : State) (b : Badge) (c : BadgeConfig) : Prop :=
  (heldFast s b ∧ (b.crew ≠ c.crew ∨ b.payClass ≠ c.payClass ∨ b.flags.noPay ≠ c.flags.noPay))
    ∨ (b.flags.noPay = true ∧ c.flags.noPay = false ∧ b.presence = .inside)

/-- R41, R42, R43: BADGE_PUT. A number that no entry holds is inserted in order, OUT, with nothing else in it but closed
totals of zero while a closed block exists; a number that is held has its four configuration fields replaced, unless that
is refused with BUSY. -/
def Obligations.BadgePutInsertsInOrderOrReplaces : Prop :=
  (∀ (c : BadgeConfig) (s : State), s.takes → BadgesOk s → 1 ≤ c.number → c.number ≤ 16777215 →
    (∀ b ∈ s.btb.entries, b.number ≠ c.number) →
    (s.btb.entries.length < 2048 → Carried (.badgePut (.fields (badgeFields c))) s
      (withEntries s (s.btb.entries.filter (fun b => decide (b.number < c.number))
        ++ ⟨c.number, c.crew, c.payClass, c.doors, c.flags, .outside, none, none, none, ⟨0, 0, 0, 0, 0, 0, 0, false⟩, 0,
            if s.btb.closedBlock = none then none else some ⟨0, 0, 0, 0, 0, 0, 0, false⟩⟩
          :: s.btb.entries.filter (fun b => decide (c.number < b.number)))) 0x06 .none)
    ∧ (2048 ≤ s.btb.entries.length → Refused (.badgePut (.fields (badgeFields c))) s 0x06 .tableFull))
  ∧ (∀ (c : BadgeConfig) (s : State) (below above : List Badge) (b : Badge), s.takes → BadgesOk s →
    1 ≤ c.number → c.number ≤ 16777215 → s.btb.entries = below ++ b :: above → b.number = c.number →
    (¬ replaceRefused s b c → Carried (.badgePut (.fields (badgeFields c))) s
      (withEntries s (below
        ++ { b with crew := c.crew, payClass := c.payClass, doors := c.doors, flags := c.flags } :: above)) 0x06 .none)
    ∧ (replaceRefused s b c → Refused (.badgePut (.fields (badgeFields c))) s 0x06 .busy))
  ∧ (∀ (a : BadgePutArgs) (s : State), s.takes →
    a.badge = 0 ∨ 16777215 < a.badge ∨ 31 < a.crew ∨ 15 < a.payClass ∨ 65535 < a.doors ∨ 15 < a.flags →
    Refused (.badgePut (.fields a)) s 0x06 .badArg)

/-- 3.1: totals are non-zero. -/
def someTotal (t : Totals) : Prop :=
  0 < t.regular ∨ 0 < t.overtime ∨ 0 < t.night ∨ 0 < t.holiday ∨ 0 < t.pay ∨ 0 < t.shifts ∨ 0 < t.missedOut
    ∨ t.saturated = true

/-- R47: the code of a presence. -/
def presenceField : Presence → Nat
  | .inside => 0
  | .outside => 1
  | .unknown => 2

/-- R41, R44, R45: BADGE_DROP removes an entry with no record, no passage and no non-zero totals; BADGE_GET returns an
entry by its number, or the next above a number, and changes nothing. PRESENCE_SET (R47) sets the presence of an entry
with no record and no passage, IN for a NO_PAY badge alone; CONFLICT_READ (R52) answers the members of the conflict set in
ascending order and empties it. -/
def Obligations.BadgeDropGetPresenceAndConflictRead : Prop :=
  (∀ (s : State) (below above : List Badge) (b : Badge), s.takes → BadgesOk s → s.btb.entries = below ++ b :: above →
    (¬ (heldFast s b ∨ someTotal b.current ∨ ∃ t, b.closed = some t ∧ someTotal t) →
      Carried (.badgeDrop (.fields b.number)) s (withEntries s (below ++ above)) 0x07 .none)
    ∧ (heldFast s b ∨ someTotal b.current ∨ (∃ t, b.closed = some t ∧ someTotal t) →
      Refused (.badgeDrop (.fields b.number)) s 0x07 .busy)
    ∧ (∃ door, (∀ d, door = some d ↔ ∃ p, s.passageOf b.number = some p ∧ p.door = d)
        ∧ Carried (.badgeGet (.fields ⟨b.number, 0⟩)) s s 0x08 (.badge b door)
        ∧ ∀ n, n < b.number → (∀ x ∈ below, x.number ≤ n) →
          Carried (.badgeGet (.fields ⟨n, 1⟩)) s s 0x08 (.badge b door)))
  ∧ (∀ (n : Nat) (s : State), s.takes → 1 ≤ n → n ≤ 16777215 → (∀ b ∈ s.btb.entries, b.number ≠ n) →
    Refused (.badgeDrop (.fields n)) s 0x07 .notFound ∧ Refused (.badgeGet (.fields ⟨n, 0⟩)) s 0x08 .notFound)
  ∧ (∀ (n : Nat) (s : State), s.takes → n ≤ 16777215 → (∀ b ∈ s.btb.entries, b.number ≤ n) →
    Refused (.badgeGet (.fields ⟨n, 1⟩)) s 0x08 .notFound)
  ∧ (∀ (n : Nat) (s : State), s.takes → n = 0 ∨ 16777215 < n →
    Refused (.badgeDrop (.fields n)) s 0x07 .badArg ∧ Refused (.badgeGet (.fields ⟨n, 0⟩)) s 0x08 .badArg)
  ∧ (∀ (a : BadgeGetArgs) (s : State), s.takes → 16777215 < a.badge ∨ 1 < a.selector →
    Refused (.badgeGet (.fields a)) s 0x08 .badArg)
  ∧ (∀ (s : State) (below above : List Badge) (b : Badge) (p : Presence), s.takes → BadgesOk s →
    s.btb.entries = below ++ b :: above →
    (¬ heldFast s b → (p = .inside → b.flags.noPay = true) →
      Carried (.presenceSet (.fields ⟨b.number, presenceField p⟩)) s
        (withEntries s (below ++ { b with presence := p } :: above)) 0x09 .none)
    ∧ (heldFast s b → Refused (.presenceSet (.fields ⟨b.number, presenceField p⟩)) s 0x09 .busy)
    ∧ (¬ heldFast s b → p = .inside → b.flags.noPay = false →
      Refused (.presenceSet (.fields ⟨b.number, presenceField p⟩)) s 0x09 .badArg))
  ∧ (∀ (n : Nat) (p : Presence) (s : State), s.takes → 1 ≤ n → n ≤ 16777215 → (∀ b ∈ s.btb.entries, b.number ≠ n) →
    Refused (.presenceSet (.fields ⟨n, presenceField p⟩)) s 0x09 .notFound)
  ∧ (∀ (a : PresenceSetArgs) (s : State), s.takes → a.badge = 0 ∨ 16777215 < a.badge ∨ 2 < a.presence →
    Refused (.presenceSet (.fields a)) s 0x09 .badArg)
  ∧ (∀ s : State, s.takes → ∃ ids : List StationId, (∀ i, i ∈ ids ↔ inSet s.pev.conflictSet i = true)
    ∧ ids.Pairwise (· < ·)
    ∧ Carried (.conflictRead (.fields ())) s { s with pev := { s.pev with conflictSet := 0 } } 0x0A (.conflictSet ids))

/-! ### Chapter 4: punch evaluation and pending passages -/

/-- R56: the direction of a punch of a badge that is found. -/
def directionOf (mode : StationMode) (p : Presence) (dir : Direction) : Prop :=
  match mode with
  | .entry => dir = .entry
  | .exit => dir = .exit
  | .access => dir = .access
  | .toggle => (p = .inside → dir = .exit) ∧ (p ≠ .inside → dir = .entry)

/-- R63: the station's door, when the door table has it configured. -/
def doorOfStation (s : State) (c : StationConfig) (d : DoorId) (r : Door) : Prop :=
  c.door = some d ∧ s.drc.doors.get d = some r

/-- R66, R67: the punch would release this door. -/
def releases (s : State) (p : Punch) (d : DoorId) (r : Door) : Prop :=
  doorOfStation s p.config d r ∧ r.mode ≠ .free ∧ p.stale = false

/-- R60 to R66: what each check of a badge refuses or holds, by the outcome it gives. -/
def checkFails (s : State) (p : Punch) (b : Badge) (dir : Direction) : ReplyCode → Prop
  | .blocked => b.flags.blocked = true
  | .already => ∃ l, b.lastPunch = some l ∧ l.station = p.station ∧ l.time ≤ p.time
      ∧ p.time - l.time < s.olc.settings.duplicateWindow
  | .conflict => ∃ l c, b.lastPunch = some l ∧ l.station ≠ p.station ∧ s.stationConfig l.station = some c
      ∧ c.zone = p.config.zone ∧ l.time ≤ p.time ∧ p.time - l.time < s.olc.settings.conflictWindow
  | .notPermitted => ∃ d r, doorOfStation s p.config d r ∧ inSet b.doors d = false
  | .lockdown => ∃ d r, doorOfStation s p.config d r ∧ r.mode = .lockdown
  | .locked => ∃ d r, doorOfStation s p.config d r ∧ r.mode = .locked ∧ dir ≠ .exit
  | .passback => b.flags.passbackExempt = false ∧ ((dir = .entry ∧ b.presence = .inside)
      ∨ (dir = .exit ∧ b.presence = .outside) ∨ (dir = .access ∧ b.presence = .outside))
  | .outOfWindow => dir = .entry ∧ b.flags.noPay = false ∧ b.flags.anytime = false
      ∧ s.sps.matchShift b.crew (p.time / 60) = none
  | .wait => ∃ d r, releases s p d r
      ∧ ((∃ q ∈ s.pev.passages, q.door = d) ∨ r.state = .opened ∨ r.state = .held ∨ r.state = .forced)
  | .pending => ∃ q ∈ s.pev.passages, q.badge = b.number
  | .ok => False
  | .clockUnset => False
  | .unknownBadge => False
  | .noted => False

/-- 4.3: the checks of a badge that is found, in their order. -/
def badgeChecks : List ReplyCode :=
  [.blocked, .already, .conflict, .notPermitted, .lockdown, .locked, .passback, .outOfWindow, .wait, .pending]

/-- R59 to R67: the checks run in their order, and the first that fails decides the outcome; a punch that passes them all
is answered OK. -/
def Obligations.FirstFailingCheckDecidesThePunch : Prop :=
  ∀ (s : State) (p : Punch),
    (s.tbu.calendarValid = false → (s.judge p).code = .clockUnset)
    ∧ (s.tbu.calendarValid = true → s.sparePlaces < 4 → (s.judge p).code = .wait)
    ∧ (s.tbu.calendarValid = true → 4 ≤ s.sparePlaces → s.findBadge p.badge = none →
        (s.judge p).code = .unknownBadge)
    ∧ (∀ b dir, s.tbu.calendarValid = true → 4 ≤ s.sparePlaces → s.findBadge p.badge = some b →
        directionOf p.config.mode b.presence dir →
        (∀ earlier code later, badgeChecks = earlier ++ code :: later →
          (∀ x ∈ earlier, ¬ checkFails s p b dir x) → checkFails s p b dir code → (s.judge p).code = code)
        ∧ ((∀ x ∈ badgeChecks, ¬ checkFails s p b dir x) → (s.judge p).code = .ok))

/-- R58: the PUNCH report of a refusal. -/
def refusalReport (p : Punch) (dir : Option Direction) (code : ReplyCode) : ReportBody :=
  .punch ⟨p.badge, p.station, p.config.door, dir, .refused, some code, ⟨p.late, p.stale, false, false, false⟩, p.age,
    p.time, p.arrival, p.arrival, p.arrival⟩

/-- The state with one more PUNCH report at the tail of the store. -/
def punchStored (s : State) (body : ReportBody) : State :=
  { s with rps := { s.rps with
    records := s.rps.records ++ [⟨s.rps.nextSequence, false, body⟩]
    nextSequence := (s.rps.nextSequence + 1) % 65536 } }

/-- R57 to R66: what a punch that is not accepted leaves. CLOCK_UNSET, WAIT and ALREADY change nothing and make no
report, and ALREADY sets the release indicator when the badge's passage is at the station's door. Every refusal but
CONFLICT only stores its PUNCH report, with the direction, unresolved for an unknown badge at a TOGGLE station. A
CONFLICT refusal (R51, R53) also puts both station ids into the conflict set; when the set was empty a CONFLICT report
follows and the alarm output fires. The report carries the station's door as the station holds it, also where that door
is not configured (log 25). -/
def Obligations.PunchesNotAcceptedOnlyReport : Prop :=
  ∀ (s : State) (p : Punch),
    ((s.judge p).code = .clockUnset ∨ (s.judge p).code = .wait ∨ (s.judge p).code = .already → (s.judge p).state = s)
    ∧ ((s.judge p).code = .already →
        ((s.judge p).release = true ↔ ∃ q, s.passageOf p.badge = some q ∧ p.config.door = some q.door))
    ∧ ((s.judge p).code ≠ .already → (s.judge p).code ≠ .ok → (s.judge p).release = false)
    ∧ ((s.judge p).code = .unknownBadge → ∃ dir, (s.judge p).state = punchStored s (refusalReport p dir .unknownBadge)
        ∧ (dir = none ↔ p.config.mode = .toggle)
        ∧ ∀ d pres, dir = some d → directionOf p.config.mode pres d)
    ∧ (∀ code, code ∈ [ReplyCode.blocked, .notPermitted, .lockdown, .locked, .passback, .outOfWindow, .pending] →
        (s.judge p).code = code →
        ∃ b dir, s.findBadge p.badge = some b ∧ directionOf p.config.mode b.presence dir
          ∧ (s.judge p).state = punchStored s (refusalReport p (some dir) code))
    ∧ ((s.judge p).code = .conflict → ∃ b dir l set, s.findBadge p.badge = some b
      ∧ directionOf p.config.mode b.presence dir ∧ b.lastPunch = some l
      ∧ (∀ i : StationId, inSet set i = true ↔ inSet s.pev.conflictSet i = true ∨ i = p.station ∨ i = l.station)
      ∧ (s.pev.conflictSet ≠ 0 → (s.judge p).state =
          { punchStored s (refusalReport p (some dir) .conflict) with pev := { s.pev with conflictSet := set } })
      ∧ (s.pev.conflictSet = 0 → (s.judge p).state =
          (({ punchStored s (refusalReport p (some dir) .conflict) with
              pev := { s.pev with conflictSet := set } }).nonPunch .conflict
            (.conflict ⟨p.badge, p.station, l.station, p.config.zone, p.time, l.time, s.tbu.calendar⟩)).fireAlarm))

/-- The state with its pending passages replaced. -/
def passagesSet (s : State) (passages : List Passage) : State := { s with pev := { s.pev with passages := passages } }

/-- The state with one configured door replaced. -/
def doorSet (s : State) (d : DoorId) (r : Door) : State :=
  { s with drc := { s.drc with doors := s.drc.doors.set d (some r) } }

/-- R65: the captured instance of a punch. -/
def capturedAs (s : State) (b : Badge) (dir : Direction) (time : Nat) (c : Captured) : Prop :=
  (dir = .entry → b.flags.noPay = false → ∀ i, s.sps.matchShift b.crew (time / 60) = some i → c = .shift i)
  ∧ (dir = .entry → b.flags.noPay = false → s.sps.matchShift b.crew (time / 60) = none → c = .unscheduled)
  ∧ (dir ≠ .entry ∨ b.flags.noPay = true → c = .none)

/-- R48, R67, R68, R88: an accepted punch at a door that is not FREE, and not STALE, creates a pending passage: the record
joins the list in door order, the badge's last accepted punch is saved and replaced, the door is RELEASED with its release
timer at the full release time, and no report is made. -/
def Obligations.AcceptedPunchesReleaseTheirDoor : Prop :=
  ∀ (s : State) (p : Punch) (b : Badge) (dir : Direction) (d : DoorId) (r : Door),
    (s.judge p).code = .ok → s.findBadge p.badge = some b → directionOf p.config.mode b.presence dir →
    releases s p d r → PassagesOk s →
    (s.judge p).release = true
    ∧ ∃ c before after, capturedAs s b dir p.time c ∧ s.pev.passages = before ++ after
      ∧ (∀ q ∈ before, q.door < d) ∧ (∀ q ∈ after, d < q.door)
      ∧ (s.judge p).state = doorSet (passagesSet (entryChanged s p.badge fun e =>
            { e with savedPunch := some e.lastPunch, lastPunch := some ⟨p.station, p.time⟩ })
          (before ++ ⟨d, p.badge, p.station, dir, p.time, p.age, p.arrival, p.late, c, s.tbu.calendar⟩ :: after))
          d { r with state := .released, releaseTimer := some (Config.seconds r.config.releaseTime) }

/-- R67, R71: an accepted punch at a station without a door, at a door in mode FREE, or STALE, commits at once: the
badge's last accepted punch is replaced, the work of its direction is done with the creation reading at the arrival,
FREE_PASS at a FREE door, and no door is released. The report carries the station's door as the station holds it, also
where that door is not configured (log 25). -/
def Obligations.OtherAcceptedPunchesCommitAtOnce : Prop :=
  ∀ (s : State) (p : Punch) (b : Badge) (dir : Direction),
    (s.judge p).code = .ok → s.findBadge p.badge = some b → directionOf p.config.mode b.presence dir →
    (∀ d r, ¬ releases s p d r) →
    (s.judge p).release = false
    ∧ ∃ c free, capturedAs s b dir p.time c
      ∧ (free = true ↔ ∃ d r, doorOfStation s p.config d r ∧ r.mode = .free)
      ∧ (s.judge p).state =
        (entryChanged s p.badge fun e => { e with lastPunch := some ⟨p.station, p.time⟩ }).commitWork
          ⟨p.badge, p.station, p.config.door, dir, p.time, p.age, p.arrival, c, p.arrival,
            ⟨p.late, p.stale, free, false, false⟩⟩

/-- R58: the PUNCH report of an accepted punch. -/
def acceptedReport (a : Accepted) (result : PunchResult) (noRecord openKept : Bool) (finish : Nat) : ReportBody :=
  .punch ⟨a.badge, a.station, a.door, some a.direction, result, none,
    { a.flags with noRecord := noRecord, openKept := openKept }, a.age, a.punchTime, a.arrival, a.creation, finish⟩

/-- R71 to R73, R117, R134, R137: the work of a commit. ENTRY sets IN and gives a badge without NO_PAY a record unless it
holds one (OPEN_KEPT); EXIT sets OUT and closes the record after the PUNCH report, or is reported with NO_RECORD; ACCESS
changes neither. -/
def Obligations.CommitsDoTheWorkOfTheirDirection : Prop :=
  ∀ (s : State) (a : Accepted) (b : Badge), BadgesOk s → s.findBadge a.badge = some b →
    a.flags.noRecord = false → a.flags.openKept = false →
    (a.direction = .entry → b.flags.noPay = false → b.record = none → s.commitWork a =
      punchStored (entryChanged s a.badge fun e => { e with
        presence := .inside
        record := some (buildRecord a.captured a.punchTime (s.sps.payClasses.get b.payClass) s.olc.settings) })
        (acceptedReport a .accepted false false s.tbu.calendar))
    ∧ (a.direction = .entry → b.flags.noPay = true ∨ b.record ≠ none → s.commitWork a =
      punchStored (entryChanged s a.badge fun e => { e with presence := .inside })
        (acceptedReport a .accepted false (!b.flags.noPay) s.tbu.calendar))
    ∧ (a.direction = .exit → ∀ r saturated, b.record = some r →
      saturated = closeSaturates b.current (computeClose a.badge b.carry r (.outTime a.punchTime)) 0 → s.commitWork a =
      punchStored (punchStored (entryChanged s a.badge fun e => { e with
          presence := .outside
          record := none
          current := addClose e.current (computeClose a.badge b.carry r (.outTime a.punchTime)) 0
          carry := (computeClose a.badge b.carry r (.outTime a.punchTime)).carry })
        (acceptedReport a .accepted false false s.tbu.calendar))
        (.shiftClose ⟨computeClose a.badge b.carry r (.outTime a.punchTime), .punch, s.btb.period, .outside, saturated,
          s.tbu.calendar⟩))
    ∧ (a.direction = .exit → b.record = none → s.commitWork a =
      punchStored (entryChanged s a.badge fun e => { e with presence := .outside })
        (acceptedReport a .accepted true false s.tbu.calendar))
    ∧ (a.direction = .access → s.commitWork a =
      punchStored s (acceptedReport a .accepted false false s.tbu.calendar))

/-- R49, R71, R74: the end of a pending passage. A commit takes it off the list, clears the saved last punch and does the
work of its direction with the values of the passage; a cancel takes it off the list, restores the saved last punch and
stores a CANCELLED report. Then owed reports are emitted. At a door without a passage nothing happens. -/
def Obligations.PassagesCommitOrCancel : Prop :=
  (∀ (s : State) (before after : List Passage) (p : Passage) (freePass : Bool), PassagesOk s →
    s.pev.passages = before ++ p :: after →
    s.commitPassage p.door freePass =
      ((entryChanged (passagesSet s (before ++ after)) p.badge
        fun e => { e with savedPunch := none }).commitWork
          ⟨p.badge, p.station, some p.door, p.direction, p.punchTime, p.age, p.arrival, p.captured, p.creation,
            ⟨p.late, false, freePass, false, false⟩⟩).emitOwed
    ∧ s.cancelPassage p.door =
      (punchStored (entryChanged (passagesSet s (before ++ after)) p.badge
        fun e => { e with lastPunch := e.savedPunch.join, savedPunch := none })
        (.punch ⟨p.badge, p.station, some p.door, some p.direction, .cancelled, none,
          ⟨p.late, false, false, false, false⟩, p.age, p.punchTime, p.arrival, p.creation, s.tbu.calendar⟩)).emitOwed)
  ∧ (∀ (s : State) (d : DoorId) (freePass : Bool), (∀ p ∈ s.pev.passages, p.door ≠ d) →
    s.commitPassage d freePass = s ∧ s.cancelPassage d = s)

/-! ### Chapter 5: doors and inputs -/

/-- R84: a window contains a plant minute. The weekday of day 0 is 5, a Saturday, and that of the day before it 4. -/
def windowContains (w : Window) (m : Nat) : Prop :=
  (w.start < w.stop ∧ inSet w.weekdays ((m / 1440 + 5) % 7) = true ∧ w.start ≤ m % 1440 ∧ m % 1440 < w.stop)
  ∨ (w.stop ≤ w.start ∧ inSet w.weekdays ((m / 1440 + 5) % 7) = true ∧ w.start ≤ m % 1440)
  ∨ (w.stop ≤ w.start ∧ inSet w.weekdays ((m / 1440 + 11) % 7) = true ∧ m % 1440 < w.stop)

/-- R85: the schedule mode of a door at the calendar's minute. -/
def hasScheduleMode (s : State) (c : DoorConfig) (mode : StandingMode) : Prop :=
  (s.tbu.calendarValid = false → mode = c.defaultMode)
  ∧ (c.schedule = none → mode = c.defaultMode)
  ∧ (∀ k, s.tbu.calendarValid = true → c.schedule = some k →
      ((∀ w ∈ s.drc.schedules.get k, ¬ windowContains w (s.tbu.calendar / 60)) → mode = c.defaultMode)
      ∧ (∀ before w after, s.drc.schedules.get k = before ++ w :: after →
          (∀ x ∈ before, ¬ windowContains x (s.tbu.calendar / 60)) → windowContains w (s.tbu.calendar / 60) →
          mode = w.mode))

/-- R84, R85, R86: the effective mode is the first that applies: FREE in an evacuation, FREE at a SAFE door in BATTERY,
LOCKDOWN or FREE by the override, and otherwise the schedule mode, which the first window that contains the minute gives. -/
def Obligations.EffectiveModeIsTheFirstThatApplies : Prop :=
  ∀ (s : State) (c : DoorConfig) (o : Override),
    ((s.drc.inputs.get 32).accepted = true → s.resolveMode c o = .free)
    ∧ ((s.drc.inputs.get 32).accepted = false →
      (s.tbu.supply = .battery → c.failMode = .safe → s.resolveMode c o = .free)
      ∧ (s.tbu.supply ≠ .battery ∨ c.failMode = .secure →
        (o = .lockdown → s.resolveMode c o = .lockdown)
        ∧ (o = .holdFree → s.resolveMode c o = .free)
        ∧ (o = .normal → ∃ mode, hasScheduleMode s c mode
          ∧ (mode = .card → s.resolveMode c o = .card) ∧ (mode = .locked → s.resolveMode c o = .locked)
          ∧ (mode = .free → s.resolveMode c o = .free))))

/-- R88 to R97: what a resolution does to a door: nothing when it gives the mode the door has; a door that becomes FREE
stops both timers and commits its passage with FREE_PASS; a door that leaves FREE is OPEN or SECURE as its contact
stands; a RELEASED door that becomes LOCKDOWN is SECURE, and its passage is cancelled; any other change keeps the state. -/
def Obligations.ModeChangesMoveTheDoor : Prop :=
  ∀ (s : State) (d : DoorId) (r : Door) (mode : DoorMode), s.drc.doors.get d = some r →
    s.resolveMode r.config r.override = mode →
    (mode = r.mode → s.resolveDoor d = s)
    ∧ (mode ≠ r.mode → mode = .free → s.resolveDoor d =
        (doorSet s d { r with mode := .free, state := .free, releaseTimer := none, heldTimer := none }).commitPassage
          d true)
    ∧ (mode ≠ r.mode → r.mode = .free →
        (r.config.kind = .swing → s.accepted r.config.contact = true → s.resolveDoor d =
          doorSet s d { r with
            mode := mode, state := .opened, releaseTimer := none
            heldTimer := if 0 < r.config.heldLimit then some (Config.seconds r.config.heldLimit) else none })
        ∧ (r.config.kind = .turnstile ∨ s.accepted r.config.contact = false → s.resolveDoor d =
          doorSet s d { r with mode := mode, state := .secure, releaseTimer := none, heldTimer := none }))
    ∧ (mode ≠ r.mode → mode = .lockdown → r.mode ≠ .free → r.state = .released → s.resolveDoor d =
        (doorSet s d { r with mode := .lockdown, state := .secure, releaseTimer := none }).cancelPassage d)
    ∧ (mode ≠ r.mode → mode ≠ .free → r.mode ≠ .free → mode ≠ .lockdown ∨ r.state ≠ .released →
        s.resolveDoor d = doorSet s d { r with mode := mode })

/-- R78, R79, R81: a wire that changes is watched in MAINS and seen by the samples in BATTERY, where two agreeing samples
that differ from the accepted level are accepted. INPUT_PUT applies its settings at once, without an input event unless a
change in progress has already lasted the new filter time; INPUT_GET returns the settings and the accepted level. What the
edges do is AcceptedEdgesReachTheirDoor. A sample outside BATTERY changes nothing (log 6). -/
def Obligations.InputsAreWatchedSampledAndSet : Prop :=
  (∀ (i : InputId) (closed active : Bool) (s : State), reads (s.drc.inputs.get i).activeLevel closed active →
    (s.tbu.supply = .mains → After (.inputLevelChange i closed) s
      (inputSet s i (watched { s.drc.inputs.get i with closed := closed } active)))
    ∧ (s.tbu.supply ≠ .mains → After (.inputLevelChange i closed) s
      (inputSet s i { s.drc.inputs.get i with closed := closed })))
  ∧ (∀ s : State, s.tbu.supply = .battery → ∃ t, After .inputSample s t ∧ t.drc.sampleTimer = some (Config.tensOfMs 50)
    ∧ ∀ i active, reads (s.drc.inputs.get i).activeLevel (s.drc.inputs.get i).closed active →
      t.drc.inputs.get i = { s.drc.inputs.get i with
        lastSample := some active
        accepted := if (s.drc.inputs.get i).lastSample = some active then active else (s.drc.inputs.get i).accepted })
  ∧ (∀ s : State, s.tbu.supply ≠ .battery → Ignored .inputSample s)
  ∧ (∀ (i : InputId) (level : ActiveLevel) (filter : Nat) (active : Bool) (r : Input) (s : State), s.takes →
    10 ≤ filter → filter ≤ 150 → filter % 10 = 0 → reads level (s.drc.inputs.get i).closed active →
    r = { s.drc.inputs.get i with activeLevel := level, filterTime := filter } →
    ∃ code : Nat, (level = .activeOpen → code = 0) ∧ (level = .activeClosed → code = 1)
      ∧ (s.tbu.supply ≠ .mains → Carried (.inputPut (.fields ⟨i, code, filter⟩)) s (inputSet s i r) 0x0B .none)
      ∧ (s.tbu.supply = .mains → active = r.accepted ∨ (∀ e, r.change = some e → e < Config.tensOfMs (filter / 10)) →
          Carried (.inputPut (.fields ⟨i, code, filter⟩)) s (inputSet s i (watched r active)) 0x0B .none)
      ∧ (s.tbu.supply = .mains → active ≠ r.accepted → (∃ e, r.change = some e ∧ Config.tensOfMs (filter / 10) ≤ e) →
          Carried (.inputPut (.fields ⟨i, code, filter⟩)) s
            ((inputSet s i { r with accepted := active, change := none }).inputEvent i active) 0x0B .none))
  ∧ (∀ (i : InputId) (s : State), s.takes → Carried (.inputGet (.fields i)) s s 0x0C
      (.input (s.drc.inputs.get i).activeLevel (s.drc.inputs.get i).filterTime (s.drc.inputs.get i).accepted))
  ∧ (∀ (a : InputPutArgs) (s : State), s.takes → 32 < a.input ∨ 1 < a.activeLevel ∨ a.filterTime < 10
      ∨ 150 < a.filterTime ∨ a.filterTime % 10 ≠ 0 → Refused (.inputPut (.fields a)) s 0x0B .badArg)
  ∧ (∀ (n : Nat) (s : State), s.takes → 32 < n → Refused (.inputGet (.fields n)) s 0x0C .badArg)

/-- R100, R163: a forced or held event of a door: the DOOR report, the alarm output, and one ring request of priority 2 to
each output of its alarm bell. -/
def doorAlarmed (s : State) (d : DoorId) (r : Door) (event : DoorEvent) : State :=
  let s1 := ((doorSet s d r).nonPunch (.door d)
    (.door ⟨d, r.config.kind, event, none, r.mode, r.state, s.tbu.calendar⟩)).fireAlarm
  match r.config.alarmBell with
  | none => s1
  | some bell =>
    let asked := s1.blc.requestAll (decide (s.tbu.supply = .battery)) bell.outputs ⟨.door d, 2, bell.pattern⟩
    { s1 with blc := asked }

/-- R88, R89, R93: a press of the exit button, or RELEASE_ONCE: a door in SECURE or RELEASED that is not in LOCKDOWN is
RELEASED for its full release time. -/
def pressed (s : State) (d : DoorId) (r : Door) : State :=
  if r.mode ≠ .lockdown ∧ (r.state = .secure ∨ r.state = .released) then
    doorSet s d { r with state := .released, releaseTimer := some (Config.seconds r.config.releaseTime) }
  else s

/-- R80, R90, R92, R94: the state after an edge of the contact input of a door, for the door's kind and state. -/
def contactMoved (s : State) (d : DoorId) (r : Door) (active : Bool) : State :=
  match r.config.kind, active, r.state with
  | .swing, true, .released => (doorSet s d { r with
      state := .opened, releaseTimer := none
      heldTimer := if 0 < r.config.heldLimit then some (Config.seconds r.config.heldLimit) else none }).commitPassage
        d false
  | .swing, true, .secure => doorAlarmed s d { r with state := .forced } .forced
  | .swing, false, .opened => doorSet s d { r with state := .secure, heldTimer := none }
  | .swing, false, .held => (doorSet s d { r with state := .secure, heldTimer := none }).nonPunch (.door d)
      (.door ⟨d, .swing, .closedAfterAlarm, some .held, r.mode, .secure, s.tbu.calendar⟩)
  | .swing, false, .forced => (doorSet s d { r with state := .secure, heldTimer := none }).nonPunch (.door d)
      (.door ⟨d, .swing, .closedAfterAlarm, some .forced, r.mode, .secure, s.tbu.calendar⟩)
  | .turnstile, true, .released =>
      (doorSet s d { r with state := .secure, releaseTimer := none }).commitPassage d false
  | .turnstile, true, .secure => doorAlarmed s d r .forced
  | _, _, _ => s

/-- R80, R90, R92 to R94, R164, R165: `s'` is what an edge of an input makes of `s`: it goes to the door that names the
input, a contact's as the door's kind and state say, a button's when it is active; an edge of the evacuation input resolves
every door and starts or ends the evacuation ring; one that no door names changes nothing. -/
structure ReachesDoor (s : State) (i : InputId) (active : Bool) (s' : State) : Prop where
  contact : ∀ d r, s.drc.doors.get d = some r → r.config.contact = i → s' = contactMoved s d r active
  button : ∀ d r, s.drc.doors.get d = some r → r.config.button = some i →
    s' = if active = true then pressed s d r else s
  unnamed : i ≠ 32 → (∀ d r, s.drc.doors.get d = some r → r.config.contact ≠ i ∧ r.config.button ≠ some i) → s' = s
  evacuation : i = 32 → s' = { s.resolveAll with
    blc := if active = true then s.blc.evacuate s.olc.settings.evacuationPattern else s.blc.endEvacuation }

/-- R79, R80: one input of a sampling in BATTERY, taken in `u` and leaving `u'`, where it held `r` before: the sample is
kept, and where it agrees with the last one and differs from the accepted level it is accepted and its edge goes on. -/
structure SampleTaken (u : State) (i : InputId) (r : Input) (active : Bool) (u' : State) : Prop where
  accepted : r.lastSample = some active → r.accepted ≠ active →
    ReachesDoor (inputSet u i { r with accepted := active, lastSample := some active }) i active u'
  kept : r.lastSample ≠ some active ∨ r.accepted = active → u' = inputSet u i { r with lastSample := some active }

/-- R78 to R80, R90, R92 to R94, R164, R165: in MAINS a level that has differed for the whole filter time is accepted, and
its edge goes to the door that names the input: a contact moves the door as its kind and state say, a button releases it on
its active edge. An edge of the evacuation input resolves every door and starts or ends the evacuation ring. An input that no
door names changes nothing else. In BATTERY one sampling does the same for every input whose two last samples agree and
differ from its accepted level, the inputs taken in ascending number (log 21), and the next samples fall 500 ms later. The
expiry of a filter time that is not running changes nothing (log 6). -/
def Obligations.AcceptedEdgesReachTheirDoor : Prop :=
  (∀ (i : InputId) (active : Bool) (s : State), DoorsOk s → s.tbu.supply = .mains →
    (s.drc.inputs.get i).change.isSome = true →
    reads (s.drc.inputs.get i).activeLevel (s.drc.inputs.get i).closed active →
    ∃ s' t, ReachesDoor (inputSet s i { s.drc.inputs.get i with accepted := active, change := none }) i active s'
      ∧ After (.filterTimeExpiry i) s t ∧ Settled s' t)
  ∧ (∀ s : State, DoorsOk s → s.tbu.supply = .battery →
    ∃ (chain : Nat → State) (t : State), chain 0 = s
      ∧ (∀ (i : InputId) (active : Bool),
        reads (s.drc.inputs.get i).activeLevel (s.drc.inputs.get i).closed active →
        SampleTaken (chain i.val) i (s.drc.inputs.get i) active (chain (i.val + 1)))
      ∧ After .inputSample s t
      ∧ Settled { chain 33 with drc := { (chain 33).drc with sampleTimer := some (Config.tensOfMs 50) } } t)
  ∧ (∀ (i : InputId) (s : State), s.tbu.supply ≠ .mains ∨ (s.drc.inputs.get i).change = none →
    Ignored (.filterTimeExpiry i) s)

/-- R91, R92, R94, R98, R99: the timers of the doors and of the alarm. A release that runs out leaves the door SECURE
and cancels its passage; a held timer that runs out makes the door HELD with its alarm. A firing in PULSED mode starts a
pulse of 2 s unless the alarm is LATCHED, and in LATCHED mode latches it; the end of the pulse and ALARM_CLEAR turn it
OFF. The expiry of a timer that is not running changes nothing (log 6). -/
def Obligations.DoorTimersAndTheAlarmOutput : Prop :=
  (∀ (d : DoorId) (r : Door) (s : State), s.tbu.supply ≠ .low → s.drc.doors.get d = some r →
    (r.state = .released → r.releaseTimer.isSome = true → ∃ t, After (.releaseTimerExpiry d) s t
      ∧ Settled ((doorSet s d { r with state := .secure, releaseTimer := none }).cancelPassage d) t)
    ∧ (r.state = .opened → r.heldTimer.isSome = true → ∃ t, After (.heldTimerExpiry d) s t
      ∧ Settled (doorAlarmed s d { r with state := .held, heldTimer := none } .held) t))
  ∧ (∀ (d : DoorId) (s : State),
    (s.tbu.supply = .low ∨ s.drc.doors.get d = none
      ∨ (∃ r, s.drc.doors.get d = some r ∧ (r.state ≠ .released ∨ r.releaseTimer = none)) →
      Ignored (.releaseTimerExpiry d) s)
    ∧ (s.tbu.supply = .low ∨ s.drc.doors.get d = none
      ∨ (∃ r, s.drc.doors.get d = some r ∧ (r.state ≠ .opened ∨ r.heldTimer = none)) →
      Ignored (.heldTimerExpiry d) s))
  ∧ (∀ s : State, s.tbu.supply ≠ .low → s.drc.pulseTimer.isSome = true →
    After .pulseTimerExpiry s { s with drc := { s.drc with alarm := .off, pulseTimer := none } })
  ∧ (∀ s : State, s.tbu.supply = .low ∨ s.drc.pulseTimer = none → Ignored .pulseTimerExpiry s)
  ∧ (∀ s : State, s.takes → Carried (.alarmClear (.fields ())) s
      { s with drc := { s.drc with alarm := .off, pulseTimer := none } } 0x12 (.alarm s.drc.alarm))
  ∧ (∀ s : State,
    (s.olc.settings.alarmMode = .latched →
      s.fireAlarm = { s with drc := { s.drc with alarm := .latched, pulseTimer := none } })
    ∧ (s.olc.settings.alarmMode = .pulsed → s.drc.alarm = .latched → s.fireAlarm = s)
    ∧ (s.olc.settings.alarmMode = .pulsed → s.drc.alarm ≠ .latched →
      s.fireAlarm = { s with drc := { s.drc with alarm := .pulsing, pulseTimer := some (Config.seconds 2) } }))

/-- R82: the raw fields of a DOOR_PUT for a configured door. -/
def doorFields (d : DoorId) (c : DoorConfig) : DoorPutArgs where
  door := d
  configured := 1
  kind := match c.kind with
    | .swing => 0
    | .turnstile => 1
  contact := c.contact
  button := match c.button with
    | none => 255
    | some b => b
  releaseTime := c.releaseTime
  heldLimit := c.heldLimit
  schedule := match c.schedule with
    | none => 255
    | some k => k
  defaultMode := match c.defaultMode with
    | .card => 0
    | .locked => 1
    | .free => 2
  failMode := match c.failMode with
    | .safe => 0
    | .secure => 1
  bellPresent := match c.alarmBell with
    | none => 0
    | some _ => 1
  bellOutputs := match c.alarmBell with
    | none => 0
    | some b => b.outputs.toNat
  bellPattern := match c.alarmBell with
    | none => 0
    | some b => b.pattern

/-- R82, 5.2: the fields of a configured door are in range. -/
def doorConfigInRange (c : DoorConfig) : Prop :=
  c.contact.val < 16 ∧ (∀ b, c.button = some b → 16 ≤ b.val ∧ b.val < 32) ∧ 1 ≤ c.releaseTime ∧ c.releaseTime ≤ 30
    ∧ c.heldLimit ≤ 600 ∧ ∀ b, c.alarmBell = some b → b.outputs ≠ 0

/-- R82: an input of the configuration is named by another configured door. -/
def inputNamed (s : State) (d : DoorId) (c : DoorConfig) : Prop :=
  ∃ j r, j ≠ d ∧ s.drc.doors.get j = some r
    ∧ (r.config.contact = c.contact ∨ (c.button ≠ none ∧ r.config.button = c.button))

/-- R82, R83: DOOR_PUT works a configured door out afresh, keeps the override of one that was configured, and unconfigures
a door, in each case unless a passage is pending at it; an input another door names, or a field out of range, is BAD_ARG.
Where a passage is pending too, the rule gives no order against BUSY, and the model answers BAD_ARG (log 34).
DOOR_GET returns the record with the level of the contact and of the release output. -/
def Obligations.DoorPutWorksTheDoorOutAfresh : Prop :=
  (∀ (d : DoorId) (c : DoorConfig) (o : Override) (s : State), s.takes → doorConfigInRange c →
    ((∀ r, s.drc.doors.get d = some r → o = r.override) ∧ (s.drc.doors.get d = none → o = .normal)) →
    (¬ inputNamed s d c → (∀ p ∈ s.pev.passages, p.door ≠ d) →
      Carried (.doorPut (.fields (doorFields d c))) s (doorSet s d (doorAfresh s c o)) 0x0D .none)
    ∧ (¬ inputNamed s d c → (∃ p ∈ s.pev.passages, p.door = d) →
      Refused (.doorPut (.fields (doorFields d c))) s 0x0D .busy)
    ∧ (inputNamed s d c → Refused (.doorPut (.fields (doorFields d c))) s 0x0D .badArg))
  ∧ (∀ (d : DoorId) (a : DoorPutArgs) (s : State), s.takes → a.door = d → a.configured = 0 →
    ((∀ p ∈ s.pev.passages, p.door ≠ d) → Carried (.doorPut (.fields a)) s
      { s with drc := { s.drc with doors := s.drc.doors.set d none } } 0x0D .none)
    ∧ ((∃ p ∈ s.pev.passages, p.door = d) → Refused (.doorPut (.fields a)) s 0x0D .busy))
  ∧ (∀ (a : DoorPutArgs) (s : State), s.takes → 15 < a.door ∨ 1 < a.configured ∨ (a.configured = 1 ∧ (1 < a.kind
      ∨ 15 < a.contact ∨ (a.button ≠ 255 ∧ (a.button < 16 ∨ 31 < a.button)) ∨ a.releaseTime = 0 ∨ 30 < a.releaseTime
      ∨ 600 < a.heldLimit ∨ (7 < a.schedule ∧ a.schedule ≠ 255) ∨ 2 < a.defaultMode ∨ 1 < a.failMode
      ∨ 1 < a.bellPresent ∨ (a.bellPresent = 1 ∧ (a.bellOutputs = 0 ∨ 255 < a.bellOutputs ∨ 15 < a.bellPattern)))) →
    Refused (.doorPut (.fields a)) s 0x0D .badArg)
  ∧ (∀ (d : DoorId) (s : State), s.takes → ∃ contact output,
    (∀ r, s.drc.doors.get d = some r → contact = s.accepted r.config.contact
      ∧ (output = true ↔ r.state = .released ∨ r.state = .free))
    ∧ (s.drc.doors.get d = none → contact = false ∧ output = false)
    ∧ Carried (.doorGet (.fields d)) s s 0x0E (.door (s.drc.doors.get d) contact output))
  ∧ (∀ (n : Nat) (s : State), s.takes → 15 < n → Refused (.doorGet (.fields n)) s 0x0E .badArg)

/-- R84: the raw fields of a window. -/
def windowFields (w : Window) : WindowArgs where
  weekdays := w.weekdays.toNat
  start := w.start
  stop := w.stop
  mode := match w.mode with
    | .card => 0
    | .free => 1
    | .locked => 2

/-- R84, R86, R87: SCHEDULE_PUT replaces the windows whole and resolves the doors that name the schedule, in ascending
number; SCHEDULE_GET returns them. DOOR_COMMAND sets the override of its door, or of every configured door in ascending
number, and resolves each; RELEASE_ONCE acts as a press of the exit button. The reply gives the mode and the state of each
door acted on. -/
def Obligations.SchedulesAndDoorCommands : Prop :=
  (∀ (k : ScheduleId) (windows : List Window) (s : State), s.takes → windows.length ≤ 8 →
    (∀ w ∈ windows, w.start ≤ 1439 ∧ w.stop ≤ 1439) →
    ∃ doors : List DoorId, doors.Pairwise (· < ·)
      ∧ (∀ d, d ∈ doors ↔ ∃ r, s.drc.doors.get d = some r ∧ r.config.schedule = some k)
      ∧ Carried (.schedulePut (.fields ⟨k, windows.map windowFields⟩)) s
        (doors.foldl State.resolveDoor
          { s with drc := { s.drc with schedules := s.drc.schedules.set k windows } }) 0x0F .none)
  ∧ (∀ (a : SchedulePutArgs) (s : State), s.takes → 7 < a.schedule ∨ 8 < a.windows.length
      ∨ (∃ w ∈ a.windows, 127 < w.weekdays ∨ 1439 < w.start ∨ 1439 < w.stop ∨ 2 < w.mode) →
    Refused (.schedulePut (.fields a)) s 0x0F .badArg)
  ∧ (∀ (k : ScheduleId) (s : State), s.takes →
    Carried (.scheduleGet (.fields k)) s s 0x10 (.schedule (s.drc.schedules.get k)))
  ∧ (∀ (n : Nat) (s : State), s.takes → 7 < n → Refused (.scheduleGet (.fields n)) s 0x10 .badArg)
  ∧ (∀ (o : Override) (c : Payload Nat → Instr), (o = .lockdown ∧ c = .doorCommandLockdown)
      ∨ (o = .holdFree ∧ c = .doorCommandHoldFree) ∨ (o = .normal ∧ c = .doorCommandNormal) → ∀ s : State, s.takes →
    (∀ d r, s.drc.doors.get d = some r → ∃ mode state base, base = (doorSet s d { r with override := o }).resolveDoor d
      ∧ (∃ r', base.drc.doors.get d = some r' ∧ r'.mode = mode ∧ r'.state = state)
      ∧ Carried (c (.fields d)) s base 0x11 (.doorCommand [(d, mode, state)]))
    ∧ (∃ doors base result, doors.Pairwise (· < ·) ∧ (∀ d, d ∈ doors ↔ (s.drc.doors.get d).isSome = true)
      ∧ base = doors.foldl (fun u d => match u.drc.doors.get d with
          | some r => (doorSet u d { r with override := o }).resolveDoor d
          | none => u) s
      ∧ result.map (fun x => x.1) = doors
      ∧ (∀ d mode state, (d, mode, state) ∈ result →
          ∃ r, base.drc.doors.get d = some r ∧ r.mode = mode ∧ r.state = state)
      ∧ Carried (c (.fields 0xFE)) s base 0x11 (.doorCommand result)))
  ∧ (∀ s : State, s.takes →
    (∀ d r, s.drc.doors.get d = some r → ∃ mode state,
      (∃ r', (pressed s d r).drc.doors.get d = some r' ∧ r'.mode = mode ∧ r'.state = state)
      ∧ Carried (.releaseOnce (.fields d)) s (pressed s d r) 0x11 (.doorCommand [(d, mode, state)]))
    ∧ (∃ doors base result, doors.Pairwise (· < ·) ∧ (∀ d, d ∈ doors ↔ (s.drc.doors.get d).isSome = true)
      ∧ base = doors.foldl (fun u d => match u.drc.doors.get d with
          | some r => pressed u d r
          | none => u) s
      ∧ result.map (fun x => x.1) = doors
      ∧ (∀ d mode state, (d, mode, state) ∈ result →
          ∃ r, base.drc.doors.get d = some r ∧ r.mode = mode ∧ r.state = state)
      ∧ Carried (.releaseOnce (.fields 0xFE)) s base 0x11 (.doorCommand result)))
  ∧ (∀ c : Payload Nat → Instr,
      c = .doorCommandLockdown ∨ c = .doorCommandHoldFree ∨ c = .doorCommandNormal ∨ c = .releaseOnce →
      ∀ s : State, s.takes →
    (∀ d : DoorId, s.drc.doors.get d = none → Refused (c (.fields d)) s 0x11 .notFound)
    ∧ (∀ n, 15 < n → n ≠ 0xFE → Refused (c (.fields n)) s 0x11 .badArg))

/-! ### Chapter 6: shift plan and shift matching -/

/-- R103: the raw fields of a SHIFT_PUT with a definition. -/
def shiftFields (id : ShiftId) (d : ShiftDef) : ShiftPutArgs where
  shift := id
  defined := 1
  start := d.start
  length := d.length
  standardLength := d.standardLength
  entryLead := d.entryLead
  lateGrace := d.lateGrace
  latestIn := d.latestIn
  leaveGrace := d.leaveGrace
  overstayGrace := d.overstayGrace
  unit := d.unit
  autoCloseDelay := d.autoCloseDelay
  breaks := d.breaks.map fun b => ⟨b.offset, b.length, if b.paid then 1 else 0⟩

/-- R105: the raw fields of a ROTA_PUT. -/
def rotaFields (crew : CrewId) (r : Rota) : RotaPutArgs where
  crew := crew
  cycleLength := r.days.length
  anchor := r.anchor
  entries := r.days.map fun d => match d with
    | none => 255
    | some id => id

/-- R109: the raw fields of a PAYCLASS_PUT. -/
def payClassFields (c : ClassId) (p : PayClass) : PayClassPutArgs where
  payClass := c
  baseRate := p.baseRate
  overtimeFactor := p.overtimeFactor
  holidayFactor := p.holidayFactor
  nightAdder := p.nightAdder

/-- The state with one row of each plan table replaced. -/
def shiftSet (s : State) (id : ShiftId) (d : Option ShiftDef) : State :=
  { s with sps := { s.sps with shifts := s.sps.shifts.set id d } }

/-- R103 to R105, R109: SHIFT_PUT, ROTA_PUT and PAYCLASS_PUT in range replace their row whole, and a put with the defined
flag no makes the definition undefined; fields that carry no definition, rota or rates in range are refused with BAD_ARG.
SHIFT_GET, ROTA_GET and PAYCLASS_GET return their row and change nothing. -/
def Obligations.PlanTablesAreReplacedAndRead : Prop :=
  (∀ (id : ShiftId) (d : ShiftDef) (s : State), s.takes → d.InRange →
    Carried (.shiftPut (.fields (shiftFields id d))) s (shiftSet s id (some d)) 0x13 .none)
  ∧ (∀ (id : ShiftId) (a : ShiftPutArgs) (s : State), s.takes → a.shift = id → a.defined = 0 →
    Carried (.shiftPut (.fields a)) s (shiftSet s id none) 0x13 .none)
  ∧ (∀ (a : ShiftPutArgs) (s : State), s.takes → 63 < a.shift ∨ a.defined ≠ 0 →
    (∀ id d, d.InRange → a ≠ shiftFields id d) → Refused (.shiftPut (.fields a)) s 0x13 .badArg)
  ∧ (∀ (c : CrewId) (r : Rota) (s : State), s.takes → r.InRange →
    Carried (.rotaPut (.fields (rotaFields c r))) s
      { s with sps := { s.sps with rotas := s.sps.rotas.set c r } } 0x15 .none)
  ∧ (∀ (a : RotaPutArgs) (s : State), s.takes → (∀ c r, r.InRange → a ≠ rotaFields c r) →
    Refused (.rotaPut (.fields a)) s 0x15 .badArg)
  ∧ (∀ (c : ClassId) (p : PayClass) (s : State), s.takes → p.InRange →
    Carried (.payclassPut (.fields (payClassFields c p))) s
      { s with sps := { s.sps with payClasses := s.sps.payClasses.set c p } } 0x1A .none)
  ∧ (∀ (a : PayClassPutArgs) (s : State), s.takes → (∀ c p, p.InRange → a ≠ payClassFields c p) →
    Refused (.payclassPut (.fields a)) s 0x1A .badArg)
  ∧ (∀ s : State, s.takes →
    (∀ id : ShiftId, Carried (.shiftGet (.fields id)) s s 0x14 (.shift (s.sps.shifts.get id)))
    ∧ (∀ c : CrewId, Carried (.rotaGet (.fields c)) s s 0x16 (.rota (s.sps.rotas.get c)))
    ∧ (∀ c : ClassId, Carried (.payclassGet (.fields c)) s s 0x1B (.payClass (s.sps.payClasses.get c)))
    ∧ (∀ n, 63 < n → Refused (.shiftGet (.fields n)) s 0x14 .badArg)
    ∧ (∀ n, 31 < n → Refused (.rotaGet (.fields n)) s 0x16 .badArg)
    ∧ (∀ n, 15 < n → Refused (.payclassGet (.fields n)) s 0x1B .badArg))

/-- The state with its holiday list replaced. -/
def holidaysSet (s : State) (days : List Nat) : State := { s with sps := { s.sps with holidays := days } }

/-- R107: HOLIDAY_PUT, HOLIDAY_DROP and HOLIDAY_LIST, on a list in ascending order; a cold start empties the list, and a
warm start keeps it. -/
def Obligations.HolidaysAreInsertedDroppedAndListed : Prop :=
  (∀ (n : Nat) (s : State), s.takes → PlanOk s → n ≤ 36524 →
    (n ∈ s.sps.holidays → Carried (.holidayPut (.fields n)) s s 0x17 .none)
    ∧ (n ∉ s.sps.holidays → 32 ≤ s.sps.holidays.length → Refused (.holidayPut (.fields n)) s 0x17 .tableFull)
    ∧ (n ∉ s.sps.holidays → s.sps.holidays.length < 32 → Carried (.holidayPut (.fields n)) s
        (holidaysSet s (s.sps.holidays.filter (fun d => decide (d < n))
          ++ n :: s.sps.holidays.filter (fun d => decide (n < d)))) 0x17 .none)
    ∧ (∀ below above, s.sps.holidays = below ++ n :: above →
        Carried (.holidayDrop (.fields n)) s (holidaysSet s (below ++ above)) 0x18 .none)
    ∧ (n ∉ s.sps.holidays → Refused (.holidayDrop (.fields n)) s 0x18 .notFound))
  ∧ (∀ (n : Nat) (s : State), s.takes → 36524 < n →
    Refused (.holidayPut (.fields n)) s 0x17 .badArg ∧ Refused (.holidayDrop (.fields n)) s 0x18 .badArg)
  ∧ (∀ s : State, s.takes → PlanOk s →
    Carried (.holidayList (.fields ())) s s 0x19 (.holidays s.sps.holidays)
      ∧ s.sps.holidays.Pairwise (· < ·) ∧ s.sps.holidays.length ≤ 32)
  ∧ State.reset.sps.holidays = []
  ∧ (∀ s : State, s.coldStart.sps.holidays = [] ∧ s.warmStart.sps.holidays = s.sps.holidays
    ∧ s.warmStartFromLow.sps.holidays = s.sps.holidays)

/-- R106, R108: `i` is the instance of a crew on a day. -/
def isInstance (p : Sps) (crew : CrewId) (day : Nat) (i : ShiftInstance) : Prop :=
  day ≤ 36524 ∧ ∃ (k : Nat) (id : ShiftId) (d : ShiftDef),
    (k : Int) = ((day : Int) - (p.rotas.get crew).anchor) % ((p.rotas.get crew).days.length : Int)
    ∧ (p.rotas.get crew).days[k]? = some (some id) ∧ p.shifts.get id = some d
    ∧ i.crew = crew ∧ i.shift = id ∧ i.day = day
    ∧ i.start = day * 1440 + d.start ∧ i.stop = day * 1440 + d.start + d.length
    ∧ i.breaks.length = d.breaks.length
    ∧ (∀ (n : Nat) (b : Break), d.breaks[n]? = some b → i.breaks[n]? = some ⟨n + 1,
        day * 1440 + d.start + b.offset, day * 1440 + d.start + b.offset + b.length, b.paid⟩)
    ∧ (i.holiday = true ↔ day ∈ p.holidays)
    ∧ i.standardLength = d.standardLength ∧ i.entryLead = d.entryLead ∧ i.lateGrace = d.lateGrace
    ∧ i.latestIn = d.latestIn ∧ i.leaveGrace = d.leaveGrace ∧ i.overstayGrace = d.overstayGrace
    ∧ i.unit = d.unit ∧ i.autoCloseDelay = d.autoCloseDelay

/-- R110, R154: the day before the day of a plant minute, the day itself or the day after. -/
def nearTo (day minute : Nat) : Prop :=
  day + 1 = minute / 1440 ∨ day = minute / 1440 ∨ day = minute / 1440 + 1

/-- R110: a candidate of a match. -/
def candidate (p : Sps) (crew : CrewId) (t : Nat) (i : ShiftInstance) : Prop :=
  (∃ day, nearTo day t ∧ isInstance p crew day i) ∧ i.start ≤ t + i.entryLead ∧ t ≤ i.start + i.latestIn

/-- R111: the distance between a start and a plant minute. -/
def startDistance (i : ShiftInstance) (t : Nat) : Nat := ((i.start : Int) - t).natAbs

/-- R106, R108, R110, R111: the instance of a crew on a day, and the match: a candidate at the smallest distance, at one
distance the one with the earlier start; without a candidate the work is unscheduled. -/
def Obligations.MatchingGivesTheNearestCandidate : Prop :=
  (∀ (p : Sps) (crew : CrewId) (day : Nat) (i : ShiftInstance),
    p.crewInstance crew day = some i ↔ isInstance p crew day i)
  ∧ (∀ (p : Sps) (crew : CrewId) (t : Nat),
    (p.matchShift crew t = none ↔ ∀ i, ¬ candidate p crew t i)
    ∧ ∀ i, p.matchShift crew t = some i → candidate p crew t i
      ∧ ∀ j, candidate p crew t j → startDistance i t < startDistance j t
        ∨ (startDistance i t = startDistance j t ∧ i.start ≤ j.start))

/-! ### Chapter 7: shift pay computation -/

/-- 00_scope.md 3.3: `up` is `t` rounded up to a multiple of the unit. -/
def roundedUp (unit t up : Nat) : Prop := unit ∣ up ∧ t ≤ up ∧ up < t + unit

/-- 00_scope.md 3.3: `down` is `t` rounded down to a multiple of the unit. -/
def roundedDown (unit t down : Nat) : Prop := unit ∣ down ∧ down ≤ t ∧ t < down + unit

/-- R117, R118, R119, R122, R123: the open record a commit builds, with its effective in and its deadline, and the
effective out of a close. -/
def Obligations.RecordsAreBuiltAndEndByTheGraces : Prop :=
  (∀ (i : ShiftInstance) (time : Nat) (rates : PayClass) (set : Settings), 0 < i.unit → ∃ effIn,
    buildRecord (.shift i) time rates set = ⟨time / 60,
      some ⟨i.shift, i.day, i.start, i.stop, i.lateGrace, i.leaveGrace, i.overstayGrace⟩, i.standardLength, i.unit,
      i.breaks, i.holiday, set.nightStart, set.nightEnd, rates, effIn, i.stop + i.autoCloseDelay⟩
    ∧ (time / 60 ≤ i.start + i.lateGrace → effIn = i.start)
    ∧ (i.start + i.lateGrace < time / 60 → roundedUp i.unit (time / 60) effIn))
  ∧ (∀ (time : Nat) (rates : PayClass) (set : Settings), ∃ effIn,
    buildRecord .unscheduled time rates set = ⟨time / 60, none, 0, 15, [], false, set.nightStart, set.nightEnd, rates,
      effIn, effIn + 960⟩
    ∧ roundedUp 15 (time / 60) effIn)
  ∧ (∀ (r : OpenRecord) (m : Nat), effectiveOut r (.fixedOut m) = m)
  ∧ (∀ (r : OpenRecord) (reading : Nat), r.scheduled = none →
    roundedDown 15 (reading / 60) (effectiveOut r (.outTime reading)))
  ∧ (∀ (r : OpenRecord) (p : ScheduledPart) (reading : Nat), r.scheduled = some p → 0 < r.unit →
    (reading / 60 + p.leaveGrace < p.stop → roundedDown r.unit (reading / 60) (effectiveOut r (.outTime reading)))
    ∧ (p.stop ≤ reading / 60 + p.leaveGrace → reading / 60 ≤ p.stop + p.overstayGrace →
        effectiveOut r (.outTime reading) = p.stop)
    ∧ (p.stop + p.overstayGrace < reading / 60 →
        roundedDown r.unit (reading / 60) (effectiveOut r (.outTime reading))))

/-- R124: a minute lies in an unpaid break. -/
def inUnpaidBreak (breaks : List AbsBreak) (m : Nat) : Bool :=
  breaks.any fun b => !b.paid && decide (b.start ≤ m) && decide (m < b.stop)

/-- R126: a minute lies in a night window. -/
def atNight (nightStart nightEnd m : Nat) : Bool :=
  if nightStart < nightEnd then decide (nightStart ≤ m % 1440) && decide (m % 1440 < nightEnd)
  else if nightEnd < nightStart then decide (nightStart ≤ m % 1440) || decide (m % 1440 < nightEnd)
  else false

/-- R124, R125: the minutes of an attendance outside its unpaid breaks. -/
def minutesWorked (r : OpenRecord) (effOut : Nat) : List Nat :=
  (List.range' r.effectiveIn (effOut - r.effectiveIn)).filter fun m => !inUnpaidBreak r.breaks m

/-- R124, R125, R126: the worked minutes of a close are the minutes from the effective in to the effective out that lie in
no unpaid break, at most 1,440, with CLAMPED when there are more and TIME_REVERSED when the effective out is before the
effective in; the night minutes are those of them that lie in a night window, at most the worked minutes. -/
def Obligations.WorkedAndNightMinutesAreCounted : Prop :=
  ∀ (badge carry : Nat) (r : OpenRecord) (form : CloseForm) (c : ClosedRecord), r.Fits →
    c = computeClose badge carry r form →
    c.badge = badge ∧ c.scheduled = r.scheduled ∧ c.actualIn = r.actualIn ∧ c.effectiveIn = r.effectiveIn
    ∧ c.effectiveOut = effectiveOut r form ∧ c.holidayFlag = r.holiday
    ∧ (∀ reading, form = .outTime reading → c.outMinute = some (reading / 60))
    ∧ (∀ m, form = .fixedOut m → c.outMinute = none)
    ∧ c.worked = min (minutesWorked r c.effectiveOut).length 1440
    ∧ (c.clamped = true ↔ 1440 < (minutesWorked r c.effectiveOut).length)
    ∧ (c.timeReversed = true ↔ c.effectiveOut < r.effectiveIn)
    ∧ c.night = min
        ((minutesWorked r c.effectiveOut).filter fun m => atNight r.nightStart r.nightEnd m).length c.worked

/-- R127, R128, R129: the worked minutes are split into the three buckets; the pay value is the exact sum of its five
terms, the pay is that value in whole cents, and the remainder is the new carry of the badge. -/
def Obligations.BucketsAndPayOfAClose : Prop :=
  ∀ (badge carry : Nat) (r : OpenRecord) (form : CloseForm) (c : ClosedRecord), r.Fits → carry ≤ 5999 →
    c = computeClose badge carry r form →
    (r.scheduled ≠ none → r.holiday = true → c.regular = 0 ∧ c.overtime = 0 ∧ c.holiday = c.worked)
    ∧ (r.scheduled ≠ none → r.holiday = false →
        c.regular = min c.worked r.standardLength ∧ c.overtime = c.worked - c.regular ∧ c.holiday = 0)
    ∧ (r.scheduled = none → c.regular = 0 ∧ c.overtime = c.worked ∧ c.holiday = 0)
    ∧ c.regular + c.overtime + c.holiday = c.worked ∧ c.night ≤ c.worked ∧ c.worked ≤ 1440
    ∧ (c.holidayFlag = true → c.regular = 0 ∧ c.overtime = 0)
    ∧ (∃ v : Nat, v = c.regular * r.rates.baseRate * 100 + c.overtime * r.rates.baseRate * r.rates.overtimeFactor
          + c.holiday * r.rates.baseRate * r.rates.holidayFactor + c.night * r.rates.nightAdder * 100 + carry
        ∧ v ≤ 37748165999 ∧ v < 2 ^ 40 ∧ c.pay * 6000 ≤ v ∧ v < c.pay * 6000 + 6000 ∧ c.carry = v - 6000 * c.pay)
    ∧ c.carry ≤ 5999 ∧ c.pay ≤ 6291360 ∧ (c.worked = 0 → c.pay = 0 ∧ c.carry = carry)
    ∧ ∀ (b : Badge) (cause : CloseCause), (b.afterClose c cause).carry = c.carry

/-! ### Chapter 8: record closing and period totals -/

/-- R135: `after` is `before` with `added`, at most `top`. -/
def addedTo (top before added after : Nat) : Prop :=
  (before + added ≤ top → after = before + added) ∧ (top < before + added → after = top)

/-- R134, R135: the badge entry after a close. -/
def closedEntry (b e : Badge) (c : ClosedRecord) (cause : CloseCause) (saturated : Bool) : Prop :=
  addedTo 65535 b.current.regular c.regular e.current.regular
  ∧ addedTo 65535 b.current.overtime c.overtime e.current.overtime
  ∧ addedTo 65535 b.current.night c.night e.current.night
  ∧ addedTo 65535 b.current.holiday c.holiday e.current.holiday
  ∧ addedTo 4294967295 b.current.pay c.pay e.current.pay
  ∧ addedTo 65535 b.current.shifts 1 e.current.shifts
  ∧ addedTo 65535 b.current.missedOut (if cause = .auto then 1 else 0) e.current.missedOut
  ∧ (saturated = true ↔ 65535 < b.current.regular + c.regular ∨ 65535 < b.current.overtime + c.overtime
      ∨ 65535 < b.current.night + c.night ∨ 65535 < b.current.holiday + c.holiday
      ∨ 4294967295 < b.current.pay + c.pay ∨ 65535 < b.current.shifts + 1
      ∨ (cause = .auto ∧ 65535 < b.current.missedOut + 1))
  ∧ (e.current.saturated = true ↔ b.current.saturated = true ∨ saturated = true)
  ∧ e = { b with
      current := e.current, carry := c.carry, record := none
      presence := if cause = .auto then .unknown else .outside }

/-- R138: the auto-close walk would close this badge at `now`. -/
def closesAt (s : State) (now : Nat) (b : Badge) : Bool :=
  match b.record with
  | none => false
  | some r => decide (r.deadline ≤ now) && s.pev.passages.all (fun p => decide (p.badge ≠ b.number))

/-- R138, R139: the close of one badge by the walk. -/
def autoClosed (s : State) (b : Badge) : State :=
  match b.record with
  | none => s
  | some r => s.closeRecord b r .auto (.fixedOut (match r.scheduled with
      | none => r.effectiveIn
      | some p => p.stop))

/-- R134, R135, R137 to R142: a close changes its badge's entry and stores its SHIFT_CLOSE report, and nothing else. The
walk of a minute boundary closes the badges whose deadline has come and that have no pending passage, in ascending number,
as many as there are spare places. CLOSE_RECORD checks range, record, passage and room in this order, and closes with its
out time. -/
def Obligations.ClosesAddToTheTotals : Prop :=
  (∀ (s : State) (below above : List Badge) (b : Badge) (r : OpenRecord) (cause : CloseCause) (form : CloseForm),
    BadgesOk s → s.btb.entries = below ++ b :: above → b.record = some r →
    ∃ c e saturated, c = computeClose b.number b.carry r form ∧ closedEntry b e c cause saturated
      ∧ s.closeRecord b r cause form = punchStored (withEntries s (below ++ e :: above))
          (.shiftClose ⟨c, cause, s.btb.period, e.presence, saturated, s.tbu.calendar⟩))
  ∧ (∀ (s : State) (now : Nat), BadgesOk s →
    s.autoClose now = ((s.btb.entries.filter (closesAt s now)).take s.sparePlaces).foldl autoClosed s)
  ∧ (∀ (s : State) (b : Badge) (r : OpenRecord) (out : Nat), s.takes → BadgesOk s → b ∈ s.btb.entries →
    b.record = some r → out ≤ 3155759999 →
    ((∀ p ∈ s.pev.passages, p.badge ≠ b.number) → 1 ≤ s.sparePlaces → ∃ c,
      c = computeClose b.number b.carry r (.outTime out)
      ∧ Carried (.closeRecord (.fields ⟨b.number, out⟩)) s (s.closeRecord b r .manual (.outTime out)) 0x1C
          (.closeRecord c.effectiveIn c.effectiveOut c.worked c.pay))
    ∧ ((∃ p ∈ s.pev.passages, p.badge = b.number) →
        Refused (.closeRecord (.fields ⟨b.number, out⟩)) s 0x1C .busy)
    ∧ ((∀ p ∈ s.pev.passages, p.badge ≠ b.number) → s.sparePlaces = 0 →
        Refused (.closeRecord (.fields ⟨b.number, out⟩)) s 0x1C .queueFull))
  ∧ (∀ (s : State) (n out : Nat), s.takes → 1 ≤ n → n ≤ 16777215 → out ≤ 3155759999 →
    (∀ b ∈ s.btb.entries, b.number = n → b.record = none) →
    Refused (.closeRecord (.fields ⟨n, out⟩)) s 0x1C .notFound)
  ∧ (∀ (a : CloseRecordArgs) (s : State), s.takes → a.badge = 0 ∨ 16777215 < a.badge ∨ 3155759999 < a.outTime →
    Refused (.closeRecord (.fields a)) s 0x1C .badArg)

/-- R143 to R146: CLOSE_PERIOD moves every entry's current totals into its closed totals, starts the current totals again
from zero, makes the block present with the minute of the instant and raises the period number, and keeps every other
field. TOTALS_GET reads either totals and changes nothing; RELEASE_CLOSED discards the block. Where a command meets two
refusals, the one its rule names first is given (log 34). -/
def Obligations.PeriodsAreClosedReadAndReleased : Prop :=
  (∀ s : State, s.takes →
    (s.tbu.calendarValid = false → Refused (.closePeriod (.fields ())) s 0x1D .clockUnset)
    ∧ (s.tbu.calendarValid = true → s.btb.closedBlock ≠ none → Refused (.closePeriod (.fields ())) s 0x1D .closedPending)
    ∧ (s.tbu.calendarValid = true → s.btb.closedBlock = none →
        Carried (.closePeriod (.fields ())) s
          { s with btb := {
            entries := s.btb.entries.map fun b =>
              { b with closed := some b.current, current := ⟨0, 0, 0, 0, 0, 0, 0, false⟩ }
            closedBlock := some (s.tbu.calendar / 60)
            period := (s.btb.period + 1) % 65536 } } 0x1D
          (.closePeriod (s.tbu.calendar / 60) ((s.btb.period + 1) % 65536) s.btb.entries.length))
    ∧ (s.btb.closedBlock = none → Refused (.releaseClosed (.fields ())) s 0x1F .noClosed)
    ∧ (s.btb.closedBlock ≠ none → Carried (.releaseClosed (.fields ())) s
        { s with btb := { s.btb with
          entries := s.btb.entries.map fun b => { b with closed := none }, closedBlock := none } } 0x1F .none))
  ∧ (∀ (s : State) (below above : List Badge) (b : Badge) (n selector : Nat), s.takes → BadgesOk s →
    s.btb.entries = below ++ b :: above →
    (selector = 0 ∧ n = b.number) ∨ (selector = 1 ∧ n < b.number ∧ ∀ x ∈ below, x.number ≤ n) →
    Carried (.totalsGet (.fields ⟨n, selector, 0⟩)) s s 0x1E (.totals b.number b.current b.carry s.btb.period none)
    ∧ (∀ minute t, s.btb.closedBlock = some minute → b.closed = some t →
        Carried (.totalsGet (.fields ⟨n, selector, 1⟩)) s s 0x1E
          (.totals b.number t b.carry s.btb.period (some minute))))
  ∧ (∀ (s : State) (n selector choice : Nat), s.takes → choice ≤ 1 →
    (selector = 0 ∧ 1 ≤ n ∧ n ≤ 16777215 ∧ ∀ b ∈ s.btb.entries, b.number ≠ n)
      ∨ (selector = 1 ∧ n ≤ 16777215 ∧ ∀ b ∈ s.btb.entries, b.number ≤ n) →
    choice = 0 ∨ s.btb.closedBlock ≠ none → Refused (.totalsGet (.fields ⟨n, selector, choice⟩)) s 0x1E .notFound)
  ∧ (∀ (s : State) (n selector : Nat), s.takes → (selector = 0 ∧ 1 ≤ n) ∨ selector = 1 → n ≤ 16777215 →
    s.btb.closedBlock = none → Refused (.totalsGet (.fields ⟨n, selector, 1⟩)) s 0x1E .noClosed)
  ∧ (∀ (a : TotalsGetArgs) (s : State), s.takes →
    16777215 < a.badge ∨ 1 < a.selector ∨ 1 < a.choice ∨ (a.selector = 0 ∧ a.badge = 0) →
    Refused (.totalsGet (.fields a)) s 0x1E .badArg)

/-! ### Chapter 9: bells -/

/-- R149, R185: the code of the edge of a SHIFT entry. -/
def edgeCode : BellEdge → Nat
  | .start => 0
  | .stop => 1
  | .breakStart k => 2 + 2 * k
  | .breakEnd k => 3 + 2 * k

/-- R149: the fields of a BELL_PUT carry this entry, each in its range; the fields of the other kind carry nothing. -/
def carriesEntry (a : BellPutArgs) (n : BellId) (e : BellEntry) : Prop :=
  a.entry = n ∧ a.defined = 1 ∧ a.holidayAction = (if e.skipHolidays then 1 else 0) ∧ a.outputs = e.outputs.toNat
    ∧ e.outputs ≠ 0 ∧ a.pattern = e.pattern ∧ a.priority = e.priority ∧ a.recurrence = (if e.oneShot then 1 else 0)
    ∧ match e.trigger with
      | .fixed minute weekdays => a.kind = 0 ∧ a.minute = minute ∧ minute ≤ 1439 ∧ a.weekdays = weekdays.toNat
      | .shift crew edge offset => a.kind = 1 ∧ a.crew = crew ∧ a.edge = edgeCode edge ∧ a.offset = offset
          ∧ -60 ≤ offset ∧ offset ≤ 60

/-- The state with one bell entry replaced. -/
def entrySet (s : State) (n : BellId) (e : Option BellEntry) : State :=
  { s with blc := { s.blc with entries := s.blc.entries.set n e } }

/-- R150: the raw fields of a PATTERN_PUT. -/
def patternFields (n : PatternId) (p : Pattern) : PatternPutArgs where
  pattern := n
  steps := p.steps.map fun st => ⟨st.on, st.off⟩
  repeats := p.repeats

/-- R150: a pattern in range. -/
def patternInRange (p : Pattern) : Prop :=
  p.steps.length ≤ 8 ∧ p.repeats ≤ 15
    ∧ ∀ st ∈ p.steps, 1 ≤ st.on ∧ st.on ≤ 255 ∧ 1 ≤ st.off ∧ st.off ≤ 255

/-- R151: a ring that starts. -/
def startsAs (patterns : Table 16 Pattern) (r : Ring) (c : CurrentRing) : Prop :=
  ∃ first rest, (patterns.get r.pattern).steps = first :: rest
    ∧ c = ⟨r, if r.source = .evacuation then none else some ((patterns.get r.pattern).repeats + 1), false,
        first :: rest, 1, .on, Config.tensOfMs (10 * first.on)⟩

/-- R157: a request merges with a ring of the output. -/
def mergesWith (o : BellOutput) (r : Ring) : Prop :=
  ((∃ n, r.source = .entry n) ∨ ∃ d, r.source = .door d)
    ∧ ((∃ c, o.current = some c ∧ c.ring.source = r.source) ∨ ∃ w ∈ o.waiting, w.source = r.source)

/-- R159: the waiting list with a ring in its place. -/
def placed (r : Ring) (waiting : List Ring) : List Ring :=
  waiting.filter (fun w => decide (r.priority ≤ w.priority)) ++ r :: waiting.filter (fun w => decide (w.priority < r.priority))

/-- R157 to R159, R166: what an output does with a request; in BATTERY one of priority below 3 is dropped. -/
structure Served (patterns : Table 16 Pattern) (battery : Bool) (o : BellOutput) (r : Ring) (o' : BellOutput)
    (fate : RingFate) : Prop where
  suppressed : battery = true → r.priority < 3 → o' = o ∧ fate = .dropped
  empty : battery = false ∨ 3 ≤ r.priority → (patterns.get r.pattern).steps = [] → o' = o ∧ fate = .noPattern
  merged : battery = false ∨ 3 ≤ r.priority → (patterns.get r.pattern).steps ≠ [] → mergesWith o r →
    o' = o ∧ fate = .dropped
  started : battery = false ∨ 3 ≤ r.priority → (patterns.get r.pattern).steps ≠ [] → ¬ mergesWith o r →
    (∀ c, o.current = some c → c.ring.priority < r.priority) →
    ∃ c, startsAs patterns r c ∧ o' = { o with current := some c } ∧ fate = .started
  queued : battery = false ∨ 3 ≤ r.priority → (patterns.get r.pattern).steps ≠ [] → ¬ mergesWith o r →
    (∃ c, o.current = some c ∧ r.priority ≤ c.ring.priority) → o.waiting.length < 4 →
    o' = { o with waiting := placed r o.waiting } ∧ fate = .queued
  full : battery = false ∨ 3 ≤ r.priority → (patterns.get r.pattern).steps ≠ [] → ¬ mergesWith o r →
    (∃ c, o.current = some c ∧ r.priority ≤ c.ring.priority) →
    ∀ front last, o.waiting = front ++ [last] → 4 ≤ o.waiting.length →
      (last.priority < r.priority → o' = { o with waiting := placed r front } ∧ fate = .queued)
      ∧ (r.priority ≤ last.priority → o' = o ∧ fate = .dropped)

/-- R149, R150, R161, R162: the commands of the bell tables. BELL_PUT arms the entry it replaces and keeps its last rung;
with the defined flag no it drops the entry. BELL_RING sends one request to each output of its set and says what became of
each; BELL_STOP leaves each output of its set with no ring and none waiting, and says what it found. -/
def Obligations.BellTableAndManualRingCommands : Prop :=
  (∀ (a : BellPutArgs) (n : BellId) (e : BellEntry) (last : Option Nat) (s : State), s.takes → carriesEntry a n e →
    (∀ before, s.blc.entries.get n = some before → last = before.lastRung) →
    (s.blc.entries.get n = none → last = none) →
    Carried (.bellPut (.fields a)) s (entrySet s n (some { e with armed := true, lastRung := last })) 0x20 .none)
  ∧ (∀ (a : BellPutArgs) (n : BellId) (s : State), s.takes → a.entry = n → a.defined = 0 →
    Carried (.bellPut (.fields a)) s (entrySet s n none) 0x20 .none)
  ∧ (∀ (a : BellPutArgs) (s : State), s.takes → 95 < a.entry ∨ a.defined ≠ 0 → (∀ n e, ¬ carriesEntry a n e) →
    Refused (.bellPut (.fields a)) s 0x20 .badArg)
  ∧ (∀ (n : BellId) (s : State), s.takes →
    Carried (.bellGet (.fields n)) s s 0x21 (.bell (s.blc.entries.get n))
    ∧ (s.blc.entries.get n ≠ none → Carried (.bellDrop (.fields n)) s (entrySet s n none) 0x22 .none)
    ∧ (s.blc.entries.get n = none → Refused (.bellDrop (.fields n)) s 0x22 .notFound))
  ∧ (∀ (n : PatternId) (p : Pattern) (s : State), s.takes → patternInRange p →
    Carried (.patternPut (.fields (patternFields n p))) s
      { s with blc := { s.blc with patterns := s.blc.patterns.set n p } } 0x23 .none)
  ∧ (∀ (a : PatternPutArgs) (s : State), s.takes → (∀ n p, patternInRange p → a ≠ patternFields n p) →
    Refused (.patternPut (.fields a)) s 0x23 .badArg)
  ∧ (∀ (n : PatternId) (s : State), s.takes →
    Carried (.patternGet (.fields n)) s s 0x24 (.pattern (s.blc.patterns.get n)))
  ∧ (∀ (n : Nat) (s : State), s.takes →
    (95 < n → Refused (.bellGet (.fields n)) s 0x21 .badArg ∧ Refused (.bellDrop (.fields n)) s 0x22 .badArg)
    ∧ (15 < n → Refused (.patternGet (.fields n)) s 0x24 .badArg)
    ∧ (n = 0 ∨ 255 < n → Refused (.bellStop (.fields n)) s 0x26 .badArg))
  ∧ (∀ (set : OutputSet) (pattern : PatternId) (priority : Fin 4) (s : State), s.takes → OutputsOk s → set ≠ 0 →
    ∃ outputs fates, Carried (.bellRing (.fields ⟨set.toNat, pattern, priority⟩)) s
        { s with blc := { s.blc with outputs := outputs } } 0x25 (.bellRing fates)
      ∧ (fates.map fun f => f.1).Pairwise (· < ·) ∧ (∀ o, o ∈ fates.map (fun f => f.1) ↔ inSet set o = true)
      ∧ (∀ o fate, (o, fate) ∈ fates → Served s.blc.patterns (decide (s.tbu.supply = .battery)) (s.blc.outputs.get o)
          ⟨.manual, priority, pattern⟩ (outputs.get o) fate)
      ∧ ∀ o : OutputId, inSet set o = false → outputs.get o = s.blc.outputs.get o)
  ∧ (∀ (a : BellRingArgs) (s : State), s.takes → a.outputs = 0 ∨ 255 < a.outputs ∨ 15 < a.pattern ∨ 3 < a.priority →
    Refused (.bellRing (.fields a)) s 0x25 .badArg)
  ∧ (∀ (set : OutputSet) (s : State), s.takes → set ≠ 0 →
    ∃ outputs found, Carried (.bellStop (.fields set.toNat)) s
        { s with blc := { s.blc with outputs := outputs } } 0x26 (.bellStop found)
      ∧ (found.map fun f => f.1).Pairwise (· < ·) ∧ (∀ o, o ∈ found.map (fun f => f.1) ↔ inSet set o = true)
      ∧ (∀ o current waiting, (o, current, waiting) ∈ found → outputs.get o = ⟨none, []⟩
          ∧ current = (s.blc.outputs.get o).current.isSome ∧ waiting = (s.blc.outputs.get o).waiting.length)
      ∧ ∀ o : OutputId, inSet set o = false → outputs.get o = s.blc.outputs.get o)

/-- R160: an output whose current ring has ended: the first waiting ring whose pattern is not empty starts, and those
before it are discarded; with none the output is idle. -/
def goesOn (patterns : Table 16 Pattern) (waiting : List Ring) (o' : BellOutput) : Prop :=
  ((∀ w ∈ waiting, (patterns.get w.pattern).steps = []) → o' = ⟨none, []⟩)
  ∧ (∀ skipped w rest, waiting = skipped ++ w :: rest → (∀ x ∈ skipped, (patterns.get x.pattern).steps = []) →
      (patterns.get w.pattern).steps ≠ [] → ∃ c, startsAs patterns w c ∧ o' = ⟨some c, rest⟩)

/-- R151, R160: an output whose current ring's phase timer runs out. -/
structure PhaseEnded (patterns : Table 16 Pattern) (o : BellOutput) (c : CurrentRing) (o' : BellOutput) : Prop where
  on : ∀ st, c.phase = .on → c.steps[c.position - 1]? = some st →
    o' = { o with current := some { c with phase := .off, timer := Config.tensOfMs (10 * st.off) } }
  off : ∀ st, c.phase = .off → c.steps[c.position]? = some st →
    o' = { o with current := some { c with
      position := c.position + 1, phase := .on, timer := Config.tensOfMs (10 * st.on) } }
  ends : c.phase = .off → c.position = c.steps.length →
    c.repsLeft = some 1 ∨ (c.repsLeft = none ∧ c.ending = true) ∨ (patterns.get c.ring.pattern).steps = [] →
    goesOn patterns o.waiting o'
  repeats : ∀ first rest, c.phase = .off → c.position = c.steps.length →
    (∃ n, c.repsLeft = some (n + 2)) ∨ (c.repsLeft = none ∧ c.ending = false) →
    (patterns.get c.ring.pattern).steps = first :: rest →
    o' = { o with current := some { c with
      repsLeft := c.repsLeft.map (· - 1), steps := first :: rest, position := 1, phase := .on
      timer := Config.tensOfMs (10 * first.on) } }

/-- R151, R157 to R160, R163 to R167: the bell outputs. A phase timer that runs out moves the ring of its output, or
ends it; a request reaches the outputs of its set alone; an evacuation takes every output that has no evacuation ring
yet, and clears the ending flag of the others; its end sets that flag; BATTERY ends every ring of priority below 3, and
LOW and a warm start end every ring. The expiry of a phase timer at an output without a ring changes nothing (log 6). -/
def Obligations.OutputsPlayAndServeRings : Prop :=
  (∀ (o : OutputId) (c : CurrentRing) (s : State), s.tbu.supply ≠ .low → OutputsOk s →
    (s.blc.outputs.get o).current = some c →
    ∃ o', PhaseEnded s.blc.patterns (s.blc.outputs.get o) c o'
      ∧ After (.phaseTimerExpiry o) s { s with blc := { s.blc with outputs := s.blc.outputs.set o o' } })
  ∧ (∀ (o : OutputId) (s : State), s.tbu.supply = .low ∨ (s.blc.outputs.get o).current = none →
    Ignored (.phaseTimerExpiry o) s)
  ∧ (∀ (b : Blc) (supply : Supply) (battery : Bool) (set : OutputSet) (r : Ring),
    (∀ o, OutputOk supply (b.outputs.get o)) → ∃ outputs, b.requestAll battery set r = { b with outputs := outputs }
      ∧ ∀ o : OutputId, (inSet set o = true → ∃ fate,
          Served b.patterns battery (b.outputs.get o) r (outputs.get o) fate)
        ∧ (inSet set o = false → outputs.get o = b.outputs.get o))
  ∧ (∀ (b : Blc) (pattern : PatternId), ∃ outputs, b.evacuate pattern = { b with outputs := outputs }
    ∧ ∀ o, (∀ c, (b.outputs.get o).current = some c → c.ring.source = .evacuation →
          outputs.get o = { b.outputs.get o with current := some { c with ending := false } })
      ∧ ((∀ c, (b.outputs.get o).current = some c → c.ring.source ≠ .evacuation) →
          ((b.patterns.get pattern).steps = [] → outputs.get o = b.outputs.get o)
          ∧ ((b.patterns.get pattern).steps ≠ [] → ∃ c, startsAs b.patterns ⟨.evacuation, 3, pattern⟩ c
            ∧ outputs.get o = { b.outputs.get o with current := some c })))
  ∧ (∀ b : Blc, ∃ outputs, b.endEvacuation = { b with outputs := outputs }
    ∧ ∀ o, (∀ c, (b.outputs.get o).current = some c → c.ring.source = .evacuation →
          outputs.get o = { b.outputs.get o with current := some { c with ending := true } })
      ∧ ((∀ c, (b.outputs.get o).current = some c → c.ring.source ≠ .evacuation) →
          outputs.get o = b.outputs.get o))
  ∧ (∀ b : Blc, ∃ outputs, b.suppress = { b with outputs := outputs }
    ∧ ∀ o kept, kept = (b.outputs.get o).waiting.filter (fun w => decide (w.priority = 3)) →
      ((∃ c, (b.outputs.get o).current = some c ∧ c.ring.priority < 3) → goesOn b.patterns kept (outputs.get o))
      ∧ ((∀ c, (b.outputs.get o).current = some c → c.ring.priority = 3) →
          outputs.get o = { b.outputs.get o with waiting := kept }))
  ∧ (∀ s : State, (∀ o, s.enterLow.blc.outputs.get o = ⟨none, []⟩)
    ∧ s.enterLow.blc.entries = s.blc.entries ∧ s.enterLow.blc.patterns = s.blc.patterns
    ∧ s.warmBells.blc = (if (s.drc.inputs.get 32).accepted = true then
        Blc.evacuate { s.blc with outputs := Table.fill 8 ⟨none, []⟩ } s.olc.settings.evacuationPattern
      else { s.blc with outputs := Table.fill 8 ⟨none, []⟩ }))

/-- R154: the plant minute of an edge of an instance that has it. -/
def edgeAt (i : ShiftInstance) (edge : BellEdge) (at' : Nat) : Prop :=
  match edge with
  | .start => at' = i.start
  | .stop => at' = i.stop
  | .breakStart k => ∃ b, i.breaks[k.val]? = some b ∧ at' = b.start
  | .breakEnd k => ∃ b, i.breaks[k.val]? = some b ∧ at' = b.stop

/-- R153, R154: an entry is due at plant minute `m`. -/
def dueAt (p : Sps) (e : BellEntry) (m : Nat) : Prop :=
  match e.trigger with
  | .fixed minute weekdays => m % 1440 = minute ∧ inSet weekdays ((m / 1440 + 5) % 7) = true
      ∧ (e.skipHolidays = true → m / 1440 ∉ p.holidays)
  | .shift crew edge offset => ∃ day i at', nearTo day m ∧ isInstance p crew day i ∧ edgeAt i edge at'
      ∧ (at' : Int) + offset = m ∧ (e.skipHolidays = true → i.holiday = false)

/-- R152, R155: an entry rings at plant minute `m`. -/
def ringsAt (p : Sps) (e : BellEntry) (m : Nat) : Prop :=
  e.armed = true ∧ dueAt p e m ∧ ∀ l, e.lastRung = some l → l < m

/-- R12, R35, R86, R138, R152 to R156: a minute boundary event. At each minute evaluated the armed entries that are due
and not held back ring, in ascending number: the last rung is set, a ONE_SHOT entry is disarmed, and each output of the
entry's set is asked as the earlier entries left it. The minutes are those of a catch-up within the limit and the new
one, and none while the calendar is INVALID. Then the Pay Calculator walks and the doors are resolved; with a passage
pending their order is a free choice (log 9). The TIME broadcast becomes pending. In LOW only the trim is taken (log
35). The new minute is evaluated beside a catch-up whatever its length (log 13). -/
def Obligations.MinuteEventsRingCloseAndResolve : Prop :=
  (∀ (p : Sps) (battery : Bool) (m : Nat) (b : Blc), ∃ ringing : List BellId,
    ringing.Pairwise (· < ·)
    ∧ (∀ n, n ∈ ringing ↔ ∃ e, b.entries.get n = some e ∧ ringsAt p e m)
    ∧ (b.evaluateMinute p battery m).patterns = b.patterns
    ∧ (∀ n, n ∉ ringing → (b.evaluateMinute p battery m).entries.get n = b.entries.get n)
    ∧ (∀ n e, n ∈ ringing → b.entries.get n = some e → (b.evaluateMinute p battery m).entries.get n =
        some { e with lastRung := some m, armed := !e.oneShot })
    ∧ ∀ o : OutputId, (b.evaluateMinute p battery m).outputs.get o = ringing.foldl (fun out n =>
        match b.entries.get n with
        | some e => if inSet e.outputs o then (out.request b.patterns battery ⟨.entry n, e.priority, e.pattern⟩).1 else out
        | none => out) (b.outputs.get o))
  ∧ (∀ (s : State) (e : MinuteEvent), s.tbu.supply = .low → s.minuteEvent e =
    { s with tbu := { s.tbu with trimInEffect := s.tbu.trimSetting, lastMinute := e.minute } })
  ∧ (∀ (s : State) (e : MinuteEvent), s.tbu.supply ≠ .low → ∃ (base : State) (minutes : List Nat),
    base = { s with
      tbu := { s.tbu with trimInEffect := s.tbu.trimSetting, lastMinute := e.minute }
      blc := base.blc, draws := base.draws }
    ∧ minutes.Pairwise (· < ·)
    ∧ (∀ m, m ∈ minutes ↔ s.tbu.calendarValid = true ∧ (m = e.minute
        ∨ ∃ old step, e.old = some (old, step) ∧ step ≤ s.olc.settings.catchUpLimit ∧ old < m ∧ m ≤ e.minute))
    ∧ base.blc = minutes.foldl
        (fun b m => b.evaluateMinute s.sps (decide (s.tbu.supply = .battery)) m) s.blc
    ∧ (s.minuteEvent e = { (base.autoClose e.minute).resolveAll with glc := { s.glc with timePending := true } }
      ∨ (s.pev.passages ≠ []
        ∧ s.minuteEvent e = { base.resolveAll.autoClose e.minute with glc := { s.glc with timePending := true } })))
  ∧ (∀ s : State, ∃ doors : List DoorId, doors.Pairwise (· < ·)
    ∧ (∀ d, d ∈ doors ↔ (s.drc.doors.get d).isSome = true) ∧ s.resolveAll = doors.foldl State.resolveDoor s)

/-! ### Conditions that every step keeps -/

/-- R17, R40, R42, R54, R77, R102, R115, R148, R167, R179, R184: the values of a cold start, and that they meet every
condition below. The levels of the wires at the start, and the register values the manual leaves open, are the model's
choice (logs 3 and 4) and are not stated. -/
def Obligations.ColdStartValuesMeetEveryCondition : Prop :=
  (State.reset.tbu.calendar = 0 ∧ State.reset.tbu.calendarValid = false ∧ State.reset.tbu.pendingTime = none
    ∧ State.reset.tbu.supply = .mains ∧ State.reset.tbu.mainsWatch = .present
    ∧ State.reset.tbu.timeSource = .mainsLocked ∧ State.reset.tbu.trimSetting = 0
    ∧ State.reset.tbu.sourceSetting = .mains ∧ State.reset.tbu.frequencySetting = .hz50)
  ∧ (∀ i, State.reset.glc.stations.get i = ⟨none, .idle, 0, none⟩)
  ∧ State.reset.glc.displayQueue = [] ∧ State.reset.glc.pendingProbes = 0 ∧ State.reset.glc.grant = none
  ∧ State.reset.pev.passages = [] ∧ State.reset.pev.conflictSet = 0
  ∧ State.reset.btb.entries = [] ∧ State.reset.btb.closedBlock = none ∧ State.reset.btb.period = 0
  ∧ (∀ id, State.reset.sps.shifts.get id = none) ∧ (∀ c, State.reset.sps.rotas.get c = ⟨0, [none]⟩)
  ∧ State.reset.sps.holidays = [] ∧ (∀ c, State.reset.sps.payClasses.get c = ⟨0, 100, 100, 0⟩)
  ∧ (∀ d, State.reset.drc.doors.get d = none) ∧ (∀ k, State.reset.drc.schedules.get k = [])
  ∧ (∀ i, (State.reset.drc.inputs.get i).activeLevel = .activeOpen ∧ (State.reset.drc.inputs.get i).filterTime = 30)
  ∧ State.reset.drc.alarm = .off
  ∧ (∀ n, State.reset.blc.entries.get n = none) ∧ (∀ n, (State.reset.blc.patterns.get n).steps = [])
  ∧ (∀ o, State.reset.blc.outputs.get o = ⟨none, []⟩)
  ∧ State.reset.rps.records = [⟨0, false, .supply ⟨.coldStart, .mains, .mainsLocked, none, 0⟩⟩]
  ∧ State.reset.rps.owed.any = false ∧ State.reset.rps.pause = false
  ∧ State.reset.olc.slot = none ∧ State.reset.olc.assembly = none
  ∧ State.reset.olc.settings = ⟨60, 20, 15, 2, 300, 1320, 360, 0, .pulsed⟩
  ∧ StoreOk State.reset ∧ BadgesOk State.reset ∧ DoorsAndPassagesOk State.reset ∧ TimeOk State.reset
  ∧ GateOk State.reset ∧ OutputsOk State.reset ∧ LinesOk State.reset ∧ PlanOk State.reset

/-- R168 to R172: the report store keeps its room for the pending passages, its sequence numbers run on, PUNCH and
SHIFT_CLOSE reports are never owed, and a report is owed only while there is no spare place. -/
def Obligations.EveryStepKeepsTheReportStore : Prop :=
  ∀ s t : State, StoreOk s → step s = .next t → StoreOk t

/-- R41, R46, R129, R135, R143: the badge table stays in ascending order within its ranges, a record is held exactly by a
badge that is IN and not NO_PAY, and closed totals exactly with the closed block. -/
def Obligations.EveryStepKeepsTheBadgeTable : Prop :=
  ∀ s t : State, BadgesOk s → step s = .next t → BadgesOk t

/-- R48, R49, R68, R69, R82, R86, R88, R96 to R98: mode, state, timers and contact of every door fit together, and every
pending passage has its badge, its saved last punch and its RELEASED door. -/
def Obligations.EveryStepKeepsDoorsAndPassages : Prop :=
  ∀ s t : State, DoorsAndPassagesOk s → step s = .next t → DoorsAndPassagesOk t

/-- R1, R3, R5, R6, R12, R14 to R16: the Time Base Unit. -/
def Obligations.EveryStepKeepsTheTimeBase : Prop :=
  ∀ s t : State, TimeOk s → step s = .next t → TimeOk t

/-- R20, R26, R27, R30, R34, R36, R38: the station table and the gate line. -/
def Obligations.EveryStepKeepsTheGateLine : Prop :=
  ∀ s t : State, GateOk s → step s = .next t → GateOk t

/-- R151, R157 to R160, R164, R166: the bell outputs. -/
def Obligations.EveryStepKeepsTheBellOutputs : Prop :=
  ∀ s t : State, OutputsOk s → step s = .next t → OutputsOk t

/-- R24, R34, R173, R176, R183: outside LOW neither line rests while it has something to send, and the transmitter sends
only what is there. Where a command waits in the assembly the transmitter may rest until it is taken (log 9). -/
def Obligations.EveryStepKeepsTheLinesGoing : Prop :=
  ∀ s t : State, LinesOk s → step s = .next t → LinesOk t

/-- R103, R105, R107, R109, R117, R118: the plan tables stay in range, the holiday list in order, and the instances and
records copied from them have their breaks in order and apart. -/
def Obligations.EveryStepKeepsThePlanTables : Prop :=
  ∀ s t : State, PlanOk s → step s = .next t → PlanOk t
end

