-- ==== Sys2Proof/Laws/Table.lean ====
section
/-! SUPPORT. Reading a row of a table after an update. -/

namespace Sys2Proof

@[simp] theorem Table.get_set_self {n : Nat} {α : Type} (t : Table n α) (i : Fin n) (a : α) :
    (t.set i a).get i = a := by
  simp [Table.get, Table.set]

theorem Table.get_set_of_ne {n : Nat} {α : Type} (t : Table n α) (i j : Fin n) (a : α) (h : i ≠ j) :
    (t.set i a).get j = t.get j := by
  have h' : i.val ≠ j.val := fun e => h (Fin.ext e)
  simp [Table.get, Table.set, h']

theorem Table.get_set {n : Nat} {α : Type} (t : Table n α) (i j : Fin n) (a : α) :
    (t.set i a).get j = if i = j then a else t.get j := by
  split
  · next h => subst h; exact t.get_set_self i a
  · next h => exact t.get_set_of_ne i j a h

@[simp] theorem Table.get_modify_self {n : Nat} {α : Type} (t : Table n α) (i : Fin n) (f : α → α) :
    (t.modify i f).get i = f (t.get i) := t.get_set_self i _

theorem Table.get_modify_of_ne {n : Nat} {α : Type} (t : Table n α) (i j : Fin n) (f : α → α) (h : i ≠ j) :
    (t.modify i f).get j = t.get j := t.get_set_of_ne i j _ h

@[simp] theorem Table.get_map {n : Nat} {α β : Type} (f : α → β) (t : Table n α) (i : Fin n) :
    (t.map f).get i = f (t.get i) := by
  simp [Table.get, Table.map]

@[simp] theorem Table.get_tabulate {n : Nat} {α : Type} (f : Fin n → α) (i : Fin n) :
    (Table.tabulate f).get i = f i := by
  simp [Table.get, Table.tabulate]

@[simp] theorem Table.get_mapRows {n : Nat} {α β : Type} (f : Fin n → α → β) (t : Table n α) (i : Fin n) :
    (t.mapRows f).get i = f i (t.get i) := Table.get_tabulate _ i

@[simp] theorem Table.get_fill {n : Nat} {α : Type} (a : α) (i : Fin n) : (Table.fill n a).get i = a := by
  simp [Table.get, Table.fill]

/-- Two tables are equal when their rows are. -/
theorem Table.ext_get {n : Nat} {α : Type} (t u : Table n α) (h : ∀ i, t.get i = u.get i) : t = u := by
  obtain ⟨r, hr⟩ := t
  obtain ⟨q, hq⟩ := u
  have e : r = q := by
    apply List.ext_getElem (hr.trans hq.symm)
    intro k h1 h2
    have := h ⟨k, hr ▸ h1⟩
    simpa [Table.get] using this
  subst e
  rfl

theorem mem_members {n : Nat} (m : BitVec n) (i : Fin n) : i ∈ members m ↔ inSet m i = true := by
  simp [members]

theorem inSet_single {n : Nat} (i j : Fin n) : inSet (single i) j = decide (i = j) := by
  have : (single i).getLsbD j.val = decide (i.val = j.val) := by
    unfold single
    rw [BitVec.getLsbD_ofNat]
    simp [Nat.testBit_two_pow]
  simpa [inSet, Fin.ext_iff] using this

theorem inSet_addTo {n : Nat} (m : BitVec n) (i j : Fin n) :
    inSet (addTo m i) j = (inSet m j || decide (i = j)) := by
  rw [← inSet_single]
  simp [inSet, addTo]

theorem inSet_takeOut {n : Nat} (m : BitVec n) (i j : Fin n) :
    inSet (takeOut m i) j = (inSet m j && !decide (i = j)) := by
  rw [← inSet_single]
  simp [inSet, takeOut]

end Sys2Proof
end

