-- ==== Sys2Proof/Laws/Bells.lean ====
section
/-!
SUPPORT. The bell outputs: what a request to a set of outputs does to each of them, and where a waiting ring is placed.
-/

namespace Sys2Proof.Machine

open Sys2Proof

@[simp] theorem Blc.requestAll_entries (b : Blc) (battery : Bool) (m : OutputSet) (r : Ring) :
    (b.requestAll battery m r).entries = b.entries := rfl
@[simp] theorem Blc.requestAll_patterns (b : Blc) (battery : Bool) (m : OutputSet) (r : Ring) :
    (b.requestAll battery m r).patterns = b.patterns := rfl

/-- Each output of the set is asked, and no other. -/
@[simp] theorem Blc.requestAll_get (b : Blc) (battery : Bool) (m : OutputSet) (r : Ring) (o : OutputId) :
    (b.requestAll battery m r).outputs.get o =
      if inSet m o then ((b.outputs.get o).request b.patterns battery r).1 else b.outputs.get o := by
  unfold Blc.requestAll
  rw [Table.get_mapRows]

@[simp] theorem Blc.evacuate_get (b : Blc) (p : PatternId) (o : OutputId) :
    (b.evacuate p).outputs.get o = (b.outputs.get o).evacuate b.patterns p := by
  unfold Blc.evacuate
  rw [Table.get_map]

@[simp] theorem Blc.endEvacuation_get (b : Blc) (o : OutputId) :
    b.endEvacuation.outputs.get o = (b.outputs.get o).endEvacuation := by
  unfold Blc.endEvacuation
  rw [Table.get_map]

@[simp] theorem Blc.suppress_get (b : Blc) (o : OutputId) :
    b.suppress.outputs.get o = (b.outputs.get o).suppress b.patterns := by
  unfold Blc.suppress
  rw [Table.get_map]

@[simp] theorem Blc.silence_get (b : Blc) (o : OutputId) : b.silence.outputs.get o = BellOutput.cold := by
  unfold Blc.silence
  rw [Table.get_fill]

theorem mem_insertRing (r x : Ring) (l : List Ring) : x ∈ insertRing r l ↔ x = r ∨ x ∈ l := by
  induction l with
  | nil => simp [insertRing]
  | cons w rest ih =>
    unfold insertRing
    split
    · simp
    · simp only [List.mem_cons, ih]; tauto

theorem length_insertRing (r : Ring) (l : List Ring) : (insertRing r l).length = l.length + 1 := by
  induction l with
  | nil => rfl
  | cons w rest ih =>
    unfold insertRing
    split
    · rfl
    · simp [ih]

/-- R151: a ring starts exactly where its pattern has a step. -/
theorem startRing_eq_none (patterns : Table 16 Pattern) (r : Ring) :
    startRing patterns r = none ↔ (patterns.get r.pattern).steps = [] := by
  unfold startRing
  dsimp only
  split <;> simp_all

end Sys2Proof.Machine
end

