-- ==== Sys2Proof/Laws/State.lean ====
section
/-!
SUPPORT. One lemma for each field under each update of the state, so that no later proof unfolds a record update.
-/

namespace Sys2Proof.Machine

open Sys2Proof

/-! ### withTbu -/

@[simp] theorem State.withTbu_tbu (s : State) (x : Tbu) : (s.withTbu x).tbu = x := rfl
@[simp] theorem State.withTbu_glc (s : State) (x : Tbu) : (s.withTbu x).glc = s.glc := rfl
@[simp] theorem State.withTbu_pev (s : State) (x : Tbu) : (s.withTbu x).pev = s.pev := rfl
@[simp] theorem State.withTbu_btb (s : State) (x : Tbu) : (s.withTbu x).btb = s.btb := rfl
@[simp] theorem State.withTbu_sps (s : State) (x : Tbu) : (s.withTbu x).sps = s.sps := rfl
@[simp] theorem State.withTbu_drc (s : State) (x : Tbu) : (s.withTbu x).drc = s.drc := rfl
@[simp] theorem State.withTbu_blc (s : State) (x : Tbu) : (s.withTbu x).blc = s.blc := rfl
@[simp] theorem State.withTbu_rps (s : State) (x : Tbu) : (s.withTbu x).rps = s.rps := rfl
@[simp] theorem State.withTbu_olc (s : State) (x : Tbu) : (s.withTbu x).olc = s.olc := rfl
@[simp] theorem State.withTbu_pending (s : State) (x : Tbu) : (s.withTbu x).pending = s.pending := rfl
@[simp] theorem State.withTbu_draws (s : State) (x : Tbu) : (s.withTbu x).draws = s.draws := rfl

/-! ### withGlc -/

@[simp] theorem State.withGlc_tbu (s : State) (x : Glc) : (s.withGlc x).tbu = s.tbu := rfl
@[simp] theorem State.withGlc_glc (s : State) (x : Glc) : (s.withGlc x).glc = x := rfl
@[simp] theorem State.withGlc_pev (s : State) (x : Glc) : (s.withGlc x).pev = s.pev := rfl
@[simp] theorem State.withGlc_btb (s : State) (x : Glc) : (s.withGlc x).btb = s.btb := rfl
@[simp] theorem State.withGlc_sps (s : State) (x : Glc) : (s.withGlc x).sps = s.sps := rfl
@[simp] theorem State.withGlc_drc (s : State) (x : Glc) : (s.withGlc x).drc = s.drc := rfl
@[simp] theorem State.withGlc_blc (s : State) (x : Glc) : (s.withGlc x).blc = s.blc := rfl
@[simp] theorem State.withGlc_rps (s : State) (x : Glc) : (s.withGlc x).rps = s.rps := rfl
@[simp] theorem State.withGlc_olc (s : State) (x : Glc) : (s.withGlc x).olc = s.olc := rfl
@[simp] theorem State.withGlc_pending (s : State) (x : Glc) : (s.withGlc x).pending = s.pending := rfl
@[simp] theorem State.withGlc_draws (s : State) (x : Glc) : (s.withGlc x).draws = s.draws := rfl

/-! ### withPev -/

@[simp] theorem State.withPev_tbu (s : State) (x : Pev) : (s.withPev x).tbu = s.tbu := rfl
@[simp] theorem State.withPev_glc (s : State) (x : Pev) : (s.withPev x).glc = s.glc := rfl
@[simp] theorem State.withPev_pev (s : State) (x : Pev) : (s.withPev x).pev = x := rfl
@[simp] theorem State.withPev_btb (s : State) (x : Pev) : (s.withPev x).btb = s.btb := rfl
@[simp] theorem State.withPev_sps (s : State) (x : Pev) : (s.withPev x).sps = s.sps := rfl
@[simp] theorem State.withPev_drc (s : State) (x : Pev) : (s.withPev x).drc = s.drc := rfl
@[simp] theorem State.withPev_blc (s : State) (x : Pev) : (s.withPev x).blc = s.blc := rfl
@[simp] theorem State.withPev_rps (s : State) (x : Pev) : (s.withPev x).rps = s.rps := rfl
@[simp] theorem State.withPev_olc (s : State) (x : Pev) : (s.withPev x).olc = s.olc := rfl
@[simp] theorem State.withPev_pending (s : State) (x : Pev) : (s.withPev x).pending = s.pending := rfl
@[simp] theorem State.withPev_draws (s : State) (x : Pev) : (s.withPev x).draws = s.draws := rfl

/-! ### withBtb -/

@[simp] theorem State.withBtb_tbu (s : State) (x : Btb) : (s.withBtb x).tbu = s.tbu := rfl
@[simp] theorem State.withBtb_glc (s : State) (x : Btb) : (s.withBtb x).glc = s.glc := rfl
@[simp] theorem State.withBtb_pev (s : State) (x : Btb) : (s.withBtb x).pev = s.pev := rfl
@[simp] theorem State.withBtb_btb (s : State) (x : Btb) : (s.withBtb x).btb = x := rfl
@[simp] theorem State.withBtb_sps (s : State) (x : Btb) : (s.withBtb x).sps = s.sps := rfl
@[simp] theorem State.withBtb_drc (s : State) (x : Btb) : (s.withBtb x).drc = s.drc := rfl
@[simp] theorem State.withBtb_blc (s : State) (x : Btb) : (s.withBtb x).blc = s.blc := rfl
@[simp] theorem State.withBtb_rps (s : State) (x : Btb) : (s.withBtb x).rps = s.rps := rfl
@[simp] theorem State.withBtb_olc (s : State) (x : Btb) : (s.withBtb x).olc = s.olc := rfl
@[simp] theorem State.withBtb_pending (s : State) (x : Btb) : (s.withBtb x).pending = s.pending := rfl
@[simp] theorem State.withBtb_draws (s : State) (x : Btb) : (s.withBtb x).draws = s.draws := rfl

/-! ### withSps -/

@[simp] theorem State.withSps_tbu (s : State) (x : Sps) : (s.withSps x).tbu = s.tbu := rfl
@[simp] theorem State.withSps_glc (s : State) (x : Sps) : (s.withSps x).glc = s.glc := rfl
@[simp] theorem State.withSps_pev (s : State) (x : Sps) : (s.withSps x).pev = s.pev := rfl
@[simp] theorem State.withSps_btb (s : State) (x : Sps) : (s.withSps x).btb = s.btb := rfl
@[simp] theorem State.withSps_sps (s : State) (x : Sps) : (s.withSps x).sps = x := rfl
@[simp] theorem State.withSps_drc (s : State) (x : Sps) : (s.withSps x).drc = s.drc := rfl
@[simp] theorem State.withSps_blc (s : State) (x : Sps) : (s.withSps x).blc = s.blc := rfl
@[simp] theorem State.withSps_rps (s : State) (x : Sps) : (s.withSps x).rps = s.rps := rfl
@[simp] theorem State.withSps_olc (s : State) (x : Sps) : (s.withSps x).olc = s.olc := rfl
@[simp] theorem State.withSps_pending (s : State) (x : Sps) : (s.withSps x).pending = s.pending := rfl
@[simp] theorem State.withSps_draws (s : State) (x : Sps) : (s.withSps x).draws = s.draws := rfl

/-! ### withDrc -/

@[simp] theorem State.withDrc_tbu (s : State) (x : Drc) : (s.withDrc x).tbu = s.tbu := rfl
@[simp] theorem State.withDrc_glc (s : State) (x : Drc) : (s.withDrc x).glc = s.glc := rfl
@[simp] theorem State.withDrc_pev (s : State) (x : Drc) : (s.withDrc x).pev = s.pev := rfl
@[simp] theorem State.withDrc_btb (s : State) (x : Drc) : (s.withDrc x).btb = s.btb := rfl
@[simp] theorem State.withDrc_sps (s : State) (x : Drc) : (s.withDrc x).sps = s.sps := rfl
@[simp] theorem State.withDrc_drc (s : State) (x : Drc) : (s.withDrc x).drc = x := rfl
@[simp] theorem State.withDrc_blc (s : State) (x : Drc) : (s.withDrc x).blc = s.blc := rfl
@[simp] theorem State.withDrc_rps (s : State) (x : Drc) : (s.withDrc x).rps = s.rps := rfl
@[simp] theorem State.withDrc_olc (s : State) (x : Drc) : (s.withDrc x).olc = s.olc := rfl
@[simp] theorem State.withDrc_pending (s : State) (x : Drc) : (s.withDrc x).pending = s.pending := rfl
@[simp] theorem State.withDrc_draws (s : State) (x : Drc) : (s.withDrc x).draws = s.draws := rfl

/-! ### withBlc -/

@[simp] theorem State.withBlc_tbu (s : State) (x : Blc) : (s.withBlc x).tbu = s.tbu := rfl
@[simp] theorem State.withBlc_glc (s : State) (x : Blc) : (s.withBlc x).glc = s.glc := rfl
@[simp] theorem State.withBlc_pev (s : State) (x : Blc) : (s.withBlc x).pev = s.pev := rfl
@[simp] theorem State.withBlc_btb (s : State) (x : Blc) : (s.withBlc x).btb = s.btb := rfl
@[simp] theorem State.withBlc_sps (s : State) (x : Blc) : (s.withBlc x).sps = s.sps := rfl
@[simp] theorem State.withBlc_drc (s : State) (x : Blc) : (s.withBlc x).drc = s.drc := rfl
@[simp] theorem State.withBlc_blc (s : State) (x : Blc) : (s.withBlc x).blc = x := rfl
@[simp] theorem State.withBlc_rps (s : State) (x : Blc) : (s.withBlc x).rps = s.rps := rfl
@[simp] theorem State.withBlc_olc (s : State) (x : Blc) : (s.withBlc x).olc = s.olc := rfl
@[simp] theorem State.withBlc_pending (s : State) (x : Blc) : (s.withBlc x).pending = s.pending := rfl
@[simp] theorem State.withBlc_draws (s : State) (x : Blc) : (s.withBlc x).draws = s.draws := rfl

/-! ### withRps -/

@[simp] theorem State.withRps_tbu (s : State) (x : Rps) : (s.withRps x).tbu = s.tbu := rfl
@[simp] theorem State.withRps_glc (s : State) (x : Rps) : (s.withRps x).glc = s.glc := rfl
@[simp] theorem State.withRps_pev (s : State) (x : Rps) : (s.withRps x).pev = s.pev := rfl
@[simp] theorem State.withRps_btb (s : State) (x : Rps) : (s.withRps x).btb = s.btb := rfl
@[simp] theorem State.withRps_sps (s : State) (x : Rps) : (s.withRps x).sps = s.sps := rfl
@[simp] theorem State.withRps_drc (s : State) (x : Rps) : (s.withRps x).drc = s.drc := rfl
@[simp] theorem State.withRps_blc (s : State) (x : Rps) : (s.withRps x).blc = s.blc := rfl
@[simp] theorem State.withRps_rps (s : State) (x : Rps) : (s.withRps x).rps = x := rfl
@[simp] theorem State.withRps_olc (s : State) (x : Rps) : (s.withRps x).olc = s.olc := rfl
@[simp] theorem State.withRps_pending (s : State) (x : Rps) : (s.withRps x).pending = s.pending := rfl
@[simp] theorem State.withRps_draws (s : State) (x : Rps) : (s.withRps x).draws = s.draws := rfl

/-! ### withOlc -/

@[simp] theorem State.withOlc_tbu (s : State) (x : Olc) : (s.withOlc x).tbu = s.tbu := rfl
@[simp] theorem State.withOlc_glc (s : State) (x : Olc) : (s.withOlc x).glc = s.glc := rfl
@[simp] theorem State.withOlc_pev (s : State) (x : Olc) : (s.withOlc x).pev = s.pev := rfl
@[simp] theorem State.withOlc_btb (s : State) (x : Olc) : (s.withOlc x).btb = s.btb := rfl
@[simp] theorem State.withOlc_sps (s : State) (x : Olc) : (s.withOlc x).sps = s.sps := rfl
@[simp] theorem State.withOlc_drc (s : State) (x : Olc) : (s.withOlc x).drc = s.drc := rfl
@[simp] theorem State.withOlc_blc (s : State) (x : Olc) : (s.withOlc x).blc = s.blc := rfl
@[simp] theorem State.withOlc_rps (s : State) (x : Olc) : (s.withOlc x).rps = s.rps := rfl
@[simp] theorem State.withOlc_olc (s : State) (x : Olc) : (s.withOlc x).olc = x := rfl
@[simp] theorem State.withOlc_pending (s : State) (x : Olc) : (s.withOlc x).pending = s.pending := rfl
@[simp] theorem State.withOlc_draws (s : State) (x : Olc) : (s.withOlc x).draws = s.draws := rfl

/-! ### withPending -/

@[simp] theorem State.withPending_tbu (s : State) (x : List Instr) : (s.withPending x).tbu = s.tbu := rfl
@[simp] theorem State.withPending_glc (s : State) (x : List Instr) : (s.withPending x).glc = s.glc := rfl
@[simp] theorem State.withPending_pev (s : State) (x : List Instr) : (s.withPending x).pev = s.pev := rfl
@[simp] theorem State.withPending_btb (s : State) (x : List Instr) : (s.withPending x).btb = s.btb := rfl
@[simp] theorem State.withPending_sps (s : State) (x : List Instr) : (s.withPending x).sps = s.sps := rfl
@[simp] theorem State.withPending_drc (s : State) (x : List Instr) : (s.withPending x).drc = s.drc := rfl
@[simp] theorem State.withPending_blc (s : State) (x : List Instr) : (s.withPending x).blc = s.blc := rfl
@[simp] theorem State.withPending_rps (s : State) (x : List Instr) : (s.withPending x).rps = s.rps := rfl
@[simp] theorem State.withPending_olc (s : State) (x : List Instr) : (s.withPending x).olc = s.olc := rfl
@[simp] theorem State.withPending_pending (s : State) (x : List Instr) : (s.withPending x).pending = x := rfl
@[simp] theorem State.withPending_draws (s : State) (x : List Instr) : (s.withPending x).draws = s.draws := rfl

/-! ### withDraws -/

@[simp] theorem State.withDraws_tbu (s : State) (x : Nat) : (s.withDraws x).tbu = s.tbu := rfl
@[simp] theorem State.withDraws_glc (s : State) (x : Nat) : (s.withDraws x).glc = s.glc := rfl
@[simp] theorem State.withDraws_pev (s : State) (x : Nat) : (s.withDraws x).pev = s.pev := rfl
@[simp] theorem State.withDraws_btb (s : State) (x : Nat) : (s.withDraws x).btb = s.btb := rfl
@[simp] theorem State.withDraws_sps (s : State) (x : Nat) : (s.withDraws x).sps = s.sps := rfl
@[simp] theorem State.withDraws_drc (s : State) (x : Nat) : (s.withDraws x).drc = s.drc := rfl
@[simp] theorem State.withDraws_blc (s : State) (x : Nat) : (s.withDraws x).blc = s.blc := rfl
@[simp] theorem State.withDraws_rps (s : State) (x : Nat) : (s.withDraws x).rps = s.rps := rfl
@[simp] theorem State.withDraws_olc (s : State) (x : Nat) : (s.withDraws x).olc = s.olc := rfl
@[simp] theorem State.withDraws_pending (s : State) (x : Nat) : (s.withDraws x).pending = s.pending := rfl
@[simp] theorem State.withDraws_draws (s : State) (x : Nat) : (s.withDraws x).draws = x := rfl

/-! ### What is derived from a block an update leaves alone -/

@[simp] theorem State.withGlc_isLow (s : State) (x : Glc) : (s.withGlc x).isLow = s.isLow := rfl
@[simp] theorem State.withPev_isLow (s : State) (x : Pev) : (s.withPev x).isLow = s.isLow := rfl
@[simp] theorem State.withBtb_isLow (s : State) (x : Btb) : (s.withBtb x).isLow = s.isLow := rfl
@[simp] theorem State.withSps_isLow (s : State) (x : Sps) : (s.withSps x).isLow = s.isLow := rfl
@[simp] theorem State.withDrc_isLow (s : State) (x : Drc) : (s.withDrc x).isLow = s.isLow := rfl
@[simp] theorem State.withBlc_isLow (s : State) (x : Blc) : (s.withBlc x).isLow = s.isLow := rfl
@[simp] theorem State.withRps_isLow (s : State) (x : Rps) : (s.withRps x).isLow = s.isLow := rfl
@[simp] theorem State.withOlc_isLow (s : State) (x : Olc) : (s.withOlc x).isLow = s.isLow := rfl
@[simp] theorem State.withPending_isLow (s : State) (x : List Instr) : (s.withPending x).isLow = s.isLow := rfl
@[simp] theorem State.withDraws_isLow (s : State) (x : Nat) : (s.withDraws x).isLow = s.isLow := rfl
@[simp] theorem State.withGlc_minute (s : State) (x : Glc) : (s.withGlc x).minute = s.minute := rfl
@[simp] theorem State.withPev_minute (s : State) (x : Pev) : (s.withPev x).minute = s.minute := rfl
@[simp] theorem State.withBtb_minute (s : State) (x : Btb) : (s.withBtb x).minute = s.minute := rfl
@[simp] theorem State.withSps_minute (s : State) (x : Sps) : (s.withSps x).minute = s.minute := rfl
@[simp] theorem State.withDrc_minute (s : State) (x : Drc) : (s.withDrc x).minute = s.minute := rfl
@[simp] theorem State.withBlc_minute (s : State) (x : Blc) : (s.withBlc x).minute = s.minute := rfl
@[simp] theorem State.withRps_minute (s : State) (x : Rps) : (s.withRps x).minute = s.minute := rfl
@[simp] theorem State.withOlc_minute (s : State) (x : Olc) : (s.withOlc x).minute = s.minute := rfl
@[simp] theorem State.withPending_minute (s : State) (x : List Instr) : (s.withPending x).minute = s.minute := rfl
@[simp] theorem State.withDraws_minute (s : State) (x : Nat) : (s.withDraws x).minute = s.minute := rfl
@[simp] theorem State.withTbu_freePlaces (s : State) (x : Tbu) : (s.withTbu x).freePlaces = s.freePlaces := rfl
@[simp] theorem State.withGlc_freePlaces (s : State) (x : Glc) : (s.withGlc x).freePlaces = s.freePlaces := rfl
@[simp] theorem State.withPev_freePlaces (s : State) (x : Pev) : (s.withPev x).freePlaces = s.freePlaces := rfl
@[simp] theorem State.withBtb_freePlaces (s : State) (x : Btb) : (s.withBtb x).freePlaces = s.freePlaces := rfl
@[simp] theorem State.withSps_freePlaces (s : State) (x : Sps) : (s.withSps x).freePlaces = s.freePlaces := rfl
@[simp] theorem State.withDrc_freePlaces (s : State) (x : Drc) : (s.withDrc x).freePlaces = s.freePlaces := rfl
@[simp] theorem State.withBlc_freePlaces (s : State) (x : Blc) : (s.withBlc x).freePlaces = s.freePlaces := rfl
@[simp] theorem State.withOlc_freePlaces (s : State) (x : Olc) : (s.withOlc x).freePlaces = s.freePlaces := rfl
@[simp] theorem State.withPending_freePlaces (s : State) (x : List Instr) :
    (s.withPending x).freePlaces = s.freePlaces := rfl
@[simp] theorem State.withDraws_freePlaces (s : State) (x : Nat) : (s.withDraws x).freePlaces = s.freePlaces := rfl
@[simp] theorem State.withTbu_sparePlaces (s : State) (x : Tbu) : (s.withTbu x).sparePlaces = s.sparePlaces := rfl
@[simp] theorem State.withGlc_sparePlaces (s : State) (x : Glc) : (s.withGlc x).sparePlaces = s.sparePlaces := rfl
@[simp] theorem State.withBtb_sparePlaces (s : State) (x : Btb) : (s.withBtb x).sparePlaces = s.sparePlaces := rfl
@[simp] theorem State.withSps_sparePlaces (s : State) (x : Sps) : (s.withSps x).sparePlaces = s.sparePlaces := rfl
@[simp] theorem State.withDrc_sparePlaces (s : State) (x : Drc) : (s.withDrc x).sparePlaces = s.sparePlaces := rfl
@[simp] theorem State.withBlc_sparePlaces (s : State) (x : Blc) : (s.withBlc x).sparePlaces = s.sparePlaces := rfl
@[simp] theorem State.withOlc_sparePlaces (s : State) (x : Olc) : (s.withOlc x).sparePlaces = s.sparePlaces := rfl
@[simp] theorem State.withPending_sparePlaces (s : State) (x : List Instr) :
    (s.withPending x).sparePlaces = s.sparePlaces := rfl
@[simp] theorem State.withDraws_sparePlaces (s : State) (x : Nat) : (s.withDraws x).sparePlaces = s.sparePlaces := rfl
@[simp] theorem State.withTbu_accepted (s : State) (x : Tbu) (i : InputId) :
    (s.withTbu x).accepted i = s.accepted i := rfl
@[simp] theorem State.withGlc_accepted (s : State) (x : Glc) (i : InputId) :
    (s.withGlc x).accepted i = s.accepted i := rfl
@[simp] theorem State.withPev_accepted (s : State) (x : Pev) (i : InputId) :
    (s.withPev x).accepted i = s.accepted i := rfl
@[simp] theorem State.withBtb_accepted (s : State) (x : Btb) (i : InputId) :
    (s.withBtb x).accepted i = s.accepted i := rfl
@[simp] theorem State.withSps_accepted (s : State) (x : Sps) (i : InputId) :
    (s.withSps x).accepted i = s.accepted i := rfl
@[simp] theorem State.withBlc_accepted (s : State) (x : Blc) (i : InputId) :
    (s.withBlc x).accepted i = s.accepted i := rfl
@[simp] theorem State.withRps_accepted (s : State) (x : Rps) (i : InputId) :
    (s.withRps x).accepted i = s.accepted i := rfl
@[simp] theorem State.withOlc_accepted (s : State) (x : Olc) (i : InputId) :
    (s.withOlc x).accepted i = s.accepted i := rfl
@[simp] theorem State.withPending_accepted (s : State) (x : List Instr) (i : InputId) :
    (s.withPending x).accepted i = s.accepted i := rfl
@[simp] theorem State.withDraws_accepted (s : State) (x : Nat) (i : InputId) :
    (s.withDraws x).accepted i = s.accepted i := rfl
@[simp] theorem State.withTbu_stationConfig (s : State) (x : Tbu) (i : StationId) :
    (s.withTbu x).stationConfig i = s.stationConfig i := rfl
@[simp] theorem State.withPev_stationConfig (s : State) (x : Pev) (i : StationId) :
    (s.withPev x).stationConfig i = s.stationConfig i := rfl
@[simp] theorem State.withBtb_stationConfig (s : State) (x : Btb) (i : StationId) :
    (s.withBtb x).stationConfig i = s.stationConfig i := rfl
@[simp] theorem State.withSps_stationConfig (s : State) (x : Sps) (i : StationId) :
    (s.withSps x).stationConfig i = s.stationConfig i := rfl
@[simp] theorem State.withDrc_stationConfig (s : State) (x : Drc) (i : StationId) :
    (s.withDrc x).stationConfig i = s.stationConfig i := rfl
@[simp] theorem State.withBlc_stationConfig (s : State) (x : Blc) (i : StationId) :
    (s.withBlc x).stationConfig i = s.stationConfig i := rfl
@[simp] theorem State.withRps_stationConfig (s : State) (x : Rps) (i : StationId) :
    (s.withRps x).stationConfig i = s.stationConfig i := rfl
@[simp] theorem State.withOlc_stationConfig (s : State) (x : Olc) (i : StationId) :
    (s.withOlc x).stationConfig i = s.stationConfig i := rfl
@[simp] theorem State.withPending_stationConfig (s : State) (x : List Instr) (i : StationId) :
    (s.withPending x).stationConfig i = s.stationConfig i := rfl
@[simp] theorem State.withDraws_stationConfig (s : State) (x : Nat) (i : StationId) :
    (s.withDraws x).stationConfig i = s.stationConfig i := rfl
@[simp] theorem State.withTbu_findBadge (s : State) (x : Tbu) (n : Nat) :
    (s.withTbu x).findBadge n = s.findBadge n := rfl
@[simp] theorem State.withGlc_findBadge (s : State) (x : Glc) (n : Nat) :
    (s.withGlc x).findBadge n = s.findBadge n := rfl
@[simp] theorem State.withPev_findBadge (s : State) (x : Pev) (n : Nat) :
    (s.withPev x).findBadge n = s.findBadge n := rfl
@[simp] theorem State.withSps_findBadge (s : State) (x : Sps) (n : Nat) :
    (s.withSps x).findBadge n = s.findBadge n := rfl
@[simp] theorem State.withDrc_findBadge (s : State) (x : Drc) (n : Nat) :
    (s.withDrc x).findBadge n = s.findBadge n := rfl
@[simp] theorem State.withBlc_findBadge (s : State) (x : Blc) (n : Nat) :
    (s.withBlc x).findBadge n = s.findBadge n := rfl
@[simp] theorem State.withRps_findBadge (s : State) (x : Rps) (n : Nat) :
    (s.withRps x).findBadge n = s.findBadge n := rfl
@[simp] theorem State.withOlc_findBadge (s : State) (x : Olc) (n : Nat) :
    (s.withOlc x).findBadge n = s.findBadge n := rfl
@[simp] theorem State.withPending_findBadge (s : State) (x : List Instr) (n : Nat) :
    (s.withPending x).findBadge n = s.findBadge n := rfl
@[simp] theorem State.withDraws_findBadge (s : State) (x : Nat) (n : Nat) :
    (s.withDraws x).findBadge n = s.findBadge n := rfl
@[simp] theorem State.withTbu_nextBadge (s : State) (x : Tbu) (n : Nat) :
    (s.withTbu x).nextBadge n = s.nextBadge n := rfl
@[simp] theorem State.withGlc_nextBadge (s : State) (x : Glc) (n : Nat) :
    (s.withGlc x).nextBadge n = s.nextBadge n := rfl
@[simp] theorem State.withPev_nextBadge (s : State) (x : Pev) (n : Nat) :
    (s.withPev x).nextBadge n = s.nextBadge n := rfl
@[simp] theorem State.withSps_nextBadge (s : State) (x : Sps) (n : Nat) :
    (s.withSps x).nextBadge n = s.nextBadge n := rfl
@[simp] theorem State.withDrc_nextBadge (s : State) (x : Drc) (n : Nat) :
    (s.withDrc x).nextBadge n = s.nextBadge n := rfl
@[simp] theorem State.withBlc_nextBadge (s : State) (x : Blc) (n : Nat) :
    (s.withBlc x).nextBadge n = s.nextBadge n := rfl
@[simp] theorem State.withRps_nextBadge (s : State) (x : Rps) (n : Nat) :
    (s.withRps x).nextBadge n = s.nextBadge n := rfl
@[simp] theorem State.withOlc_nextBadge (s : State) (x : Olc) (n : Nat) :
    (s.withOlc x).nextBadge n = s.nextBadge n := rfl
@[simp] theorem State.withPending_nextBadge (s : State) (x : List Instr) (n : Nat) :
    (s.withPending x).nextBadge n = s.nextBadge n := rfl
@[simp] theorem State.withDraws_nextBadge (s : State) (x : Nat) (n : Nat) :
    (s.withDraws x).nextBadge n = s.nextBadge n := rfl
@[simp] theorem State.withTbu_passageAt (s : State) (x : Tbu) (d : DoorId) :
    (s.withTbu x).passageAt d = s.passageAt d := rfl
@[simp] theorem State.withGlc_passageAt (s : State) (x : Glc) (d : DoorId) :
    (s.withGlc x).passageAt d = s.passageAt d := rfl
@[simp] theorem State.withBtb_passageAt (s : State) (x : Btb) (d : DoorId) :
    (s.withBtb x).passageAt d = s.passageAt d := rfl
@[simp] theorem State.withSps_passageAt (s : State) (x : Sps) (d : DoorId) :
    (s.withSps x).passageAt d = s.passageAt d := rfl
@[simp] theorem State.withDrc_passageAt (s : State) (x : Drc) (d : DoorId) :
    (s.withDrc x).passageAt d = s.passageAt d := rfl
@[simp] theorem State.withBlc_passageAt (s : State) (x : Blc) (d : DoorId) :
    (s.withBlc x).passageAt d = s.passageAt d := rfl
@[simp] theorem State.withRps_passageAt (s : State) (x : Rps) (d : DoorId) :
    (s.withRps x).passageAt d = s.passageAt d := rfl
@[simp] theorem State.withOlc_passageAt (s : State) (x : Olc) (d : DoorId) :
    (s.withOlc x).passageAt d = s.passageAt d := rfl
@[simp] theorem State.withPending_passageAt (s : State) (x : List Instr) (d : DoorId) :
    (s.withPending x).passageAt d = s.passageAt d := rfl
@[simp] theorem State.withDraws_passageAt (s : State) (x : Nat) (d : DoorId) :
    (s.withDraws x).passageAt d = s.passageAt d := rfl
@[simp] theorem State.withTbu_passageOf (s : State) (x : Tbu) (n : Nat) :
    (s.withTbu x).passageOf n = s.passageOf n := rfl
@[simp] theorem State.withGlc_passageOf (s : State) (x : Glc) (n : Nat) :
    (s.withGlc x).passageOf n = s.passageOf n := rfl
@[simp] theorem State.withBtb_passageOf (s : State) (x : Btb) (n : Nat) :
    (s.withBtb x).passageOf n = s.passageOf n := rfl
@[simp] theorem State.withSps_passageOf (s : State) (x : Sps) (n : Nat) :
    (s.withSps x).passageOf n = s.passageOf n := rfl
@[simp] theorem State.withDrc_passageOf (s : State) (x : Drc) (n : Nat) :
    (s.withDrc x).passageOf n = s.passageOf n := rfl
@[simp] theorem State.withBlc_passageOf (s : State) (x : Blc) (n : Nat) :
    (s.withBlc x).passageOf n = s.passageOf n := rfl
@[simp] theorem State.withRps_passageOf (s : State) (x : Rps) (n : Nat) :
    (s.withRps x).passageOf n = s.passageOf n := rfl
@[simp] theorem State.withOlc_passageOf (s : State) (x : Olc) (n : Nat) :
    (s.withOlc x).passageOf n = s.passageOf n := rfl
@[simp] theorem State.withPending_passageOf (s : State) (x : List Instr) (n : Nat) :
    (s.withPending x).passageOf n = s.passageOf n := rfl
@[simp] theorem State.withDraws_passageOf (s : State) (x : Nat) (n : Nat) :
    (s.withDraws x).passageOf n = s.passageOf n := rfl

end Sys2Proof.Machine
end

