-- ==== Sys2Proof/Laws/Store.lean ====
section
/-!
SUPPORT. The report store: the fields of a record stored, the owed flags, and that storing, owing and emitting reports
touch nothing outside the Report Store.
-/

namespace Sys2Proof.Machine

open Sys2Proof

/-! ### Storing a record -/

@[simp] theorem State.store_tbu (s : State) (o : Bool) (b : ReportBody) : (s.store o b).tbu = s.tbu := rfl
@[simp] theorem State.store_glc (s : State) (o : Bool) (b : ReportBody) : (s.store o b).glc = s.glc := rfl
@[simp] theorem State.store_pev (s : State) (o : Bool) (b : ReportBody) : (s.store o b).pev = s.pev := rfl
@[simp] theorem State.store_btb (s : State) (o : Bool) (b : ReportBody) : (s.store o b).btb = s.btb := rfl
@[simp] theorem State.store_sps (s : State) (o : Bool) (b : ReportBody) : (s.store o b).sps = s.sps := rfl
@[simp] theorem State.store_drc (s : State) (o : Bool) (b : ReportBody) : (s.store o b).drc = s.drc := rfl
@[simp] theorem State.store_blc (s : State) (o : Bool) (b : ReportBody) : (s.store o b).blc = s.blc := rfl
@[simp] theorem State.store_olc (s : State) (o : Bool) (b : ReportBody) : (s.store o b).olc = s.olc := rfl
@[simp] theorem State.store_pending (s : State) (o : Bool) (b : ReportBody) : (s.store o b).pending = s.pending := rfl
@[simp] theorem State.store_draws (s : State) (o : Bool) (b : ReportBody) : (s.store o b).draws = s.draws := rfl
@[simp] theorem State.store_records (s : State) (o : Bool) (b : ReportBody) :
    (s.store o b).rps.records = s.rps.records ++ [⟨s.rps.nextSequence, o, b⟩] := rfl
@[simp] theorem State.store_nextSequence (s : State) (o : Bool) (b : ReportBody) :
    (s.store o b).rps.nextSequence = (s.rps.nextSequence + 1) % 65536 := rfl
@[simp] theorem State.store_owed (s : State) (o : Bool) (b : ReportBody) : (s.store o b).rps.owed = s.rps.owed := rfl
@[simp] theorem State.store_pause (s : State) (o : Bool) (b : ReportBody) : (s.store o b).rps.pause = s.rps.pause := rfl

theorem State.store_sparePlaces (s : State) (o : Bool) (b : ReportBody) :
    (s.store o b).sparePlaces = s.sparePlaces - 1 := by
  simp only [State.sparePlaces, State.freePlaces, State.store_records, State.store_pev, List.length_append,
    List.length_singleton]
  omega

/-! ### Owed flags -/

theorem Owed.held_put (o : Owed) (src other : ReportSource) (b : Option ReportBody) :
    (o.put src b).held other = if other = src then b else o.held other := by
  cases src <;> cases other <;> simp [Owed.put, Owed.held, Table.get_set, eq_comm]

@[simp] theorem Owed.held_put_self (o : Owed) (src : ReportSource) (b : Option ReportBody) :
    (o.put src b).held src = b := by
  rw [Owed.held_put, if_pos rfl]

theorem Owed.held_put_of_ne (o : Owed) {src other : ReportSource} (b : Option ReportBody) (h : other ≠ src) :
    (o.put src b).held other = o.held other := by
  rw [Owed.held_put, if_neg h]

@[simp] theorem State.setOwed_owed (s : State) (src : ReportSource) (b : Option ReportBody) :
    (s.setOwed src b).rps.owed = s.rps.owed.put src b := rfl
@[simp] theorem State.setOwed_records (s : State) (src : ReportSource) (b : Option ReportBody) :
    (s.setOwed src b).rps.records = s.rps.records := rfl
@[simp] theorem State.setOwed_nextSequence (s : State) (src : ReportSource) (b : Option ReportBody) :
    (s.setOwed src b).rps.nextSequence = s.rps.nextSequence := rfl
@[simp] theorem State.setOwed_sparePlaces (s : State) (src : ReportSource) (b : Option ReportBody) :
    (s.setOwed src b).sparePlaces = s.sparePlaces := rfl

theorem mem_emissionOrder (src : ReportSource) : src ∈ emissionOrder := by
  cases src <;> simp [emissionOrder]

theorem Owed.any_iff (o : Owed) : o.any = true ↔ ∃ src, (o.held src).isSome = true := by
  unfold Owed.any
  rw [List.any_eq_true]
  exact ⟨fun ⟨src, _, h⟩ => ⟨src, h⟩, fun ⟨src, h⟩ => ⟨src, mem_emissionOrder src, h⟩⟩

/-! ### Only the Report Store changes -/

theorem State.withRps_self (s : State) : s.withRps s.rps = s := rfl

theorem State.nonPunch_touches (s : State) (src : ReportSource) (b : ReportBody) :
    ∃ r, s.nonPunch src b = s.withRps r := by
  unfold State.nonPunch
  split
  · exact ⟨_, rfl⟩
  · exact ⟨_, rfl⟩

theorem State.emitSource_touches (s : State) (src : ReportSource) : ∃ r, s.emitSource src = s.withRps r := by
  unfold State.emitSource
  split
  · exact ⟨s.rps, rfl⟩
  · split
    · exact ⟨_, rfl⟩
    · exact ⟨s.rps, rfl⟩

theorem foldl_emitSource_touches (l : List ReportSource) (s : State) :
    ∃ r, l.foldl State.emitSource s = s.withRps r := by
  induction l generalizing s with
  | nil => exact ⟨s.rps, rfl⟩
  | cons src rest ih =>
    obtain ⟨r, h⟩ := s.emitSource_touches src
    obtain ⟨r', h'⟩ := ih (s.emitSource src)
    exact ⟨r', by rw [List.foldl_cons, h', h]; rfl⟩

theorem State.emitOwed_touches (s : State) : ∃ r, s.emitOwed = s.withRps r := foldl_emitSource_touches _ s

theorem State.depart_touches (s : State) : ∃ r, s.depart = s.withRps r := by
  obtain ⟨r, h⟩ := (s.withRps { s.rps with records := s.rps.records.tail }).emitOwed_touches
  exact ⟨r, h⟩

end Sys2Proof.Machine
end

