-- ==== Sys2Proof/Laws/Commits.lean ====
section
/-!
SUPPORT. The badge table and what closes, commits, cancels and mode changes may touch: a close the badge entries and the
report store; a commit or a cancel those and the passage list; a resolution those and the doors.
-/

namespace Sys2Proof.Machine

open Sys2Proof

/-! ### Finding and changing an entry -/

theorem State.findBadge_some {s : State} {n : Nat} {b : Badge} (h : s.findBadge n = some b) :
    b ∈ s.btb.entries ∧ b.number = n := by
  unfold State.findBadge at h
  exact ⟨List.mem_of_find?_eq_some h, by simpa using List.find?_some h⟩

theorem State.findBadge_none {s : State} {n : Nat} : s.findBadge n = none ↔ ∀ b ∈ s.btb.entries, b.number ≠ n := by
  unfold State.findBadge
  rw [List.find?_eq_none]
  simp

theorem State.passageOf_some {s : State} {n : Nat} {p : Passage} (h : s.passageOf n = some p) :
    p ∈ s.pev.passages ∧ p.badge = n := by
  unfold State.passageOf at h
  exact ⟨List.mem_of_find?_eq_some h, by simpa using List.find?_some h⟩

theorem State.passageAt_some {s : State} {d : DoorId} {p : Passage} (h : s.passageAt d = some p) :
    p ∈ s.pev.passages ∧ p.door = d := by
  unfold State.passageAt at h
  exact ⟨List.mem_of_find?_eq_some h, by simpa using List.find?_some h⟩

theorem mem_insertBadge (e x : Badge) (l : List Badge) : x ∈ insertBadge e l ↔ x = e ∨ x ∈ l := by
  induction l with
  | nil => simp [insertBadge]
  | cons b rest ih =>
    unfold insertBadge
    split
    · simp
    · simp only [List.mem_cons, ih]; tauto

theorem mem_insertPassage (p x : Passage) (l : List Passage) : x ∈ insertPassage p l ↔ x = p ∨ x ∈ l := by
  induction l with
  | nil => simp [insertPassage]
  | cons b rest ih =>
    unfold insertPassage
    split
    · simp
    · simp only [List.mem_cons, ih]; tauto

/-! ### Blocks touched -/

/-- `t` is `s` but for the badge entries and the report store. -/
def TouchesBadges (s t : State) : Prop :=
  ∃ entries r, t = (s.withBtb { s.btb with entries := entries }).withRps r

/-- `t` is `s` but for the passages, the badge entries and the report store. -/
def TouchesPassages (s t : State) : Prop :=
  ∃ passages entries r, t = ((s.withPev { s.pev with passages := passages }).withBtb
    { s.btb with entries := entries }).withRps r

/-- `t` is `s` but for the doors, the passages, the badge entries and the report store. -/
def TouchesDoors (s t : State) : Prop :=
  ∃ doors passages entries r, t = (((s.withDrc { s.drc with doors := doors }).withPev
    { s.pev with passages := passages }).withBtb { s.btb with entries := entries }).withRps r

theorem TouchesBadges.refl (s : State) : TouchesBadges s s := ⟨_, _, rfl⟩
theorem TouchesPassages.refl (s : State) : TouchesPassages s s := ⟨_, _, _, rfl⟩
theorem TouchesDoors.refl (s : State) : TouchesDoors s s := ⟨_, _, _, _, rfl⟩

theorem TouchesBadges.trans {s t u : State} (h : TouchesBadges s t) (h' : TouchesBadges t u) : TouchesBadges s u := by
  obtain ⟨_, _, rfl⟩ := h
  obtain ⟨_, _, rfl⟩ := h'
  exact ⟨_, _, rfl⟩

theorem TouchesPassages.trans {s t u : State} (h : TouchesPassages s t) (h' : TouchesPassages t u) :
    TouchesPassages s u := by
  obtain ⟨_, _, _, rfl⟩ := h
  obtain ⟨_, _, _, rfl⟩ := h'
  exact ⟨_, _, _, rfl⟩

theorem TouchesDoors.trans {s t u : State} (h : TouchesDoors s t) (h' : TouchesDoors t u) : TouchesDoors s u := by
  obtain ⟨_, _, _, _, rfl⟩ := h
  obtain ⟨_, _, _, _, rfl⟩ := h'
  exact ⟨_, _, _, _, rfl⟩

theorem TouchesBadges.passages {s t : State} (h : TouchesBadges s t) : TouchesPassages s t := by
  obtain ⟨_, _, rfl⟩ := h
  exact ⟨_, _, _, rfl⟩

theorem TouchesPassages.doors {s t : State} (h : TouchesPassages s t) : TouchesDoors s t := by
  obtain ⟨_, _, _, rfl⟩ := h
  exact ⟨_, _, _, _, rfl⟩

theorem TouchesBadges.store (s : State) (o : Bool) (b : ReportBody) : TouchesBadges s (s.store o b) := ⟨_, _, rfl⟩

theorem TouchesBadges.emitOwed (s : State) : TouchesBadges s s.emitOwed := by
  obtain ⟨r, h⟩ := s.emitOwed_touches
  exact ⟨s.btb.entries, r, h⟩

theorem TouchesBadges.closeRecord (s : State) (b : Badge) (r : OpenRecord) (cause : CloseCause) (form : CloseForm) :
    TouchesBadges s (s.closeRecord b r cause form) := ⟨_, _, rfl⟩

/-- R71 to R73: the work of a commit. -/
theorem TouchesBadges.commitWork (s : State) (a : Accepted) : TouchesBadges s (s.commitWork a) := by
  unfold State.commitWork
  split
  · exact .store _ _ _
  · split
    · exact ⟨_, _, rfl⟩
    · unfold State.commitExit
      split
      · exact (TouchesBadges.store _ _ _).trans (.closeRecord _ _ _ _ _)
      · exact ⟨_, _, rfl⟩
    · exact .store _ _ _

/-- R71, R75: a commit at a door. -/
theorem TouchesPassages.commitPassage (s : State) (d : DoorId) (free : Bool) :
    TouchesPassages s (s.commitPassage d free) := by
  unfold State.commitPassage
  split
  · exact .refl s
  · rename_i p _
    have h0 : TouchesPassages s ((s.removePassage d).updateBadge p.badge fun b => { b with savedPunch := none }) :=
      ⟨(s.removePassage d).pev.passages, ((s.removePassage d).updateBadge p.badge fun b =>
        { b with savedPunch := none }).btb.entries, s.rps, rfl⟩
    exact (h0.trans (TouchesBadges.commitWork _ _).passages).trans (TouchesBadges.emitOwed _).passages

/-- R74: a cancel at a door. -/
theorem TouchesPassages.cancelPassage (s : State) (d : DoorId) : TouchesPassages s (s.cancelPassage d) := by
  unfold State.cancelPassage
  split
  · exact .refl s
  · rename_i p _
    have h0 : TouchesPassages s (((s.removePassage d).updateBadge p.badge Badge.afterCancel).store false
        (p.accepted.report .cancelled s.tbu.calendar)) := ⟨_, _, _, rfl⟩
    exact h0.trans (TouchesBadges.emitOwed _).passages

theorem TouchesDoors.setDoor (s : State) (d : DoorId) (r : Option Door) : TouchesDoors s (s.setDoor d r) :=
  ⟨s.drc.doors.set d r, s.pev.passages, s.btb.entries, s.rps, rfl⟩

/-- R95 to R97: a change of a door's mode. -/
theorem TouchesDoors.changeMode (s : State) (d : DoorId) (r : Door) (mode : DoorMode) :
    TouchesDoors s (s.changeMode d r mode) := by
  unfold State.changeMode
  split
  · exact (TouchesDoors.setDoor _ _ _).trans (TouchesPassages.commitPassage _ _ _).doors
  · have settled : ∀ left : Door, TouchesDoors s (if mode = .lockdown then
        if left.state = .released then (s.setDoor d (some left.enterLockdown)).cancelPassage d
        else s.setDoor d (some left)
      else s.setDoor d (some left)) := by
      intro left
      split
      · split
        · exact (TouchesDoors.setDoor _ _ _).trans (TouchesPassages.cancelPassage _ _).doors
        · exact .setDoor _ _ _
      · exact .setDoor _ _ _
    exact settled _

/-- R86: one resolution. -/
theorem TouchesDoors.resolveDoor (s : State) (d : DoorId) : TouchesDoors s (s.resolveDoor d) := by
  unfold State.resolveDoor
  split
  · exact .refl s
  · dsimp only
    split
    · exact .refl s
    · exact .changeMode _ _ _ _

theorem TouchesDoors.foldl_resolveDoor (l : List DoorId) (s : State) :
    TouchesDoors s (l.foldl State.resolveDoor s) := by
  induction l generalizing s with
  | nil => exact .refl s
  | cons d rest ih => exact (TouchesDoors.resolveDoor s d).trans (ih _)

/-- R86: every door is resolved. -/
theorem TouchesDoors.resolveAll (s : State) : TouchesDoors s s.resolveAll := .foldl_resolveDoor _ s

/-- R138: the walk. -/
theorem TouchesBadges.autoCloseFrom (now : Nat) (l : List Badge) (s : State) :
    TouchesBadges s (autoCloseFrom now l s) := by
  induction l generalizing s with
  | nil => exact .refl s
  | cons b rest ih =>
    unfold Machine.autoCloseFrom
    split
    · exact ih s
    · split
      · exact ih s
      · split
        · exact ih s
        · split
          · exact .refl s
          · exact (TouchesBadges.closeRecord _ _ _ _ _).trans (ih _)

/-- R138: the walk over the whole table. -/
theorem TouchesBadges.autoClose (s : State) (now : Nat) : TouchesBadges s (s.autoClose now) := .autoCloseFrom _ _ s

end Sys2Proof.Machine
end

