-- ==== Sys2Proof/Laws/Invariants.lean ====
section
/-!
SUPPORT. What each condition of Safety.lean reads of the state: a step that leaves those parts alone keeps the condition.
-/

namespace Sys2Proof.Machine

open Sys2Proof

theorem State.sparePlaces_congr {s t : State} (h1 : t.rps.records = s.rps.records) (h2 : t.pev = s.pev) :
    t.sparePlaces = s.sparePlaces := by
  unfold State.sparePlaces State.freePlaces
  rw [h1, h2]

theorem StoreOk.congr {s t : State} (h : StoreOk s) (h1 : t.rps = s.rps) (h2 : t.pev = s.pev) : StoreOk t where
  room := by rw [h1, h2]; exact h.room
  inRange := by rw [h1]; exact h.inRange
  consecutive := by rw [h1]; exact h.consecutive
  upToNext := by rw [h1]; exact h.upToNext
  owedOnlyWhenFull := by rw [h1, State.sparePlaces_congr (congrArg Rps.records h1) h2]; exact h.owedOnlyWhenFull
  payNeverOwed := by rw [h1]; exact h.payNeverOwed
  owedKinds := by rw [h1]; exact h.owedKinds

theorem BadgesOk.congr {s t : State} (h : BadgesOk s) (h1 : t.btb = s.btb) : BadgesOk t where
  ascending := by rw [h1]; exact h.ascending
  capacity := by rw [h1]; exact h.capacity
  numbers := by rw [h1]; exact h.numbers
  carries := by rw [h1]; exact h.carries
  totals := by rw [h1]; exact h.totals
  closed := by rw [h1]; exact h.closed
  records := by rw [h1]; exact h.records
  period := by rw [h1]; exact h.period

theorem TimeOk.congr {s t : State} (h : TimeOk s) (h1 : t.tbu = s.tbu) : TimeOk t where
  calendar := by rw [h1]; exact h.calendar
  minute := by rw [h1]; exact h.minute
  accumulator := by rw [h1]; exact h.accumulator
  trims := by rw [h1]; exact h.trims
  qualification := by rw [h1]; exact h.qualification
  supply := by rw [h1]; exact h.supply
  source := by rw [h1]; exact h.source
  driver := by rw [h1]; exact h.driver
  second := by rw [h1]; exact h.second
  sampling := by rw [h1]; exact h.sampling
  samples := by rw [h1]; exact h.samples
  pendingTime := by rw [h1]; exact h.pendingTime
  backup := by rw [h1]; exact h.backup
  judged := by rw [h1]; exact h.judged

theorem OutputsOk.congr {s t : State} (h : OutputsOk s) (h1 : t.blc.outputs = s.blc.outputs)
    (h2 : t.tbu.supply = s.tbu.supply) : OutputsOk t := by
  intro o
  rw [h1, h2]
  exact h o

theorem State.findBadge_congr {s t : State} (h : t.btb.entries = s.btb.entries) (n : Nat) :
    t.findBadge n = s.findBadge n := by
  unfold State.findBadge; rw [h]

theorem State.passageOf_congr {s t : State} (h : t.pev.passages = s.pev.passages) (n : Nat) :
    t.passageOf n = s.passageOf n := by
  unfold State.passageOf; rw [h]

theorem PassagesOk.congr {s t : State} (h : PassagesOk s) (h1 : t.pev.passages = s.pev.passages)
    (h2 : t.btb.entries = s.btb.entries) (h3 : t.drc.doors = s.drc.doors) : PassagesOk t where
  ascending := by rw [h1]; exact h.ascending
  badges := by rw [h1]; exact h.badges
  present := by rw [h1]; intro p hp; rw [State.findBadge_congr h2]; exact h.present p hp
  saved := by rw [h2]; intro b hb; rw [State.passageOf_congr h1]; exact h.saved b hb
  released := by rw [h1, h3]; exact h.released

theorem State.inputTaken_congr {s t : State} (h : t.drc.doors = s.drc.doors) (d : DoorId) (c : DoorConfig) :
    t.inputTaken d c = s.inputTaken d c := by
  unfold State.inputTaken; rw [h]

theorem DoorsOk.congr {s t : State} (h : DoorsOk s) (h1 : t.drc = s.drc) : DoorsOk t where
  doors := by rw [h1]; exact h.doors
  inputs := by rw [h1]; intro d r hr; rw [State.inputTaken_congr (congrArg Drc.doors h1)]; exact h.inputs d r hr
  contacts := by unfold State.accepted; rw [h1]; exact h.contacts
  pulse := by rw [h1]; exact h.pulse

theorem PlanOk.congr {s t : State} (h : PlanOk s) (h1 : t.sps = s.sps) (h2 : t.olc.settings = s.olc.settings)
    (h3 : t.pev.passages = s.pev.passages) (h4 : t.btb.entries = s.btb.entries) : PlanOk t where
  shifts := by rw [h1]; exact h.shifts
  rotas := by rw [h1]; exact h.rotas
  payClasses := by rw [h1]; exact h.payClasses
  holidays := by rw [h1]; exact h.holidays
  fewHolidays := by rw [h1]; exact h.fewHolidays
  days := by rw [h1]; exact h.days
  night := by rw [h2]; exact h.night
  captured := by rw [h3]; exact h.captured
  records := by rw [h4]; exact h.records

/-- R164: an idle output is well formed in every supply state. -/
theorem OutputOk.cold (supply : Supply) : OutputOk supply BellOutput.cold where
  capacity := Nat.zero_le _
  order := rfl
  idle := fun _ => rfl
  noneWaits := fun _ h => by cases h
  current := fun _ h => by cases h
  low := fun _ => rfl
  battery := fun _ => ⟨fun _ h => (by cases h), fun _ h => (by cases h)⟩

end Sys2Proof.Machine
end

