-- ==== Sys2Proof/Laws/Lines.lean ====
section
/-!
SUPPORT. What both lines do at the end of an event, and what receiving, taking and answering a command come to: a proof
about a command cites `carried_of_exec` or `refused_of_exec` and never unfolds the lines.
-/

namespace Sys2Proof.Machine

open Sys2Proof

theorem State.isLow_iff (s : State) : s.isLow = true ↔ s.tbu.supply = .low := by
  simp [State.isLow]

theorem State.isLow_eq_false_iff (s : State) : s.isLow = false ↔ s.tbu.supply ≠ .low := by
  simp [State.isLow]

/-- The gate line goes on outside LOW, and nothing else changes. -/
theorem State.weighGate_eq (s : State) :
    s.weighGate = if s.tbu.supply = .low then s else { s with glc := nextGate s } := by
  unfold State.weighGate
  by_cases h : s.tbu.supply = .low
  · rw [if_pos ((State.isLow_iff s).2 h), if_pos h]
  · rw [if_neg (by rw [State.isLow_iff]; exact h), if_neg h]; rfl

/-- What the transmitter begins: only its own field changes. -/
theorem Olc.begin_eq (s : State) :
    s.olc.begin s.rps.pause (!s.rps.records.isEmpty) = { s.olc with transmitter := nextFrame s } := by
  unfold Olc.begin nextFrame
  rcases s with ⟨_, _, _, _, _, _, _, ⟨recs, _, _, pause⟩, ⟨_, slot, tr, ready, _⟩, _, _⟩
  cases tr <;> cases ready <;> cases slot <;> cases recs <;> cases pause <;> simp

/-- The office link goes on outside LOW, and nothing else changes. -/
theorem State.weighOffice_eq (s : State) :
    s.weighOffice = if s.tbu.supply = .low then s
      else { s with olc := { s.olc with transmitter := nextFrame s } } := by
  unfold State.weighOffice
  by_cases h : s.tbu.supply = .low
  · rw [if_pos ((State.isLow_iff s).2 h), if_pos h]
  · rw [if_neg (by rw [State.isLow_iff]; exact h), if_neg h, Olc.begin_eq]; rfl

/-- Everything `settle` does. -/
theorem State.settle_settled (s : State) : Settled s s.settle := by
  unfold Settled State.settle
  rw [State.weighGate_eq]
  by_cases h : s.tbu.supply = .low
  · rw [if_pos h, if_pos h, State.weighOffice_eq, if_pos h]
  · rw [if_neg h, if_neg h, State.weighOffice_eq, if_neg h]; rfl

/-- R175, R176: what becomes of a complete command. -/
theorem State.receive_cases (s : State) (c : Instr) (taken : State) :
    s.receive c taken =
      if s.tbu.supply = .low then s
      else if s.olc.assembly.isSome = true then s
      else if s.olc.slot.isSome = true then s.withOlc { s.olc with assembly := some c }
      else taken := by
  unfold State.receive
  by_cases h : s.tbu.supply = .low
  · rw [if_pos ((State.isLow_iff s).2 h), if_pos h]
  · rw [if_neg (by rw [State.isLow_iff]; exact h), if_neg h]

theorem State.receive_of_takes {s : State} (h : s.takes) (c : Instr) (taken : State) : s.receive c taken = taken := by
  obtain ⟨h1, h2, h3⟩ := h
  rw [State.receive_cases, if_neg h1, h2, h3]
  simp

/-- R173, R176, R177: the reply of a command in the slot, and both lines gone on. -/
theorem Answered.reply_replied (a : Answered) (kind : Nat) (h : a.state.tbu.supply ≠ .low) :
    Replied a.state kind a.status a.result (a.reply kind) := by
  have := State.settle_settled (a.state.withOlc { a.state.olc with slot := some ⟨kind, a.status, a.result⟩ })
  unfold Settled at this
  unfold Replied Answered.reply
  rw [this, if_neg (by exact h)]
  have hg : nextGate (a.state.withOlc { a.state.olc with slot := some ⟨kind, a.status, a.result⟩ })
      = nextGate a.state := rfl
  rw [hg]
  unfold nextFrame
  rcases a with ⟨⟨_, _, _, _, _, _, _, _, ⟨_, slot, tr, ready, _⟩, _, _⟩, _, _⟩
  cases tr <;> cases ready <;> rfl

/-- A command that `exec` carries out with `done`. -/
theorem carried_of_exec {c : Instr} {s u : State} {kind : Nat} {r : ReplyResult} (ht : s.takes)
    (hu : u.tbu.supply ≠ .low) (h : exec c s = .next (s.receive c ((done u r).reply kind))) :
    Carried c s u kind r := by
  refine ⟨_, h, ?_⟩
  rw [State.receive_of_takes ht]
  exact (done u r).reply_replied kind hu

/-- A command that `exec` refuses with `denied`. -/
theorem refused_of_exec {c : Instr} {s : State} {kind : Nat} {st : Status} (ht : s.takes)
    (h : exec c s = .next (s.receive c ((denied s st).reply kind))) : Refused c s kind st := by
  refine ⟨_, h, ?_⟩
  rw [State.receive_of_takes ht]
  exact (denied s st).reply_replied kind ht.1

end Sys2Proof.Machine
end

