-- ==== Sys2Proof/Laws/Supply.lean ====
section
/-!
SUPPORT. What quiescence and the loss of the whole main supply (R15, R16) do to each block, that the Time Base Unit keeps
its condition through that loss, and what an outage after it gives the calendar and the trim.
-/

namespace Sys2Proof.Machine

open Sys2Proof

/-! ### quiesce -/

@[simp] theorem State.quiesce_tbu (s : State) : s.quiesce.tbu = s.tbu := rfl
@[simp] theorem State.quiesce_glc (s : State) : s.quiesce.glc = s.glc.silence := rfl
@[simp] theorem State.quiesce_pev (s : State) : s.quiesce.pev = s.pev := rfl
@[simp] theorem State.quiesce_btb (s : State) : s.quiesce.btb = s.btb := rfl
@[simp] theorem State.quiesce_sps (s : State) : s.quiesce.sps = s.sps := rfl
@[simp] theorem State.quiesce_drc (s : State) : s.quiesce.drc = s.drc.enterLow := rfl
@[simp] theorem State.quiesce_blc (s : State) : s.quiesce.blc = s.blc.silence := rfl
@[simp] theorem State.quiesce_rps (s : State) : s.quiesce.rps = s.rps := rfl
@[simp] theorem State.quiesce_olc (s : State) : s.quiesce.olc = s.olc.silence := rfl
@[simp] theorem State.quiesce_pending (s : State) : s.quiesce.pending = s.pending := rfl
@[simp] theorem State.quiesce_draws (s : State) : s.quiesce.draws = s.draws := rfl

/-! ### Reports of the Time Base Unit -/

/-- A TIME_SOURCE report touches the Report Store alone. -/
theorem State.reportSource_touches (s : State) (before : TimeSource) : ∃ r, s.reportSource before = s.withRps r := by
  unfold State.reportSource
  split
  · exact ⟨s.rps, rfl⟩
  · exact State.nonPunch_touches _ _ _

/-- A TIME report touches the Report Store alone. -/
theorem State.timeReport_touches (s : State) (r : Option TimeReport) : ∃ x, s.timeReport r = s.withRps x := by
  cases r with
  | none => exact ⟨s.rps, rfl⟩
  | some t => exact State.nonPunch_touches _ _ _

@[simp] theorem State.reportSource_tbu (s : State) (before : TimeSource) : (s.reportSource before).tbu = s.tbu := by
  obtain ⟨r, h⟩ := s.reportSource_touches before
  rw [h]; rfl

@[simp] theorem State.timeReport_tbu (s : State) (r : Option TimeReport) : (s.timeReport r).tbu = s.tbu := by
  obtain ⟨x, h⟩ := s.timeReport_touches r
  rw [h]; rfl

/-! ### losePower -/

theorem State.losePower_of_low (s : State) (h : s.tbu.supply = .low) : s.losePower = s := by
  unfold State.losePower State.isLow
  simp [h]

theorem State.losePower_of_not_low (s : State) (h : s.tbu.supply ≠ .low) :
    s.losePower = ((s.withTbu s.tbu.losePower).reportSource s.tbu.timeSource).quiesce := by
  unfold State.losePower State.isLow
  simp [h]

theorem State.losePower_tbu (s : State) (h : s.tbu.supply ≠ .low) : s.losePower.tbu = s.tbu.losePower := by
  rw [s.losePower_of_not_low h]; simp

/-- R16: whatever the supply state was, it is LOW after the loss. -/
@[simp] theorem State.losePower_supply (s : State) : s.losePower.tbu.supply = .low := by
  by_cases h : s.tbu.supply = .low
  · rw [s.losePower_of_low h, h]
  · rw [s.losePower_tbu h]; rfl

/-! ### The condition on the Time Base Unit -/

/-- An integer brought into a range lies in it. -/
theorem inRange_bounds (low n x : Int) (h : 0 < n) : -low ≤ inRange low n x ∧ inRange low n x < n - low := by
  have := Int.emod_nonneg x (by omega : n ≠ 0)
  have := Int.emod_lt_of_pos x h
  unfold inRange
  omega

/-- R1: the length and the accumulator of a crystal-driven second. -/
theorem Tbu.accumulate_bounds (t : Tbu) (h1 : -Config.trimDivisor < t.trimAccumulator)
    (h2 : t.trimAccumulator < Config.trimDivisor) (h3 : -999 ≤ t.trimInEffect) (h4 : t.trimInEffect ≤ 999) :
    -Config.trimDivisor < t.accumulate.trimAccumulator ∧ t.accumulate.trimAccumulator < Config.trimDivisor
      ∧ ∃ n, t.accumulate.secondEnd = .onTick n ∧ 32764 ≤ n ∧ n ≤ 32772 := by
  have key := Int.mul_tdiv_add_tmod (t.trimAccumulator + t.trimInEffect * 32768) 10000000
  have low := Int.lt_tmod_of_pos (t.trimAccumulator + t.trimInEffect * 32768) (by decide : (0 : Int) < 10000000)
  have high := Int.tmod_lt_of_pos (t.trimAccumulator + t.trimInEffect * 32768) (by decide : (0 : Int) < 10000000)
  have positive := @Int.tmod_nonneg (t.trimAccumulator + t.trimInEffect * 32768) 10000000
  have negative := @Int.tmod_nonneg (-(t.trimAccumulator + t.trimInEffect * 32768)) 10000000
  rw [Int.neg_tmod] at negative
  unfold Config.trimDivisor at *
  refine ⟨?_, ?_, _, rfl, ?_, ?_⟩ <;> 
    simp only [Tbu.accumulate, Config.trimDivisor, Config.ticksPerSecond, Nat.cast_ofNat] <;> omega

theorem timeSourceOf_absent (source : Source) : timeSourceOf source .absent ≠ .mainsLocked := by
  cases source <;> decide

/-- R16: the loss of the whole main supply keeps the condition on the Time Base Unit. -/
theorem TimeOk.losePower {s : State} (h : TimeOk s) : TimeOk s.losePower := by
  by_cases low : s.tbu.supply = .low
  · rw [s.losePower_of_low low]; exact h
  · apply TimeOk.congr (s := s.withTbu s.tbu.losePower) _ (s.losePower_tbu low)
    exact {
      calendar := h.calendar
      minute := h.minute
      accumulator := h.accumulator
      trims := h.trims
      qualification := Nat.zero_lt_succ 29
      supply := ⟨fun e => Supply.noConfusion e, fun e => MainsWatch.noConfusion e⟩
      source := rfl
      driver := by
        constructor
        · intro e; exact absurd e (timeSourceOf_absent _)
        · intro e
          simp only [State.withTbu_tbu, Tbu.losePower, Tbu.lose, Tbu.refreshSource] at e
          split at e
          · cases e
          · exact absurd (h.driver.mpr e) (by assumption)
      second := by
        intro n e
        simp only [State.withTbu_tbu, Tbu.losePower, Tbu.lose, Tbu.refreshSource] at e
        split at e
        · cases e; decide
        · exact h.second n e
      sampling := ⟨fun e => Bool.noConfusion e, fun e => Supply.noConfusion e⟩
      samples := h.samples
      pendingTime := fun _ e => Option.noConfusion rfl (heq_of_eq e)
      backup := fun _ => rfl
      judged := fun _ => rfl }

/-! ### The seconds of an outage -/

@[simp] theorem State.secondBoundaries_zero (s : State) : s.secondBoundaries 0 = s := rfl
@[simp] theorem State.secondBoundaries_succ (s : State) (n : Nat) :
    s.secondBoundaries (n + 1) = s.secondBoundary.secondBoundaries n := rfl

/-- A second of an outage but the first: it began in LOW with the mains absent and the settings in effect, and no mains
cycle has come. -/
structure InOutage (t : Tbu) : Prop where
  supply : t.supply = .low
  mainsWatch : t.mainsWatch = .absent
  began : t.secondBeganAbsent = true
  counters : t.prescaler = 0 ∧ t.cycleCounter = 0
  pendingTime : t.pendingTime = none
  inEffect : t.sourceInEffect = t.sourceSetting ∧ t.frequencyInEffect = t.frequencySetting
  timeSource : t.timeSource = timeSourceOf t.sourceSetting .absent

/-- The Time Base Unit of an outage so many seconds on, but for the accumulator and the length of the second, which follow
from the trim of each second. -/
def Tbu.later (t : Tbu) (n : Nat) (accumulator : Int) (finish : SecondEnd) : Tbu :=
  { t with
    calendar := (t.calendar + n) % (Config.lastReading + 1)
    calendarValid := t.calendarValid && decide (t.calendar + n ≤ Config.lastReading)
    trimInEffect := if plantMinute (t.calendar + n) = plantMinute t.calendar then t.trimInEffect else t.trimSetting
    lastMinute := plantMinute ((t.calendar + n) % (Config.lastReading + 1))
    qualification := if n = 0 then t.qualification else 0
    trimAccumulator := accumulator
    secondEnd := finish }

theorem State.timeReport_withTbu (s : State) (t : Tbu) (r : Option TimeReport) :
    (s.withTbu t).timeReport r = (s.timeReport r).withTbu t := by
  cases r with
  | none => rfl
  | some x =>
    show (s.withTbu t).nonPunch _ _ = (s.nonPunch _ _).withTbu t
    unfold State.nonPunch
    have same : (s.withTbu t).sparePlaces = s.sparePlaces := rfl
    rw [same, State.withTbu_rps]
    split <;> rfl

/-- In LOW a minute boundary event reaches the Time Base Unit alone. -/
theorem State.minuteEvent?_low (s : State) (e : Option MinuteEvent) (h : s.tbu.supply = .low) :
    s.minuteEvent? e = s.withTbu ((e.map s.tbu.minuteEvent).getD s.tbu) := by
  cases e with
  | none => rfl
  | some m =>
    show s.minuteEvent m = _
    unfold State.minuteEvent
    rw [if_pos (show (s.withTbu (s.tbu.minuteEvent m)).isLow = true by
      simp [State.isLow, Tbu.minuteEvent, h])]
    rfl

/-- R5: no second of an outage but the first is good. -/
theorem InOutage.not_good {t : Tbu} (d : InOutage t) : t.good = false := by
  unfold Tbu.good Frequency.goodSecond
  rw [d.counters.2]
  cases t.frequencyInEffect <;> rfl

theorem InOutage.not_qualifies {t : Tbu} (d : InOutage t) : t.qualifies = false := by
  simp [Tbu.qualifies, d.not_good]

theorem InOutage.judged {t : Tbu} (d : InOutage t) : t.judged = true := by
  simp [Tbu.judged, d.began, d.mainsWatch]

theorem InOutage.later {t : Tbu} (d : InOutage t) (n : Nat) (accumulator : Int) (finish : SecondEnd) :
    InOutage (t.later n accumulator finish) :=
  ⟨d.supply, d.mainsWatch, d.began, d.counters, d.pendingTime, d.inEffect, d.timeSource⟩

/-- The second that begins in an outage is driven by the crystal. -/
theorem startSecond_absent (t : Tbu) (h : t.mainsWatch = .absent) (source : t.timeSource ≠ .mainsLocked) :
    t.startSecond = { t with secondBeganAbsent := true }.accumulate := by
  unfold Tbu.startSecond
  rw [if_neg source]
  simp [h]

/-- What the calendar does within an outage: it advances, or it expires. -/
theorem InOutage.advance {t : Tbu} (d : InOutage t) : t.advance =
    if Config.lastReading ≤ t.calendar then t.expire
    else ⟨{ t with calendar := t.calendar + 1 },
      if (t.calendar + 1) % 60 = 0 then some ⟨.natural, plantMinute (t.calendar + 1), none⟩ else none, none⟩ := by
  unfold Tbu.advance
  rw [d.pendingTime]

/-- R9: the EXPIRY report of an outage so many seconds on. -/
def Tbu.laterReport (t : Tbu) (n : Nat) : Option TimeReport :=
  if t.calendar + n ≤ Config.lastReading then none else t.expire.report

/-- R5, R7, R8: a boundary within an outage, before its minute boundary event. -/
theorem InOutage.boundary {t : Tbu} (d : InOutage t) : t.boundary = { t.advance.tbu with
    prescaler := 0
    cycleCounter := 0
    sourceInEffect := t.sourceSetting
    frequencyInEffect := t.frequencySetting
    qualification := 0
    mainsWatch := t.mainsWatch
    gapTime := t.gapTime } := by
  simp [Tbu.boundary, Tbu.countAfter, d.not_qualifies, d.judged, d.not_good]

/-- The record of an outage's second is the one written out, with its driver and its flag as they stand. -/
theorem InOutage.self {t : Tbu} (d : InOutage t) : t = { t with
    prescaler := 0
    cycleCounter := 0
    sourceInEffect := t.sourceSetting
    frequencyInEffect := t.frequencySetting
    pendingTime := none
    secondBeganAbsent := true } := by
  obtain ⟨_, _, began, ⟨c1, c2⟩, p, ⟨f1, f2⟩, _⟩ := d
  cases t
  simp_all

/-- R1, R2, R8, R9, R12: one boundary within an outage. -/
theorem InOutage.step {t : Tbu} (d : InOutage t) (h : t.calendar ≤ Config.lastReading)
    (m : t.lastMinute = plantMinute t.calendar) :
    ((t.advance.event.map t.boundary.minuteEvent).getD t.boundary).startSecond =
      (t.later 1 t.trimAccumulator t.secondEnd).accumulate := by
  have source : t.timeSource ≠ .mainsLocked := by rw [d.timeSource]; exact timeSourceOf_absent _
  rw [d.boundary, d.advance]
  unfold plantMinute at m
  conv => rhs; rw [d.self]
  by_cases e : Config.lastReading ≤ t.calendar
  · have last : t.calendar = Config.lastReading := Nat.le_antisymm h e
    rw [if_pos e]
    simp only [Tbu.expire, Option.map_some, Option.getD_some, Tbu.minuteEvent]
    rw [startSecond_absent (h := by exact d.mainsWatch) (source := by exact source)]
    simp [Tbu.later, last, plantMinute, Config.lastReading, d.pendingTime]
  · rw [if_neg e]
    unfold Config.lastReading at *
    by_cases minute : (t.calendar + 1) % 60 = 0
    · simp only [if_pos minute, Option.map_some, Option.getD_some, Tbu.minuteEvent]
      rw [startSecond_absent (h := by exact d.mainsWatch) (source := by exact source)]
      have other : (t.calendar + 1) / 60 ≠ t.calendar / 60 := by omega
      have small : (t.calendar + 1) % 3155760000 = t.calendar + 1 := by omega
      have valid : t.calendar + 1 ≤ 3155759999 := by omega
      simp [Tbu.later, plantMinute, Config.lastReading, d.pendingTime, other, small, valid]
    · simp only [if_neg minute, Option.map_none, Option.getD_none]
      rw [startSecond_absent (h := by exact d.mainsWatch) (source := by exact source)]
      have same : (t.calendar + 1) / 60 = t.calendar / 60 := by omega
      have small : (t.calendar + 1) % 3155760000 = t.calendar + 1 := by omega
      have valid : t.calendar + 1 ≤ 3155759999 := by omega
      simp [Tbu.later, plantMinute, Config.lastReading, d.pendingTime, same, small, valid, m]

/-- R1, R2, R8, R9, R12: one boundary within an outage touches the Time Base Unit and the Report Store alone. -/
theorem State.secondBoundary_inOutage (s : State) (d : InOutage s.tbu) (h : s.tbu.calendar ≤ Config.lastReading)
    (m : s.tbu.lastMinute = plantMinute s.tbu.calendar) :
    s.secondBoundary = (s.withTbu (s.tbu.later 1 s.tbu.trimAccumulator s.tbu.secondEnd).accumulate).timeReport
      (s.tbu.laterReport 1) := by
  have refreshed : s.tbu.boundary.refreshSource = s.tbu.boundary := by
    rw [d.boundary, d.advance]
    split <;> simp [Tbu.refreshSource, Tbu.expire, d.timeSource, d.mainsWatch]
  have report : s.tbu.advance.report = s.tbu.laterReport 1 := by
    rw [d.advance]
    unfold Tbu.laterReport
    by_cases e : Config.lastReading ≤ s.tbu.calendar
    · rw [if_pos e, if_neg (by omega)]
    · rw [if_neg e]
      show none = _
      rw [if_pos (by omega)]
  have low : s.tbu.boundary.supply = .low := by
    rw [d.boundary, d.advance]
    split <;> exact d.supply
  have settled (r : Option TimeReport) : ((s.withTbu s.tbu.boundary).timeReport r).refreshSource =
      (s.withTbu s.tbu.boundary).timeReport r := by
    unfold State.refreshSource State.reportSource
    simp [refreshed, State.timeReport_withTbu]
    rfl
  unfold State.secondBoundary
  simp only [d.not_qualifies, settled, Bool.false_eq_true, if_false, report]
  rw [State.minuteEvent?_low _ _ (by simpa using low), State.timeReport_tbu, State.withTbu_tbu, State.withTbu_tbu,
    d.step h m, State.timeReport_withTbu, State.timeReport_withTbu]
  rfl

theorem InOutage.accumulate {t : Tbu} (d : InOutage t) : InOutage t.accumulate :=
  ⟨d.supply, d.mainsWatch, d.began, d.counters, d.pendingTime, d.inEffect, d.timeSource⟩

@[simp] theorem Tbu.accumulate_calendar (t : Tbu) : t.accumulate.calendar = t.calendar := rfl
@[simp] theorem Tbu.accumulate_lastMinute (t : Tbu) : t.accumulate.lastMinute = t.lastMinute := rfl

theorem Tbu.later_zero (t : Tbu) (h : t.calendar ≤ Config.lastReading) (m : t.lastMinute = plantMinute t.calendar) :
    t.later 0 t.trimAccumulator t.secondEnd = t := by
  have small : t.calendar % (Config.lastReading + 1) = t.calendar := Nat.mod_eq_of_lt (by omega)
  have valid : decide (t.calendar ≤ Config.lastReading) = true := decide_eq_true h
  unfold Tbu.later
  simp only [Nat.add_zero, small, valid, Bool.and_true, if_true, ← m]

/-- One second and so many more are one more than so many. -/
theorem Tbu.later_accumulate_later (t : Tbu) (n : Nat) (a accumulator : Int) (f finish : SecondEnd)
    (h : t.calendar ≤ Config.lastReading) (bound : t.calendar + (n + 1) ≤ 2 * Config.lastReading + 1) :
    (t.later 1 a f).accumulate.later n accumulator finish = t.later (n + 1) accumulator finish := by
  unfold Config.lastReading at *
  rcases Nat.lt_or_eq_of_le h with before | last
  · have small : (t.calendar + 1) % 3155760000 = t.calendar + 1 := Nat.mod_eq_of_lt (by omega)
    have sum : t.calendar + 1 + n = t.calendar + (n + 1) := by omega
    have valid : t.calendar + 1 ≤ 3155759999 := by omega
    simp [Tbu.later, Tbu.accumulate, plantMinute, Config.lastReading, small, sum, valid]
    refine ⟨?_, rfl⟩
    split_ifs <;> first | rfl | omega
  · have sum : (3155759999 + (n + 1)) % 3155760000 = n := by omega
    have small : n % 3155760000 = n := by omega
    simp [Tbu.later, Tbu.accumulate, plantMinute, Config.lastReading, last, sum, small]
    omega

theorem Tbu.later_laterReport (t : Tbu) (n : Nat) (a : Int) (f : SecondEnd)
    (h : t.calendar ≤ Config.lastReading) (bound : t.calendar + (n + 1) ≤ 2 * Config.lastReading + 1) :
    (t.calendar = Config.lastReading → (t.later 1 a f).accumulate.laterReport n = none
      ∧ t.laterReport (n + 1) = t.laterReport 1)
    ∧ (t.calendar < Config.lastReading → t.laterReport 1 = none
      ∧ (t.later 1 a f).accumulate.laterReport n = t.laterReport (n + 1)) := by
  unfold Tbu.laterReport
  unfold Config.lastReading at *
  constructor
  · intro last
    have sum : (t.later 1 a f).accumulate.calendar = 0 := by simp [Tbu.later, last, Config.lastReading]
    rw [if_pos (by omega), if_neg (by omega), if_neg (by omega)]
    exact ⟨rfl, rfl⟩
  · intro before
    have sum : (t.later 1 a f).accumulate.calendar = t.calendar + 1 := by
      simp only [Tbu.accumulate_calendar, Tbu.later, Config.lastReading]
      omega
    have valid : (t.later 1 a f).accumulate.calendarValid = t.calendarValid := by
      have valid : t.calendar + 1 ≤ 3155759999 := by omega
      simp [Tbu.accumulate, Tbu.later, Config.lastReading, valid]
    refine ⟨if_pos (by omega), ?_⟩
    simp only [Tbu.expire, sum, valid, Nat.add_assoc, Nat.add_comm 1 n]

/-- R1, R2, R5, R8, R9, R12: so many seconds of an outage, with at most one end of the calendar's range among them, touch
the Time Base Unit and the Report Store alone; the accumulator and the length of the second are those of
State.secondBoundary_inOutage, second by second. -/
theorem State.secondBoundaries_inOutage (n : Nat) : ∀ s : State, InOutage s.tbu → s.tbu.calendar ≤ Config.lastReading →
    s.tbu.lastMinute = plantMinute s.tbu.calendar → s.tbu.calendar + n ≤ 2 * Config.lastReading + 1 →
    ∃ accumulator finish, s.secondBoundaries n =
      (s.withTbu (s.tbu.later n accumulator finish)).timeReport (s.tbu.laterReport n) := by
  induction n with
  | zero =>
    intro s _ h m _
    refine ⟨s.tbu.trimAccumulator, s.tbu.secondEnd, ?_⟩
    rw [s.tbu.later_zero h m, Tbu.laterReport, if_pos (by omega)]
    rfl
  | succ n ih =>
    intro s d h m bound
    have first := s.secondBoundary_inOutage d h m
    have tbu : s.secondBoundary.tbu = (s.tbu.later 1 s.tbu.trimAccumulator s.tbu.secondEnd).accumulate := by
      rw [first]; simp
    have calendar : s.secondBoundary.tbu.calendar = (s.tbu.calendar + 1) % (Config.lastReading + 1) := by rw [tbu]; rfl
    obtain ⟨accumulator, finish, rest⟩ := ih s.secondBoundary (by rw [tbu]; exact (d.later 1 _ _).accumulate)
      (by rw [calendar]; exact Nat.le_of_lt_succ (Nat.mod_lt _ (Nat.succ_pos _))) (by rw [tbu]; rfl)
      (by
        have := Nat.mod_le (s.tbu.calendar + 1) (Config.lastReading + 1)
        omega)
    refine ⟨accumulator, finish, ?_⟩
    rw [tbu, s.tbu.later_accumulate_later n _ accumulator _ finish h bound] at rest
    rw [State.secondBoundaries_succ, rest, first]
    have reports := s.tbu.later_laterReport n s.tbu.trimAccumulator s.tbu.secondEnd h bound
    rcases Nat.lt_or_eq_of_le h with before | last
    · rw [(reports.2 before).1, (reports.2 before).2]
      rfl
    · rw [(reports.1 last).1, (reports.1 last).2]
      simp only [State.timeReport_withTbu]
      rfl

end Sys2Proof.Machine
end

