-- ==== Sys2Proof/Machine/SentFrames.lean ====
section
/-!
DEFINITION. The frames the GT20 sends, byte by byte (R185): on the gate line, and the replies and reports of the office
link.
-/

namespace Sys2Proof.Machine

open Sys2Proof

/-! ### The gate line -/

/-- R185: the outcome code of a REPLY to a station. -/
def ReplyCode.code : ReplyCode → Nat
  | .ok => 0x00
  | .already => 0x01
  | .wait => 0x02
  | .clockUnset => 0x03
  | .unknownBadge => 0x10
  | .blocked => 0x11
  | .conflict => 0x12
  | .notPermitted => 0x13
  | .lockdown => 0x14
  | .locked => 0x15
  | .passback => 0x16
  | .outOfWindow => 0x17
  | .pending => 0x18
  | .noted => 0x20

/-- Bits of a byte of flags, the first in bit 0. -/
def flagBits : List Bool → Nat
  | [] => 0
  | b :: rest => (if b then 1 else 0) + 2 * flagBits rest

/-- R185: the bytes of a frame the GT20 sends on the gate line. -/
def GateFrame.bytes : GateFrame → List Byte
  | .grant level budget => frame 0x40 (numBytes 1 level ++ numBytes 1 budget)
  | .time reading quality => frame 0x41 (numBytes 4 reading ++ codeByte qualities quality)
  | .reply level code release last =>
    frame 0x42 (numBytes 1 level ++ numBytes 1 code.code ++ numBytes 1 (flagBits [release, last]))
  | .probe level => frame 0x43 (numBytes 1 level)
  | .display none text => frame 0x44 (numBytes 1 allByte ++ listBytes (numBytes 1) text)
  | .display (some level) text => frame 0x44 (numBytes 1 level ++ listBytes (numBytes 1) text)

/-! ### Report records (R172, R185) -/

/-- The bytes of a PUNCH report after its mark. -/
def PunchReport.bytes (r : PunchReport) : List Byte :=
  numBytes 3 r.badge ++ numBytes 1 r.station ++ optByte r.door
    ++ (match r.direction with
      | none => [0xFF]
      | some d => codeByte [Direction.entry, .exit, .access] d)
    ++ codeByte [PunchResult.accepted, .cancelled, .refused] r.result
    ++ numBytes 1 (match r.reason with
      | none => 0
      | some c => c.code)
    ++ numBytes 1 (flagBits [r.flags.late, r.flags.stale, r.flags.freePass, r.flags.noRecord, r.flags.openKept])
    ++ numBytes 2 r.age ++ numBytes 4 r.punchTime ++ numBytes 4 r.arrival ++ numBytes 4 r.creation
    ++ numBytes 4 r.finish

/-- The shift id, start day, S and E of a closed record, or their absent values. -/
def scheduledId (p : Option ScheduledPart) : List Byte := optByte (p.map fun q => q.shift)

/-- R185: an absent day number is FFFF hex. -/
def scheduledDay : Option ScheduledPart → List Byte
  | none => [0xFF, 0xFF]
  | some q => numBytes 2 q.startDay

/-- The bytes of a SHIFT_CLOSE report after its mark. -/
def ShiftCloseReport.bytes (r : ShiftCloseReport) : List Byte :=
  let c := r.record
  numBytes 3 c.badge ++ scheduledId c.scheduled ++ codeByte [CloseCause.punch, .auto, .manual] r.cause
    ++ numBytes 2 r.period ++ codeByte presences r.presence
    ++ numBytes 1 (flagBits [c.holidayFlag, c.clamped, c.timeReversed, r.saturated])
    ++ scheduledDay c.scheduled ++ optReading (c.scheduled.map fun q => q.start)
    ++ optReading (c.scheduled.map fun q => q.stop)
    ++ numBytes 4 c.actualIn ++ optReading c.outMinute ++ numBytes 4 c.effectiveIn ++ numBytes 4 c.effectiveOut
    ++ numBytes 2 c.worked ++ numBytes 2 c.regular ++ numBytes 2 c.overtime ++ numBytes 2 c.night
    ++ numBytes 2 c.holiday ++ numBytes 4 c.pay ++ numBytes 2 c.carry ++ numBytes 4 r.reading

/-- The events of a DOOR report. -/
def doorEvents : List DoorEvent := [.forced, .held, .closedAfterAlarm]

/-- The bytes of a DOOR report after its mark. -/
def DoorReport.bytes (r : DoorReport) : List Byte :=
  numBytes 1 r.door ++ codeByte doorKinds r.kind ++ codeByte doorEvents r.event
    ++ (match r.ended with
      | none => [0xFF]
      | some e => codeByte doorEvents e)
    ++ codeByte doorModes r.mode ++ codeByte doorStates r.state ++ numBytes 4 r.reading

/-- The bytes of a STATION report after its mark. -/
def StationReport.bytes (r : StationReport) : List Byte :=
  numBytes 1 r.station ++ codeByte [StationEvent.suspended, .restored, .tamper, .readerFault] r.event
    ++ numBytes 4 r.reading

/-- The bytes of a SUPPLY report after its mark. -/
def SupplyReport.bytes (r : SupplyReport) : List Byte :=
  codeByte [SupplyEvent.mainsLost, .mainsRestored, .lowBattery, .warmStart, .coldStart, .timeSource] r.event
    ++ codeByte supplies r.supply ++ codeByte timeSources r.timeSource
    ++ (match r.before with
      | none => [0xFF]
      | some t => codeByte timeSources t)
    ++ numBytes 4 r.reading

/-- The bytes of a TIME report after its mark. -/
def TimeReport.bytes (r : TimeReport) : List Byte :=
  codeByte [TimeCause.setTime, .expiry] r.cause ++ numBytes 4 r.oldReading ++ numBytes 4 r.newReading
    ++ intBytes 5 r.step ++ flagByte r.validBefore ++ numBytes 4 r.reading

/-- The bytes of a CONFLICT report after its mark. -/
def ConflictReport.bytes (r : ConflictReport) : List Byte :=
  numBytes 3 r.badge ++ numBytes 1 r.station ++ numBytes 1 r.lastStation ++ numBytes 1 r.zone
    ++ numBytes 4 r.punchTime ++ numBytes 4 r.lastTime ++ numBytes 4 r.reading

/-- R172: the code of a record's kind. -/
def ReportBody.kind : ReportBody → Nat
  | .punch _ => 1
  | .shiftClose _ => 2
  | .door _ => 3
  | .station _ => 4
  | .supply _ => 5
  | .time _ => 6
  | .conflict _ => 7

/-- The bytes of a record after its mark. -/
def ReportBody.bytes : ReportBody → List Byte
  | .punch r => r.bytes
  | .shiftClose r => r.bytes
  | .door r => r.bytes
  | .station r => r.bytes
  | .supply r => r.bytes
  | .time r => r.bytes
  | .conflict r => r.bytes

/-- R172, R185: a record: its kind, its sequence number, its mark and its fields. -/
def Report.bytes (r : Report) : List Byte :=
  numBytes 1 r.body.kind ++ numBytes 2 r.sequence ++ flagByte r.owed ++ r.body.bytes

/-- R172: the REPORT frame of a record. -/
def Report.frame (r : Report) : List Byte := Machine.frame 0x60 r.bytes

/-! ### Result fields of the office replies (R177, R185) -/

/-- R20, R185: a station record. -/
def Station.bytes (r : Station) : List Byte :=
  (match r.config with
    | none => flagByte false ++ [0xFF] ++ unread 0 1 ++ [0xFF] ++ unread 1 1 ++ flagByte false
    | some c => flagByte true ++ numBytes 1 c.level ++ codeByte stationModes c.mode ++ optByte c.door
        ++ numBytes 1 c.zone ++ flagByte c.enabled)
    ++ codeByte stationStates r.state ++ numBytes 1 r.timeouts

/-- R185: the flag set of a badge. -/
def BadgeFlags.bytes (f : BadgeFlags) : List Byte :=
  numBytes 1 (flagBits [f.blocked, f.anytime, f.noPay, f.passbackExempt])

/-- R185: totals. -/
def Totals.bytes (t : Totals) : List Byte :=
  numBytes 2 t.regular ++ numBytes 2 t.overtime ++ numBytes 2 t.night ++ numBytes 2 t.holiday ++ numBytes 4 t.pay
    ++ numBytes 2 t.shifts ++ numBytes 2 t.missedOut ++ flagByte t.saturated

/-- R185: an optional part: a yes-or-no byte, then its fields, whose bytes are unread when it is absent. -/
def optionalPart {α : Type} (bytes : α → List Byte) (from_ size : Nat) : Option α → List Byte
  | none => flagByte false ++ unread from_ size
  | some a => flagByte true ++ bytes a

/-- R45: what BADGE_GET returns of an entry. -/
def badgeResult (b : Badge) (door : Option DoorId) : List Byte :=
  numBytes 3 b.number ++ numBytes 1 b.crew ++ numBytes 1 b.payClass ++ numBytes 2 b.doors.toNat ++ b.flags.bytes
    ++ codeByte presences b.presence
    ++ optionalPart (fun (l : LastPunch) => numBytes 1 l.station ++ numBytes 4 l.time) 2 5 b.lastPunch
    ++ optByte door
    ++ optionalPart (fun (r : OpenRecord) =>
        scheduledId r.scheduled ++ numBytes 4 r.actualIn ++ numBytes 4 r.effectiveIn ++ numBytes 4 r.deadline)
        7 13 b.record
    ++ b.current.bytes ++ numBytes 2 b.carry ++ optionalPart Totals.bytes 20 17 b.closed

/-- 5.1: the codes of ACTIVE and INACTIVE. -/
def levelByte (active : Bool) : List Byte := numBytes 1 (if active then 0 else 1)

/-- R83: what DOOR_GET returns of a configured door. -/
def configuredDoor (r : Door) (contactLevel releaseOutput : Bool) : List Byte :=
  let c := r.config
  flagByte true ++ codeByte doorKinds c.kind ++ numBytes 1 c.contact ++ optByte c.button ++ numBytes 1 c.releaseTime
    ++ numBytes 2 c.heldLimit ++ optByte c.schedule ++ codeByte defaultModes c.defaultMode
    ++ codeByte failModes c.failMode
    ++ optionalPart (fun (a : AlarmBell) => numBytes 1 a.outputs.toNat ++ numBytes 1 a.pattern) 37 2 c.alarmBell
    ++ codeByte overrides r.override ++ codeByte doorModes r.mode ++ codeByte doorStates r.state
    ++ flagByte r.releaseTimer.isSome ++ flagByte r.heldTimer.isSome ++ levelByte contactLevel
    ++ flagByte releaseOutput

/-- R83: what DOOR_GET returns of an unconfigured door: the cold values, with unread bytes where the cold value is none
and the field has no byte for it. -/
def coldDoor : List Byte :=
  flagByte false ++ unread 39 2 ++ [0xFF] ++ unread 41 3 ++ [0xFF] ++ unread 44 2 ++ flagByte false ++ unread 46 2
    ++ codeByte overrides .normal ++ unread 48 2 ++ flagByte false ++ flagByte false ++ unread 50 1 ++ flagByte false

/-- R83: what DOOR_GET returns. -/
def doorResult (d : Option Door) (contactLevel releaseOutput : Bool) : List Byte :=
  match d with
  | none => coldDoor
  | some r => configuredDoor r contactLevel releaseOutput

/-- R84: a window. -/
def Window.bytes (w : Window) : List Byte :=
  numBytes 1 w.weekdays.toNat ++ numBytes 2 w.start ++ numBytes 2 w.stop ++ codeByte windowModes w.mode

/-- 6.1: a break. -/
def Break.bytes (b : Break) : List Byte := numBytes 2 b.offset ++ numBytes 1 b.length ++ flagByte b.paid

/-- R104: the fields of a shift definition after its defined flag. -/
def ShiftDef.bytes (d : ShiftDef) : List Byte :=
  numBytes 2 d.start ++ numBytes 2 d.length ++ numBytes 2 d.standardLength ++ numBytes 1 d.entryLead
    ++ numBytes 1 d.lateGrace ++ numBytes 2 d.latestIn ++ numBytes 1 d.leaveGrace ++ numBytes 1 d.overstayGrace
    ++ numBytes 1 d.unit ++ numBytes 2 d.autoCloseDelay ++ listBytes Break.bytes d.breaks

/-- R104: the cold values of an undefined definition. -/
def ShiftDef.cold : ShiftDef := ⟨0, 1, 0, 0, 0, 0, 0, 0, 15, 0, []⟩

/-- R104: what SHIFT_GET returns. -/
def shiftResult : Option ShiftDef → List Byte
  | none => flagByte false ++ ShiftDef.cold.bytes
  | some d => flagByte true ++ d.bytes

/-- R149: the fields of a bell entry that say when it falls due; those of the other kind are unread. -/
def BellTrigger.bytes : BellTrigger → List Byte
  | .fixed minute weekdays => numBytes 1 0 ++ numBytes 2 minute ++ numBytes 1 weekdays.toNat ++ unread 51 3
  | .shift crew edge offset =>
    numBytes 1 1 ++ unread 54 3 ++ numBytes 1 crew ++ codeByte bellEdges edge ++ intBytes 1 offset

/-- R149: what BELL_GET returns. -/
def bellResult : Option BellEntry → List Byte
  | none => flagByte false
  | some e =>
    flagByte true ++ e.trigger.bytes ++ flagByte e.skipHolidays ++ numBytes 1 e.outputs.toNat ++ numBytes 1 e.pattern
      ++ numBytes 1 e.priority ++ flagByte e.oneShot ++ flagByte e.armed ++ optReading e.lastRung

/-- R185: the bit field of a set of station ids given by its members. -/
def idBits (ids : List StationId) : Nat := (ids.foldl addTo (0 : StationSet)).toNat

/-- 10.5: the settings in the order of their table. -/
def settingsResult (t : Settings) (f : Frequency) (src : Source) (trim : Int) : List Byte :=
  numBytes 1 t.duplicateWindow ++ numBytes 1 t.conflictWindow ++ numBytes 1 t.staleLimit ++ numBytes 1 t.burstBudget
    ++ numBytes 2 t.catchUpLimit ++ numBytes 2 t.nightStart ++ numBytes 2 t.nightEnd ++ numBytes 1 t.evacuationPattern
    ++ codeByte alarmModes t.alarmMode ++ numBytes 1 f.cycles ++ codeByte sources src ++ intBytes 2 trim

/-- R181: the family name, part code, revision and capacities. -/
def identResult : List Byte :=
  -- the text WEZICOR
  listBytes (numBytes 1) [0x57, 0x45, 0x5A, 0x49, 0x43, 0x4F, 0x52] ++ numBytes 1 20 ++ numBytes 1 1
    ++ numBytes 2 2048 ++ [32, 64, 32, 16, 15, 16, 8, 8, 96, 16].flatMap (numBytes 1) ++ numBytes 2 4096
    ++ numBytes 1 32

/-- R177: the result bytes of a reply. -/
def ReplyResult.bytes : ReplyResult → List Byte
  | .none => []
  | .station r => r.bytes
  | .badge b passageDoor => badgeResult b passageDoor
  | .conflictSet ids => numBytes 2 (idBits ids)
  | .input level filter accepted => codeByte activeLevels level ++ numBytes 1 filter ++ levelByte accepted
  | .door d contact output => doorResult d contact output
  | .schedule windows => listBytes Window.bytes windows
  | .doorCommand doors =>
    listBytes (fun (d, m, st) => numBytes 1 d ++ codeByte doorModes m ++ codeByte doorStates st) doors
  | .alarm found => codeByte alarmStates found
  | .shift d => shiftResult d
  | .rota r => numBytes 1 r.days.length ++ numBytes 2 r.anchor ++ listBytes optByte r.days
  | .holidays days => listBytes (numBytes 2) days
  | .payClass p => numBytes 2 p.baseRate ++ numBytes 2 p.overtimeFactor ++ numBytes 2 p.holidayFactor
      ++ numBytes 2 p.nightAdder
  | .closeRecord effIn effOut w pay => numBytes 4 effIn ++ numBytes 4 effOut ++ numBytes 2 w ++ numBytes 4 pay
  | .closePeriod minute period entries => numBytes 4 minute ++ numBytes 2 period ++ numBytes 2 entries
  | .totals n t carry period minute =>
    numBytes 3 n ++ t.bytes ++ numBytes 2 carry ++ numBytes 2 period
      ++ (minute.map (numBytes 4)).getD []
  | .bell e => bellResult e
  | .pattern p => listBytes (fun (st : PatternStep) => numBytes 1 st.on ++ numBytes 1 st.off) p.steps
      ++ numBytes 1 p.repeats
  | .bellRing fates => listBytes (fun (o, f) => numBytes 1 o ++ codeByte ringFates f) fates
  | .bellStop found => listBytes (fun (o, c, n) => numBytes 1 o ++ flagByte c ++ numBytes 1 n) found
  | .settings t f src trim => settingsResult t f src trim
  | .status supply ts valid calendar records spare pause owed conflict closedBlock passages =>
    codeByte supplies supply ++ codeByte timeSources ts ++ flagByte valid ++ numBytes 4 calendar ++ numBytes 2 records
      ++ numBytes 2 spare ++ flagByte pause ++ flagByte owed ++ flagByte conflict ++ flagByte closedBlock
      ++ numBytes 1 passages
  | .ident => identResult

/-- R177, R185: the REPLY frame of the office link. -/
def Reply.frame (r : Reply) : List Byte :=
  Machine.frame 0x61 (numBytes 1 r.kind ++ codeByte statuses r.status ++ r.result.bytes)

end Sys2Proof.Machine
end

