-- ==== Sys2Proof/Tests/Slice0.lean ====
section
/-!
SUPPORT. Small tests. Their expected results are the manual's worked examples and tables, named in each docstring, or hand
calculation from the rules named there.
-/

namespace Sys2Proof.Tests

open Sys2Proof Sys2Proof.Machine

-- One test at a time: the threads of many tests under evaluation at once come to more memory than the check allows.
set_option Elab.async false

/-! ### Well-formedness: a term that each check accepts and one that it refuses -/

/-- R177, R185: kinds 01..2D hex are management commands. -/
theorem test_unknown_kind_fits :
    (Instr.unknownKind 0).wellFormed = true ∧ (Instr.unknownKind 0x2E).wellFormed = true
      ∧ (Instr.unknownKind 1).wellFormed = false ∧ (Instr.unknownKind 0x2D).wellFormed = false
      ∧ (Instr.unknownKind 256).wellFormed = false := by decide

/-- R185: three bytes of badge number and two of age. -/
theorem test_punch_fits :
    (Instr.punchFrame 16777215 65535 true).wellFormed = true ∧ (Instr.punchFrame 16777216 0 true).wellFormed = false
      ∧ (Instr.punchFrame 0 65536 true).wellFormed = false := by decide

/-- R185: a field in its bytes, and a payload in its frame. -/
theorem test_fields_fit :
    (Instr.stationGet (.fields 255)).wellFormed = true ∧ (Instr.stationGet (.fields 256)).wellFormed = false
      ∧ (Instr.display (.fields ⟨0, List.replicate 245 65⟩)).wellFormed = true
      ∧ (Instr.display (.fields ⟨0, List.replicate 246 65⟩)).wellFormed = false := by decide +kernel

/-- No row of the table has bits. -/
theorem test_decode_nothing : decodeTableWord 0 0 = none := rfl

/-! ### Frames (00_scope.md 3.5, R185) -/

/-- The published check value of this CRC, over the characters 1 to 9. -/
theorem test_crc : crc [0x31, 0x32, 0x33, 0x34, 0x35, 0x36, 0x37, 0x38, 0x39] = 0x29B1 := by decide +kernel

/-! ### Calendar (00_scope.md 3.2, chapter 6) -/

/-- Chapter 6: day 8,829 is Monday 2024-03-04. -/
theorem test_reading_of_day : readingOf 2024 3 4 0 0 0 = 8829 * 86400 ∧ weekday 8829 = 0 := by decide +kernel

/-- R9: the last reading. -/
theorem test_last_reading : readingOf 2099 12 31 23 59 59 = 3155759999 := by decide +kernel

/-! ### Trim (chapter 1, the worked example) -/

/-- Seconds of a trim from an accumulator of 0: the lengths and accumulators after so many seconds. -/
def trimmed (trim : Int) (seconds : Nat) : SecondEnd × Int :=
  let t := (List.range seconds).foldl (fun t _ => Tbu.accumulate t) { Tbu.cold with trimInEffect := trim }
  (t.secondEnd, t.trimAccumulator)

theorem test_trim_up :
    trimmed 25 1 = (.onTick 32768, 819200) ∧ trimmed 25 12 = (.onTick 32768, 9830400)
      ∧ trimmed 25 13 = (.onTick 32767, 649600) ∧ trimmed 25 24 = (.onTick 32768, 9660800)
      ∧ trimmed 25 25 = (.onTick 32767, 480000) := by decide +kernel

theorem test_trim_down :
    trimmed (-999) 1 = (.onTick 32771, -2735232) ∧ trimmed (-999) 3 = (.onTick 32771, -8205696)
      ∧ trimmed (-999) 4 = (.onTick 32772, -940928) := by decide +kernel

/-! ### Schedules (chapter 5, the worked example) -/

/-- Schedule 1 of the example. -/
def nightly : List Window := [⟨0x1F, 330, 390, .free⟩, ⟨0x7F, 1320, 300, .locked⟩]

/-- Monday is day 8,829, Friday 8,833, Saturday 8,834. -/
theorem test_schedule_across_midnight :
    scheduledMode nightly (8829 * 1440 + 240) = some .locked ∧ scheduledMode nightly (8829 * 1440 + 300) = none
      ∧ scheduledMode nightly (8829 * 1440 + 345) = some .free
      ∧ scheduledMode nightly (8833 * 1440 + 1390) = some .locked
      ∧ scheduledMode nightly (8834 * 1440 + 290) = some .locked
      ∧ scheduledMode nightly (8834 * 1440 + 345) = none := by decide +kernel

/-! ### Matching (chapter 6, the worked example) -/

/-- A shift definition with the graces, the unit and the delay of chapter 11. -/
def shiftOf (start length lead latest : Nat) (breaks : List Break) : ShiftDef :=
  ⟨start, length, length - 30, lead, 5, latest, 5, 7, 15, 60, breaks⟩

/-- The plan of the example: crew 7. -/
def plan : Sps :=
  { Sps.cold with
    shifts := (Sps.cold.shifts.set 1 (some (shiftOf 360 510 60 120 [⟨240, 30, false⟩]))).set 3
      (some (shiftOf 1320 480 90 120 [⟨240, 30, false⟩]))
    rotas := Sps.cold.rotas.set 7 ⟨8828, [some 1, some 1, some 3, none]⟩ }

/-- The shift and the day a worker of crew 7 is given at a minute of a day. -/
def matched (day minute : Nat) : Option (ShiftId × Nat) :=
  (plan.matchShift 7 (day * 1440 + minute)).map fun i => (i.shift, i.day)

theorem test_matching_across_midnight :
    matched 8829 310 = some (1, 8829) ∧ matched 8830 1260 = some (3, 8830) ∧ matched 8830 1425 = some (3, 8830)
      ∧ matched 8831 30 = none ∧ matched 8832 299 = none ∧ matched 8832 300 = some (1, 8832) := by decide +kernel

/-! ### Pay (chapter 7) -/

/-- The rates of the examples. -/
def rates : PayClass := ⟨1850, 150, 200, 300⟩

/-- The early shift of day 8,829, and the night shift of day 8,830, holiday or not. -/
def earlyShift : ShiftInstance := instanceOf 3 1 (shiftOf 360 510 60 120 [⟨240, 30, false⟩]) 8829 false
def nightShift (holiday : Bool) : ShiftInstance :=
  instanceOf 3 3 (shiftOf 1320 480 90 120 [⟨240, 30, false⟩]) 8830 holiday

/-- Effective in for the early shift: 05:10, 06:05, 06:06, 06:15 and 07:40. -/
theorem test_effective_in :
    [310, 365, 366, 375, 460].map (fun m => scheduledIn earlyShift (8829 * 1440 + m) - 8829 * 1440)
      = [360, 360, 375, 375, 465] := by decide +kernel

/-- The record of an arrival at a second of day 8,829. -/
def arrived (i : Captured) (second : Nat) : OpenRecord := buildRecord i (8829 * 86400 + second) rates Settings.cold

/-- Effective out for the early shift: 12:50, 14:24, 14:25, 14:37, 14:38, 14:52 and 15:22. -/
theorem test_effective_out :
    [770, 864, 865, 877, 878, 892, 922].map (fun m =>
      effectiveOutAt (arrived (.shift earlyShift) 21600) (8829 * 1440 + m) - 8829 * 1440)
      = [765, 855, 870, 870, 870, 885, 915] := by decide +kernel

/-- What a close gives: worked, regular, overtime, holiday and night minutes, pay and carry, and the flags. -/
def gives (carry : Nat) (r : OpenRecord) (out : Nat) : List Nat × Bool × Bool :=
  let c := computeClose 7 carry r (.outTime out)
  ([c.worked, c.regular, c.overtime, c.holiday, c.night, c.pay, c.carry], c.clamped, c.timeReversed)

/-- Case A: in 05:49:12, out 15:22:40. -/
theorem test_case_A : gives 2400 (arrived (.shift earlyShift) 20952) (8829 * 86400 + 55360)
    = ([525, 480, 45, 0, 0, 16881, 3900], false, false) := by decide +kernel

/-- Case B: in 21:58 on day 8,830, out 06:03 on day 8,831. -/
theorem test_case_B : gives 3900 (arrived (.shift (nightShift false)) 165480) (8831 * 86400 + 21780)
    = ([450, 450, 0, 0, 450, 16125, 3900], false, false) := by decide +kernel

/-- Case C: the same on a holiday. -/
theorem test_case_C : gives 3900 (arrived (.shift (nightShift true)) 165480) (8831 * 86400 + 21780)
    = ([450, 0, 0, 450, 450, 30000, 3900], false, false) := by decide +kernel

/-- Case D: in 06:09, out 12:50. -/
theorem test_case_D : gives 3900 (arrived (.shift earlyShift) 22140) (8829 * 86400 + 46200)
    = ([360, 360, 0, 0, 0, 11100, 3900], false, false) := by decide +kernel

/-- Case E: unscheduled, in 16:52, out 23:38. -/
theorem test_case_E : gives 3900 (arrived .unscheduled 60720) (8829 * 86400 + 85080)
    = ([390, 0, 390, 0, 90, 18488, 900], false, false) := by decide +kernel

/-- Case F: unscheduled, in 07:52, out 10:00 on the next day. -/
theorem test_case_F : gives 900 (arrived .unscheduled 28320) (8830 * 86400 + 36000)
    = ([1440, 0, 1440, 0, 480, 69000, 900], true, false) := by decide +kernel

/-- Case G: in 06:09, out 06:12. -/
theorem test_case_G : gives 3900 (arrived (.shift earlyShift) 22140) (8829 * 86400 + 22320)
    = ([0, 0, 0, 0, 0, 0, 3900], false, true) := by decide +kernel

/-! ### Totals (chapter 8) -/

/-- R135's example: the pay total saturates, the night minutes do not. -/
theorem test_saturation :
    let c := computeClose 7 3900 (arrived (.shift (nightShift false)) 165480) (.outTime (8831 * 86400 + 21780))
    let t := addClose ⟨0, 0, 65000, 0, 4294960000, 0, 0, false⟩ { c with pay := 16881 } 0
    (t.night, t.pay, t.saturated, t.regular) = (65450, 4294967295, true, 450) := by decide +kernel

/-- A badge of the early crew with its open record, in at 05:50. -/
def worker (n carry : Nat) : Badge :=
  ⟨n, 3, 0, 5, ⟨false, false, false, false⟩, .inside, none, none, some (arrived (.shift earlyShift) 21000), Totals.zero,
    carry, none⟩

/-- 8.4: the store holds 4,092 records and a passage of badge 40,250 is pending. -/
def shortOfRoom : State :=
  { State.reset with
    btb := { Btb.cold with entries := [worker 40117 1200, worker 40250 0, worker 51877 0, worker 60007 300] }
    pev := ⟨[⟨0, 40250, 0, .exit, 0, 0, 0, false, .none, 0⟩], 0⟩
    rps := { Rps.cold with records := List.replicate 4092 ⟨0, false, .supply coldStartReport⟩ } }

/-- 8.4, the walk short of room: at 15:30 the first and the third badge are closed. -/
theorem test_walk_short_of_room :
    let s := shortOfRoom.autoClose (8829 * 1440 + 930)
    (s.btb.entries.map fun b => (b.number, b.presence, b.current.missedOut)) =
        [(40117, .unknown, 1), (40250, .inside, 0), (51877, .unknown, 1), (60007, .inside, 0)]
      ∧ s.sparePlaces = 0 := by decide +kernel

/-! ### Bells (chapter 9) -/

/-- The four entries of 9.3, with an instance of crew 3 on day 8,829. -/
def bells : Blc :=
  { Blc.cold with
    entries := (((Blc.cold.entries.set 0 (some ⟨.fixed 355 0x1F, true, 3, 1, 1, false, true, none⟩)).set 4
      (some ⟨.shift 3 .start 0, false, 1, 2, 1, false, true, none⟩)).set 5
      (some ⟨.shift 3 (.breakStart 0) 0, false, 4, 2, 0, false, true, none⟩)).set 6
      (some ⟨.shift 3 .stop (-5), false, 1, 1, 1, true, true, none⟩) }

def bellPlan (holidays : List Nat) : Sps :=
  { plan with rotas := Sps.cold.rotas.set 3 ⟨8829, [some 1]⟩, holidays := holidays }

/-- The entries that ring at a minute of day 8,829. -/
def rung (holidays : List Nat) (minute : Nat) : List Nat :=
  ((List.finRange 96).filter fun n =>
    (bells.entries.get n).any fun e => e.rings (bellPlan holidays) (8829 * 1440 + minute)).map fun n => n.val

/-- 9.3: 05:55, 06:00, 10:00 and 14:25; on a holiday the SKIP entry is silent. -/
theorem test_bells_of_an_early_shift :
    [355, 360, 600, 865, 361].map (rung []) = [[0], [4], [5], [6], []] ∧ rung [8829] 355 = []
      ∧ rung [8829] 360 = [4] := by decide +kernel

/-- 9.3: a ONE_SHOT entry is disarmed when it has rung. -/
theorem test_one_shot :
    ((bells.evaluateMinute (bellPlan []) false (8829 * 1440 + 865)).entries.get 6).map (fun e => e.armed) = some false := by
  decide +kernel

/-- 9.4: a step of 279 s evaluates 05:55 to 05:59, one of 579 s the new minute alone. -/
theorem test_catch_up :
    minutesToEvaluate 300 359 (some (354, 279)) = [355, 356, 357, 358, 359]
      ∧ minutesToEvaluate 300 364 (some (354, 579)) = [364] := by decide

/-- Patterns that are not empty. -/
def tones : Table 16 Pattern := Table.fill 16 ⟨[⟨30, 10⟩], 1⟩

/-- 9.5, one output under load: what becomes of each request, and the waiting list at the end, head first. -/
theorem test_one_output_under_load :
    let requests : List Ring := [⟨.entry 4, 1, 0⟩, ⟨.door 2, 2, 0⟩, ⟨.entry 9, 0, 0⟩, ⟨.manual, 1, 0⟩, ⟨.manual, 0, 0⟩,
      ⟨.door 6, 2, 0⟩, ⟨.entry 11, 1, 0⟩, ⟨.manual, 0, 0⟩, ⟨.door 2, 2, 0⟩, ⟨.entry 9, 0, 0⟩]
    let done := requests.foldl (fun (o, fates) r => ((BellOutput.request tones false o r).1,
      fates ++ [(BellOutput.request tones false o r).2])) (BellOutput.cold, [])
    done.2 = [.started, .started, .queued, .queued, .queued, .queued, .queued, .dropped, .dropped, .dropped]
      ∧ (done.1.current.map fun c => c.ring.source) = some (.door 2)
      ∧ (done.1.waiting.map fun w => (w.source, w.priority)) =
        [(.door 6, 2), (.manual, 1), (.entry 11, 1), (.entry 9, 0)] := by decide +kernel

/-- 9.5: when the door ring ends, the head of the list starts. -/
theorem test_next_ring :
    ((startNext tones [⟨.door 6, 2, 0⟩, ⟨.manual, 1, 0⟩]).current.map fun c => c.ring.source) = some (.door 6) := by decide

/-! ### Commands and events -/

/-- One step from a state. -/
def after (c : Instr) (s : State) (p : State → Bool) : Bool :=
  match exec c s with
  | .next t => p t
  | .fault _ => false
  | .refused _ => false

/-- R10: SET_TIME in range is answered OK and becomes the pending time. -/
theorem test_set_time : after (.setTime (.fields ⟨2024, 3, 4, 5, 50, 0⟩)) State.reset (fun t =>
    t.tbu.pendingTime == some (8829 * 86400 + 21000) && t.olc.slot == some ⟨1, .ok, .none⟩) = true := by decide +kernel

/-- R10: 29 February of 2001. -/
theorem test_set_time_refused : after (.setTime (.fields ⟨2001, 2, 29, 0, 0, 0⟩)) State.reset (fun t =>
    t.tbu == State.reset.tbu && t.olc.slot == some ⟨1, .badArg, .none⟩) = true := by decide +kernel

/-- R4, R14: a mains loss, with both reports. -/
theorem test_mains_loss : after .mainsLoss State.reset (fun t =>
    t.tbu.supply == .battery && t.tbu.timeSource == .holdover && t.rps.records.length == 3) = true := by decide +kernel

/-- R16: the whole main supply is lost in MAINS with the backup domain, and power returns: the mains is qualified from a
count of 0 on the crystal. -/
theorem test_power_and_backup_lost : after .backupDomainLost State.reset (fun s =>
    !s.tbu.running && after .powerReturn s (fun t => t.tbu.running && t.tbu.supply == .low
      && t.tbu.mainsWatch == .absent && t.tbu.qualification == 0 && !t.tbu.backupIntact
      && t.tbu.timeSource == .holdover)) = true := by decide +kernel

/-- R1, 1.2: the first thirteen seconds of the worked example, with a trim of 25 on the crystal. -/
theorem test_thirteen_seconds_with_trim :
    let s := State.secondBoundaries 13 { State.reset with tbu := { Tbu.cold with
      sourceSetting := .crystal, sourceInEffect := .crystal, timeSource := .crystal, trimSetting := 25, trimInEffect := 25 } }
    s.tbu.trimAccumulator = 649600 ∧ s.tbu.secondEnd = .onTick 32767 ∧ s.tbu.calendar = 13 := by decide +kernel

/-- R3, R8: the fiftieth cycle ends the second. -/
theorem test_fiftieth_cycle :
    after .mainsCycle { State.reset with tbu := { Tbu.cold with cycleCounter := 49 } } (fun t => t.tbu.calendar == 1)
      = true := by decide +kernel

/-- A part whose line is in a round, with station 0 as a contender (11.1). -/
def gateAtChangeover : State :=
  { State.reset with
    tbu := { Tbu.cold with calendar := 8829 * 86400 + 21010, calendarValid := true }
    glc := { Glc.cold with
      stations := (Glc.cold.stations.set 0 ⟨some ⟨0, .toggle, some 0, 1, true⟩, .idle, 0, none⟩).set 1
        ⟨some ⟨3, .exit, none, 1, true⟩, .idle, 0, none⟩
      line := .round, sending := none }
    btb := { Btb.cold with entries := [{ worker 30211 0 with presence := .outside, record := none }] }
    sps := bellPlan []
    drc := { Drc.cold with doors := Drc.cold.doors.set 0 (some
      ⟨⟨.turnstile, 0, some 16, 5, 0, none, .card, .secure, none⟩, .normal, .card, .secure, none, none⟩) } }

/-- 11.2: station 0 answers alone, wins and is sent GRANT with budget 2. -/
theorem test_round : after (.roundResult 1) gateAtChangeover (fun t =>
    t.glc.sending == some (.grant 0 2) && (t.glc.stations.get 0).state == .granted) = true := by decide +kernel

/-- The grant of station 0, its frame awaited. -/
def grantedAtChangeover : State :=
  { gateAtChangeover with glc := { gateAtChangeover.glc with
    stations := gateAtChangeover.glc.stations.modify 0 (fun x => { x with state := .granted })
    line := .grant, grant := some ⟨0, 2, 0, some 0⟩ } }

/-- 11.2: the punch of badge 30,211, age 1, MORE clear: a passage, and OK with the release indicator and END. -/
theorem test_punch : after (.punchFrame 30211 1 false) grantedAtChangeover (fun t =>
    t.glc.sending == some (.reply 0 .ok true true) && t.releaseOutput 0
      && (t.pev.passages.map fun p => (p.door, p.direction, p.punchTime)) == [(0, .entry, 8829 * 86400 + 21009)]
      && t.rps.records.length == 1) = true := by decide +kernel

/-- The turnstile of the passage. -/
def passageAtChangeover : State :=
  grantedAtChangeover.judge ⟨0, ⟨0, .toggle, some 0, 1, true⟩, 30211, 1, 8829 * 86400 + 21010, 8829 * 86400 + 21009, false,
    false⟩ |>.state

/-- 11.2: the turnstile turns: IN with actual in 05:50, effective in 06:00, deadline 15:30; the report is stored. -/
theorem test_turn :
    after (.filterTimeExpiry 0)
      { passageAtChangeover with drc := { passageAtChangeover.drc with
        inputs := passageAtChangeover.drc.inputs.set 0 ⟨.activeOpen, 30, false, some 0, none, false⟩ } }
      (fun t => (t.btb.entries.map fun b => (b.presence, b.record.map fun r => (r.actualIn, r.effectiveIn, r.deadline)))
          == [(.inside, some (8829 * 1440 + 350, 8829 * 1440 + 360, 8829 * 1440 + 930))]
        && t.pev.passages == [] && t.rps.records.length == 2 && !t.releaseOutput 0) = true := by decide +kernel

/-- 11.2: the close of badge 22,516: W 435, N 435, 15,587 cents, carry 4,500. -/
theorem test_changeover_close :
    gives 1500 (buildRecord (.shift (instanceOf 2 3 (shiftOf 1320 480 90 120 [⟨240, 30, false⟩]) 8828 false))
      (8828 * 86400 + 78905) rates Settings.cold) (8829 * 86400 + 21080)
      = ([435, 435, 0, 0, 435, 15587, 4500], false, false) := by decide +kernel

/-- R98, R100: a turnstile that turns in SECURE is FORCED, and the alarm pulses. -/
theorem test_forced :
    after (.filterTimeExpiry 0)
      { gateAtChangeover with drc := { gateAtChangeover.drc with
        inputs := gateAtChangeover.drc.inputs.set 0 ⟨.activeOpen, 30, false, some 0, none, false⟩ } }
      (fun t => t.drc.alarm == .pulsing && t.drc.pulseTimer == some (Config.seconds 2) && t.rps.records.length == 2)
      = true := by decide +kernel

/-- R42: a new badge. -/
theorem test_badge_put : after (.badgePut (.fields ⟨40117, 3, 0, 5, 6⟩)) State.reset (fun t =>
    (t.btb.entries.map fun b => (b.number, b.presence, b.flags)) == [(40117, .outside, ⟨false, true, true, false⟩)]
      && t.olc.slot == some ⟨6, .ok, .none⟩) = true := by decide +kernel

/-- R143: CLOSE_PERIOD on an INVALID calendar. -/
theorem test_close_period_refused : after (.closePeriod (.fields ())) State.reset (fun t =>
    t.olc.slot == some ⟨0x1D, .clockUnset, .none⟩) = true := by decide +kernel

/-- R161: a pattern that is empty. -/
theorem test_ring_without_pattern : after (.bellRing (.fields ⟨129, 0, 3⟩)) State.reset (fun t =>
    t.olc.slot == some ⟨0x25, .ok, .bellRing [(0, .noPattern), (7, .noPattern)]⟩) = true := by decide +kernel

/-- R178: a night start of 24:00. -/
theorem test_settings_refused :
    after (.settingsPut (.fields ⟨60, 20, 15, 2, 300, 1440, 360, 0, 0, 50, 0, 0⟩)) State.reset (fun t =>
      t.olc.slot == some ⟨0x29, .badArg, .none⟩ && t.olc.settings == Settings.cold) = true := by decide +kernel

end Sys2Proof.Tests
end

