-- ==== Sys2Proof/Tests/Witnesses.lean ====
section
/-!
SUPPORT. For every statement with hypotheses, concrete states and operands that meet them, clause by clause and at the
boundary values of the ranges. Each conjunct of a theorem is the hypotheses of one clause of the statement it is named
after.
-/

namespace Sys2Proof.Tests

open Sys2Proof Sys2Proof.Machine

/-! ### States -/

/-- The state after a cold start. -/
abbrev cold : State := State.reset

theorem takes_of {s : State} (h1 : s.tbu.supply ≠ .low) (h2 : s.olc.assembly = none) (h3 : s.olc.slot = none) :
    s.takes := ⟨h1, h2, h3⟩

theorem cold_takes : cold.takes := takes_of (by decide) rfl rfl

/-- In BATTERY. -/
def battery : State :=
  { cold with tbu := { cold.tbu with
      supply := .battery, mainsWatch := .absent, timeSource := .holdover, secondEnd := .onTick 32768
      lowBatteryTimer := some Config.samplePeriod, lowBatterySamples := [true] } }

/-- In LOW. -/
def low : State :=
  { cold with
    tbu := { cold.tbu with
      supply := .low, mainsWatch := .absent, timeSource := .holdover, secondEnd := .onTick 32768 }
    glc := { cold.glc with line := .free, sending := none } }

/-- A door on a contact and a button. -/
def door : Door := ⟨⟨.swing, 0, some 16, 30, 600, none, .card, .secure, some ⟨1, 0⟩⟩, .normal, .card, .secure, none, none⟩

/-- A station at door 0. -/
def station : Station := ⟨some ⟨0, .toggle, some 0, 0, true⟩, .idle, 0, none⟩

/-- A second station of the zone, without a door. -/
def gate : Station := ⟨some ⟨1, .entry, none, 0, true⟩, .idle, 0, none⟩

/-- A badge that is OUT. -/
def badge : Badge :=
  ⟨7, 0, 0, 65535, ⟨false, true, false, false⟩, .outside, none, none, none, Totals.zero, 0, none⟩

/-- An unscheduled record. -/
def openRecord : OpenRecord := ⟨100, none, 0, 15, [], false, 1320, 360, ⟨1850, 150, 200, 300⟩, 105, 1065⟩

/-- A shift from 06:00 to 14:30 with a break. -/
def early : ShiftDef := ⟨360, 510, 480, 60, 5, 480, 5, 7, 15, 60, [⟨240, 30, false⟩]⟩

/-- A pattern of one step. -/
def tone : Pattern := ⟨[⟨30, 10⟩], 1⟩

/-- A plant with two stations, a door, a badge, a pattern, a shift and a valid calendar on day 1 at 06:00. -/
def plant : State :=
  { cold with
    tbu := { cold.tbu with calendar := 108000, calendarValid := true, lastMinute := 1800 }
    glc := { cold.glc with
      stations := (cold.glc.stations.set 0 station).set 1 gate, line := .free, sending := none }
    btb := { cold.btb with entries := [badge] }
    sps := { cold.sps with
      shifts := cold.sps.shifts.set 0 (some early), rotas := cold.sps.rotas.set 0 ⟨0, [some 0]⟩ }
    drc := { cold.drc with doors := cold.drc.doors.set 0 (some door) }
    blc := { cold.blc with patterns := cold.blc.patterns.set 0 tone } }

theorem plant_takes : plant.takes := takes_of (by decide) rfl rfl

/-- A part whose report store is full. -/
def full : State :=
  { plant with rps := { plant.rps with records := List.replicate 4096 ⟨0, false, .supply coldStartReport⟩ } }

theorem full_records : full.rps.records.length = 4096 := List.length_replicate

theorem full_sparePlaces : full.sparePlaces = 0 := by
  unfold State.sparePlaces State.freePlaces
  rw [full_records]
  rfl

/-! ### Conditions at these states -/

theorem cold_badgesOk : BadgesOk cold where
  ascending := rfl
  capacity := by decide
  numbers := fun _ h => by cases h
  carries := fun _ h => by cases h
  totals := fun _ h => by cases h
  closed := fun _ h => by cases h
  records := fun _ h => by cases h
  period := by decide

/-- A table of one entry. -/
theorem badgesOk_single (s : State) (b : Badge) (h : s.btb.entries = [b]) (hn : 1 ≤ b.number)
    (hm : b.number ≤ Config.maxBadgeNumber) (hc : b.carry < Config.unitsPerCent) (ht : b.current.inRange)
    (hcl : ∀ t, b.closed = some t → t.inRange) (hb : b.closed.isSome = s.btb.closedBlock.isSome)
    (hr : b.record.isSome = (!b.flags.noPay && decide (b.presence = .inside))) (hp : s.btb.period < 65536) :
    BadgesOk s where
  ascending := by rw [h]; rfl
  capacity := by rw [h]; exact Nat.le_of_ble_eq_true rfl
  numbers := by rw [h]; intro x hx; rw [List.mem_singleton.1 hx]; exact ⟨hn, hm⟩
  carries := by rw [h]; intro x hx; rw [List.mem_singleton.1 hx]; exact hc
  totals := by rw [h]; intro x hx; rw [List.mem_singleton.1 hx]; exact ⟨ht, hcl⟩
  closed := by rw [h]; intro x hx; rw [List.mem_singleton.1 hx]; exact hb
  records := by rw [h]; intro x hx; rw [List.mem_singleton.1 hx]; exact hr
  period := hp

theorem zero_inRange : Totals.zero.inRange := by unfold Totals.inRange; decide

theorem plant_badgesOk : BadgesOk plant :=
  badgesOk_single plant badge rfl (by decide) (by decide) (by decide) zero_inRange (fun _ h => by cases h) rfl rfl
    (by decide)

theorem timeOk_of (s : State) (h1 : s.tbu.calendar ≤ Config.lastReading)
    (h2 : s.tbu.lastMinute = plantMinute s.tbu.calendar) (h3 : s.tbu.trimAccumulator = 0)
    (h4 : s.tbu.trimSetting = 0 ∧ s.tbu.trimInEffect = 0) (h5 : s.tbu.qualification < 30)
    (h6 : s.tbu.supply = .mains ↔ s.tbu.mainsWatch = .present)
    (h7 : s.tbu.timeSource = timeSourceOf s.tbu.sourceInEffect s.tbu.mainsWatch)
    (h8 : s.tbu.timeSource = .mainsLocked ↔ s.tbu.secondEnd = .onCycle)
    (h9 : s.tbu.secondEnd = .onCycle ∨ s.tbu.secondEnd = .onTick 32768)
    (h10 : s.tbu.lowBatteryTimer.isSome = true ↔ s.tbu.supply = .battery) (h11 : s.tbu.lowBatterySamples.length ≤ 2)
    (h12 : s.tbu.pendingTime = none ∨ (s.tbu.pendingTime = some Config.lastReading ∧ s.tbu.supply ≠ .low))
    (h13 : s.tbu.running = false ∨ s.tbu.backupIntact = false → s.tbu.supply = .low)
    (h14 : s.tbu.secondBeganAbsent = true → s.tbu.mainsWatch = .absent) : TimeOk s where
  calendar := h1
  minute := h2
  accumulator := by rw [h3]; decide
  trims := by rw [h4.1, h4.2]; decide
  qualification := h5
  supply := h6
  source := h7
  driver := h8
  second := by
    intro n hn
    rcases h9 with h | h
    · rw [h] at hn; cases hn
    · rw [h] at hn; cases hn; decide
  sampling := h10
  samples := h11
  pendingTime := by
    intro p hp
    rcases h12 with h | ⟨h, hl⟩
    · rw [h] at hp; cases hp
    · rw [h] at hp; cases hp; exact ⟨Nat.le_refl _, hl⟩
  backup := h13
  judged := h14

theorem cold_timeOk : TimeOk cold := by apply timeOk_of <;> decide
theorem plant_timeOk : TimeOk plant := by apply timeOk_of <;> decide

theorem cold_outputsOk : OutputsOk cold := fun o => by
  have h : cold.blc.outputs.get o = BellOutput.cold := Table.get_fill _ o
  rw [h]; exact OutputOk.cold _

/-! ### Steps and the office link -/

theorem witness_StepTakesTheFrontCommandElseTimePasses :
    (∃ (e : Instr) (later : List Instr) (s : State), s.pending = [] ∧ s.dueEvents = e :: later)
    ∧ (∃ s : State, s.pending = [] ∧ s.dueEvents = []) :=
  ⟨⟨.mainsLoss, [], { cold with tbu := { cold.tbu with gapTime := Config.lossTime } }, rfl, by decide⟩,
    ⟨cold, rfl, by decide⟩⟩

theorem witness_CommandsWaitAndAreTakenLater :
    (∃ (c : Instr) (k : Nat) (s : State), commandKind c = some k ∧ s.tbu.supply = .low)
    ∧ (∃ (c : Instr) (k : Nat) (s : State), commandKind c = some k ∧ s.olc.assembly.isSome = true)
    ∧ (∃ (c : Instr) (k : Nat) (s : State), commandKind c = some k ∧ s.tbu.supply ≠ .low ∧ s.olc.assembly = none
        ∧ s.olc.slot.isSome = true)
    ∧ (∃ (c : Instr) (k : Nat) (s : State), commandKind c = some k ∧ s.olc.assembly = some c ∧ s.olc.slot = none
        ∧ s.tbu.supply ≠ .low)
    ∧ (∃ s : State, s.olc.slot.isSome = true) ∧ (∃ s : State, s.tbu.supply = .low)
    ∧ (∃ s : State, s.olc.assembly = none) :=
  ⟨⟨.reset (.fields ()), 0x2D, low, rfl, rfl⟩,
    ⟨.setTime .malformed, 1, { cold with olc := { cold.olc with assembly := some (.ident (.fields ())) } }, rfl, rfl⟩,
    ⟨.unknownKind 255, 255, { cold with olc := { cold.olc with slot := some ⟨1, .ok, .none⟩ } }, rfl, by decide, rfl, rfl⟩,
    ⟨.unknownKind 0, 0, { cold with olc := { cold.olc with assembly := some (.unknownKind 0) } }, rfl, rfl, rfl, by decide⟩,
    ⟨{ cold with olc := { cold.olc with slot := some ⟨1, .ok, .none⟩ } }, rfl⟩, ⟨low, rfl⟩, ⟨cold, rfl⟩⟩

theorem witness_TakenCommandsAreAnsweredOnce :
    (∃ (c : Instr) (k : Nat) (s : State), commandKind c = some k ∧ s.takes)
    ∧ (∃ (k : Nat) (c : Instr) (s : State), (k, c) ∈ malformedCommands ∧ s.takes)
    ∧ (∃ s : State, s.takes) :=
  ⟨⟨.unknownKind 0x2E, 0x2E, cold, rfl, cold_takes⟩,
    ⟨0x2D, .reset .malformed, cold, by simp [malformedCommands], cold_takes⟩, ⟨cold, cold_takes⟩⟩

theorem witness_TransmitterSendsOneFrameAtATime :
    (∃ s : State, s.olc.transmitter = .report ∧ s.tbu.supply ≠ .low)
    ∧ (∃ s : State, s.olc.transmitter = .reply ∧ s.tbu.supply ≠ .low ∧ s.olc.assembly = none)
    ∧ (∃ s : State, s.olc.transmitter = .reply ∧ s.tbu.supply ≠ .low ∧ s.olc.assembly.isSome = true)
    ∧ (∃ s : State, s.olc.transmitter ≠ .report) ∧ (∃ s : State, s.olc.transmitter ≠ .reply) :=
  ⟨⟨{ cold with olc := { cold.olc with transmitter := .report } }, rfl, by decide⟩,
    ⟨{ cold with olc := { cold.olc with transmitter := .reply, slot := some ⟨1, .ok, .none⟩ } }, rfl, by decide, rfl⟩,
    ⟨{ cold with olc := { cold.olc with
      transmitter := .reply, slot := some ⟨1, .ok, .none⟩, assembly := some (.unknownKind 0) } }, rfl, by decide, rfl⟩,
    ⟨cold, by decide⟩, ⟨cold, by decide⟩⟩

theorem witness_FramesAreReceivedOrDiscarded :
    (∃ (start length : Byte) (rest : List Byte), start ≠ 0xA5 ∧ length = 3 ∧ rest.length = 3)
    ∧ (∃ (start length : Byte), start = 0xA5 ∧ 250 < length.toNat)
    ∧ (∃ (start length : Byte) (rest : List Byte), start = 0xA5 ∧ rest.length ≠ length.toNat)
    ∧ (∃ (start length : Byte) (rest : List Byte), start = 0xA5 ∧ rest.length = length.toNat ∧ rest.length < 3)
    ∧ (∃ (start length : Byte) (rest : List Byte), start = 0xA5 ∧ rest.length = length.toNat
        ∧ rest.drop (rest.length - 2) ≠ numBytes 2 (crc (length :: rest.take (rest.length - 2))).toNat)
    ∧ (∃ badge age : Nat, badge = 256 ^ 3 - 1 ∧ age = 256 ^ 2 - 1 ∧ badge < 256 ^ 3 ∧ age < 256 ^ 2)
    ∧ (∃ (kind : Nat) (payload : List Byte), kind < 256 ∧ payload.length + 3 = 250
        ∧ (kind = 0x31 → payload.length ≠ 6) ∧ (kind = 0x32 → payload.length ≠ 1))
    ∧ (∃ began : State, began.olc.assembly.isSome = true) ∧ (∃ began : State, began.tbu.supply = .low)
    ∧ (∃ began : State, began.olc.assembly = none ∧ began.tbu.supply ≠ .low) :=
  ⟨⟨0xA4, 3, [1, 2, 3], by decide, rfl, rfl⟩, ⟨0xA5, 251, rfl, by decide⟩, ⟨0xA5, 4, [1, 2, 3], rfl, by decide⟩,
    ⟨0xA5, 2, [1, 2], rfl, by decide, by decide⟩, ⟨0xA5, 3, [0x2C, 0, 0], rfl, by decide, by decide +kernel⟩,
    ⟨_, _, rfl, rfl, by decide, by decide⟩,
    ⟨255, List.replicate 247 0, by decide, by rw [List.length_replicate], fun h => absurd h (by decide),
      fun h => absurd h (by decide)⟩,
    ⟨{ cold with olc := { cold.olc with assembly := some (.unknownKind 0) } }, rfl⟩, ⟨low, rfl⟩,
    ⟨cold, rfl, by decide⟩⟩

theorem witness_SettingsPauseAndReadingCommands :
    (∃ s : State, s.takes)
    ∧ (∃ s : State, s.takes ∧ settingsInRange (settingsFields ⟨120, 120, 60, 4, 900, 1439, 1439, 15, .latched⟩ .hz60 .crystal
        999))
    ∧ (∃ s : State, s.takes ∧ settingsInRange (settingsFields ⟨0, 0, 0, 1, 0, 0, 0, 0, .pulsed⟩ .hz50 .mains (-999)))
    ∧ (∃ s : State, s.takes ∧ ¬ settingsInRange (settingsFields ⟨0, 0, 0, 0, 0, 0, 0, 0, .pulsed⟩ .hz50 .mains 0)) :=
  ⟨⟨cold, cold_takes⟩, ⟨cold, cold_takes, by simp [settingsInRange, settingsFields]⟩,
    ⟨cold, cold_takes, by simp [settingsInRange, settingsFields]⟩,
    ⟨cold, cold_takes, by simp [settingsInRange, settingsFields]⟩⟩

theorem witness_ResetWarmStartsThePart : ∃ s : State, s.takes := ⟨plant, plant_takes⟩

theorem witness_CommandFramesAreReceivedAsSent :
    (∃ bytes, commandFrame (.holidayPut (.fields 36524)) = some bytes)
    ∧ ∃ bytes, commandFrame (.display (.fields ⟨254, [0x20, 0x7E]⟩)) = some bytes :=
  ⟨⟨_, rfl⟩, ⟨_, rfl⟩⟩

theorem witness_NonPunchReportsAreStoredOrOwedAndEmitted :
    (∃ (s : State) (src : ReportSource), 1 ≤ s.sparePlaces ∧ s.rps.owed.held src = none)
    ∧ (∃ s : State, s.sparePlaces = 0)
    ∧ (∃ (s : State) (src : ReportSource), s.rps.owed.held src ≠ none)
    ∧ (∃ s : State, s.rps.nextSequence < 65536) :=
  ⟨⟨cold, .door 15, by decide, by decide⟩,
    ⟨full, full_sparePlaces⟩,
    ⟨{ cold with rps := { cold.rps with owed := Owed.clear.put (.station 14) (some (.supply coldStartReport)) } },
      .station 14, by decide⟩,
    ⟨{ cold with rps := { cold.rps with nextSequence := 65535 } }, by decide⟩⟩

/-! ### Time base -/

theorem witness_SetTimeBecomesThePendingTime :
    (∃ s : State, s.takes ∧ dateInRange ⟨2099, 12, 31, 23, 59, 59⟩)
    ∧ (∃ s : State, s.takes ∧ dateInRange ⟨2000, 2, 29, 0, 0, 0⟩)
    ∧ (∃ s : State, s.takes ∧ ¬ dateInRange ⟨2001, 2, 29, 0, 0, 0⟩)
    ∧ (∃ a : SetTimeArgs, dateInRange a ∧ a.second < 59 ∧ a.minute < 59 ∧ a.hour < 23 ∧ a.day < daysInMonth a.year a.month
        ∧ a.month < 12 ∧ a.year < 2099) :=
  ⟨⟨cold, cold_takes, by unfold dateInRange; decide⟩, ⟨cold, cold_takes, by unfold dateInRange; decide⟩,
    ⟨cold, cold_takes, by unfold dateInRange; decide⟩,
    ⟨⟨2004, 2, 28, 22, 58, 58⟩, by unfold dateInRange; decide, by decide⟩⟩

/-- A part in BATTERY. -/
theorem battery_timeOk : TimeOk battery := by apply timeOk_of <;> decide

theorem low_timeOk : TimeOk low := by apply timeOk_of <;> decide

theorem witness_CrystalSecondEnds :
    (∃ (n : Nat) (s : State), TimeOk s ∧ s.tbu.running = true ∧ s.tbu.secondEnd = .onTick n
      ∧ (s.tbu.supply = .low → returnQualified s.tbu → s.tbu.backupIntact = true)
      ∧ ¬ raisesMinuteEvent s.tbu ∧ ¬ returnQualified s.tbu ∧ s.tbu.sourceInEffect = s.tbu.sourceSetting)
    ∧ (∃ (n : Nat) (s : State), TimeOk s ∧ s.tbu.running = true ∧ s.tbu.secondEnd = .onTick n
      ∧ (s.tbu.supply = .low → returnQualified s.tbu → s.tbu.backupIntact = true) ∧ returnQualified s.tbu
      ∧ s.tbu.supply = .low)
    ∧ (∃ (n : Nat) (s : State), TimeOk s ∧ s.tbu.running = true ∧ s.tbu.secondEnd = .onTick n
      ∧ ¬ returnQualified s.tbu ∧ s.tbu.pendingTime = none ∧ s.tbu.calendar = 3155759999)
    ∧ (∃ (n : Nat) (s : State), TimeOk s ∧ s.tbu.running = true ∧ s.tbu.secondEnd = .onTick n
      ∧ ¬ returnQualified s.tbu ∧ s.tbu.pendingTime = some 3155759999)
    ∧ (∃ (n : Nat) (s : State), TimeOk s ∧ s.tbu.running = true ∧ s.tbu.secondEnd = .onTick n
      ∧ returnQualified s.tbu ∧ s.tbu.supply = .battery) := by
  refine ⟨⟨32768, battery, battery_timeOk, rfl, rfl, fun h => (by cases h), ?_, ?_, rfl⟩,
    ⟨32768, { low with tbu := { low.tbu with
      secondBeganAbsent := true, qualification := 29, cycleCounter := 49 } }, by apply timeOk_of <;> decide, rfl, rfl,
      fun _ _ => rfl, ?_, rfl⟩,
    ⟨32768, { battery with tbu := { battery.tbu with calendar := 3155759999, lastMinute := 52595999 } }, by
      apply timeOk_of <;> decide, rfl, rfl, ?_, rfl, rfl⟩,
    ⟨32768, { battery with tbu := { battery.tbu with pendingTime := some 3155759999 } }, by
      apply timeOk_of <;> decide, rfl, rfl, ?_, rfl⟩,
    ⟨32768, { battery with tbu := { battery.tbu with
      secondBeganAbsent := true, qualification := 29, cycleCounter := 51 } }, by
      apply timeOk_of <;> decide, rfl, rfl, ?_, rfl⟩⟩
  · simp [raisesMinuteEvent, nextReading, battery, Tbu.cold, State.reset, Config.lastReading]
  · simp [returnQualified, battery, Tbu.cold, State.reset]
  · simp [returnQualified, low, Tbu.cold, State.reset]
  · simp [returnQualified, battery, Tbu.cold, State.reset]
  · simp [returnQualified, battery, Tbu.cold, State.reset]
  · simp [returnQualified, battery, Tbu.cold, State.reset]

theorem witness_MainsCyclesAreCountedAndEndSeconds :
    (∃ s : State, TimeOk s ∧ s.tbu.running = true
      ∧ ¬ (s.tbu.timeSource = .mainsLocked ∧ s.tbu.frequencyInEffect.cycles ≤ s.tbu.cycleCounter + 1))
    ∧ (∃ s : State, TimeOk s ∧ s.tbu.running = true ∧ s.tbu.timeSource = .mainsLocked
      ∧ s.tbu.frequencyInEffect.cycles = s.tbu.cycleCounter + 1 ∧ ¬ raisesMinuteEvent s.tbu
      ∧ s.tbu.sourceInEffect = s.tbu.sourceSetting)
    ∧ (∃ s : State, TimeOk s ∧ s.tbu.running = true ∧ s.tbu.timeSource = .mainsLocked
      ∧ s.tbu.frequencyInEffect.cycles = s.tbu.cycleCounter + 1 ∧ s.tbu.pendingTime = some 3155759999
      ∧ s.tbu.sourceInEffect ≠ s.tbu.sourceSetting) := by
  refine ⟨⟨{ cold with tbu := { cold.tbu with cycleCounter := 48 } }, by apply timeOk_of <;> decide, rfl, by decide⟩,
    ⟨{ cold with tbu := { cold.tbu with cycleCounter := 49 } }, by apply timeOk_of <;> decide, rfl, rfl, rfl, ?_, rfl⟩,
    ⟨{ cold with tbu := { cold.tbu with
      cycleCounter := 49, pendingTime := some 3155759999, sourceSetting := .crystal } }, by apply timeOk_of <;> decide,
      rfl, rfl, rfl, rfl, by decide⟩⟩
  simp [raisesMinuteEvent, nextReading, Tbu.cold, State.reset, Config.lastReading]

theorem witness_MainsLossMakesTheSupplyBattery :
    (∃ s : State, s.tbu.running = true ∧ s.tbu.mainsWatch = .present ∧ s.tbu.supply = .mains
      ∧ ¬ (s.tbu.timeSource = .mainsLocked ∧ 32768 ≤ s.tbu.prescaler) ∧ 1 ≤ s.sparePlaces ∧ s.rps.owed.supply = none)
    ∧ (∃ s : State, TimeOk s ∧ s.tbu.running = true ∧ s.tbu.supply = .mains ∧ s.tbu.timeSource = .mainsLocked
      ∧ s.tbu.prescaler = 32768)
    ∧ (∃ s : State, s.tbu.mainsWatch = .absent) :=
  ⟨⟨{ cold with tbu := { cold.tbu with prescaler := 32767 } }, rfl, rfl, rfl, by decide, by decide, rfl⟩,
    ⟨{ cold with tbu := { cold.tbu with prescaler := 32768 } }, by apply timeOk_of <;> decide, rfl, rfl, rfl, rfl⟩,
    ⟨battery, rfl⟩⟩

theorem witness_TwoAssertedSamplesMakeThePartQuiescent :
    (∃ (asserted : Bool) (s : State), s.tbu.supply = .battery
      ∧ ¬ (asserted = true ∧ s.tbu.lowBatterySamples.head? = some true))
    ∧ (∃ s : State, s.tbu.supply = .battery ∧ s.tbu.lowBatterySamples.head? = some true)
    ∧ (∃ s : State, s.tbu.supply ≠ .battery) :=
  ⟨⟨false, battery, rfl, by decide⟩, ⟨battery, rfl, rfl⟩, ⟨cold, by decide⟩⟩

theorem witness_LostBackupDomainEndsInAColdStart :
    (∃ s : State, s.tbu.supply = .low) ∧ (∃ s : State, s.tbu.supply ≠ .low) ∧ (∃ s : State, s.tbu.running = false)
    ∧ (∃ s : State, s.tbu.running = true ∧ s.tbu.supply = .low)
    ∧ (∃ s : State, TimeOk s ∧ s.tbu.running = true ∧ s.tbu.supply = .battery)
    ∧ (∃ s : State, TimeOk s ∧ s.tbu.running = true ∧ s.tbu.supply = .mains)
    ∧ (∃ (n : Nat) (s : State), s.tbu.running = true ∧ s.tbu.secondEnd = .onTick n ∧ s.tbu.supply = .low
      ∧ returnQualified s.tbu ∧ s.tbu.backupIntact = false) := by
  refine ⟨⟨low, rfl⟩, ⟨cold, by decide⟩, ⟨{ low with tbu := { low.tbu with running := false } }, rfl⟩, ⟨low, rfl, rfl⟩,
    ⟨battery, battery_timeOk, rfl, rfl⟩,
    ⟨{ cold with tbu := { cold.tbu with calendar := 3155759999, lastMinute := 52595999 } }, by
      apply timeOk_of <;> decide, rfl, rfl⟩,
    ⟨32768, { low with tbu := { low.tbu with
      secondBeganAbsent := true, qualification := 29, cycleCounter := 51, backupIntact := false } }, rfl, rfl, rfl, ?_,
      rfl⟩⟩
  simp [returnQualified, low, Tbu.cold, State.reset]

theorem witness_ClockQualityFollowsTheCalendarAndTheSource :
    (∃ t : Tbu, t.calendarValid = false) ∧ (∃ t : Tbu, t.calendarValid = true ∧ t.timeSource = .holdover)
    ∧ (∃ t : Tbu, t.calendarValid = true ∧ t.timeSource = .mainsLocked)
    ∧ (∃ t : Tbu, t.calendarValid = true ∧ t.timeSource = .crystal)
    ∧ (∃ s : State, s.tbu.supply ≠ .low ∧ s.glc.line = .free ∧ s.glc.sending = none ∧ s.glc.timePending = true) :=
  ⟨⟨cold.tbu, rfl⟩, ⟨{ battery.tbu with calendarValid := true }, rfl, rfl⟩, ⟨plant.tbu, rfl, rfl⟩,
    ⟨{ cold.tbu with calendarValid := true, timeSource := .crystal }, rfl, rfl⟩,
    ⟨{ plant with glc := { plant.glc with timePending := true } }, by decide, rfl, rfl, rfl⟩⟩

/-! ### The gate line -/

/-- The plant's gate line. -/
abbrev g : Glc := plant.glc

/-- The plant with its gate line replaced. -/
def onLine (x : Glc) : State := { plant with glc := x }

theorem station_config (x : Glc) (h : x.stations = g.stations) : (x.stations.get 0).config = some ⟨0, .toggle, some 0, 0, true⟩ := by
  rw [h]; decide

theorem witness_FreeLineSendsOwnFramesBeforeItOpensARound :
    (∃ x : Glc, x.line ≠ .free) ∧ (∃ x : Glc, x.sending ≠ none)
    ∧ (∃ x : Glc, x.line = .free ∧ x.sending = none ∧ x.timePending = true)
    ∧ (∃ (x : Glc) (id : StationId) (c : StationConfig), x.line = .free ∧ x.sending = none ∧ x.timePending = false
      ∧ inSet x.pendingProbes id = true ∧ (x.stations.get id).config = some c
      ∧ ∀ j : StationId, j < id → inSet x.pendingProbes j = true → (x.stations.get j).config = none)
    ∧ (∃ (x : Glc) (skipped : List DisplayMessage) (m : DisplayMessage) (level : Option (Fin 15)), x.line = .free
      ∧ x.sending = none ∧ x.timePending = false ∧ x.pendingProbes = 0 ∧ x.displayQueue = skipped ++ m :: []
      ∧ (∀ y ∈ skipped, ∀ l, ¬ addressedTo x y l) ∧ addressedTo x m level)
    ∧ (∃ (x : Glc) (spare : Nat), x.line = .free ∧ x.sending = none ∧ x.timePending = false ∧ x.pendingProbes = 0
      ∧ (∀ y ∈ x.displayQueue, ∀ l, ¬ addressedTo x y l) ∧ x.attention = true ∧ x.restTimer = none ∧ spare = 64)
    ∧ (∃ (x : Glc) (spare : Nat), x.line = .free ∧ x.sending = none ∧ x.timePending = false ∧ x.pendingProbes = 0
      ∧ (∀ y ∈ x.displayQueue, ∀ l, ¬ addressedTo x y l) ∧ x.attention = true ∧ spare = 63) := by
  refine ⟨⟨{ g with line := .round }, by decide⟩, ⟨{ g with sending := some (.probe 14) }, by decide⟩,
    ⟨{ g with timePending := true }, rfl, rfl, rfl⟩,
    ⟨{ g with pendingProbes := 3 }, 0, ⟨0, .toggle, some 0, 0, true⟩, rfl, rfl, rfl, by decide, by decide, fun j h => ?_⟩,
    ⟨{ g with displayQueue := [⟨.station 14, []⟩, ⟨.all, [0x20]⟩] }, [⟨.station 14, []⟩], ⟨.all, [0x20]⟩, none, rfl, rfl,
      rfl, rfl, rfl, ?_, rfl⟩,
    ⟨{ g with attention := true }, 64, rfl, rfl, rfl, rfl, fun _ h => (by cases h), rfl, rfl, rfl⟩,
    ⟨{ g with attention := true }, 63, rfl, rfl, rfl, rfl, fun _ h => (by cases h), rfl, rfl⟩⟩
  · exact absurd h (Nat.not_lt_zero _)
  · intro y hy l h
    rw [List.mem_singleton.1 hy] at h
    obtain ⟨c, hc, _⟩ := h
    have : (g.stations.get 14).config = none := by decide
    rw [this] at hc
    cases hc

/-- The configuration of the stations of the plant. -/
theorem plant_stations (i : StationId) (c : StationConfig) (h : plant.stationConfig i = some c) :
    (i = 0 ∧ c = ⟨0, .toggle, some 0, 0, true⟩) ∨ (i = 1 ∧ c = ⟨1, .entry, none, 0, true⟩) := by
  have key : ∀ j : StationId, plant.stationConfig j = if j = 0 then some ⟨0, .toggle, some 0, 0, true⟩ else
      if j = 1 then some ⟨1, .entry, none, 0, true⟩ else none := by decide
  rw [key] at h
  split at h
  · left; exact ⟨by assumption, (Option.some.inj h).symm⟩
  · split at h
    · right; exact ⟨by assumption, (Option.some.inj h).symm⟩
    · cases h

/-- A round in the plant. -/
def round : State := onLine { g with line := .round }

theorem witness_RoundGrantsTheLowestLevelNotHeld :
    (∃ (answered : BitVec 15) (w : StationId) (c : StationConfig) (cleared : Bool) (s : State), s.tbu.supply ≠ .low
      ∧ s.glc.line = .round
      ∧ (∀ i j ci cj, s.stationConfig i = some ci → s.stationConfig j = some cj → ci.level = cj.level → i = j)
      ∧ contender s.glc answered w c
      ∧ (cleared = true ↔ ∀ i ci, contender s.glc answered i ci → (s.glc.stations.get i).state = .hold)
      ∧ (∀ i ci, contender s.glc answered i ci → cleared = true ∨ (s.glc.stations.get i).state ≠ .hold →
        c.level ≤ ci.level)
      ∧ (cleared = true ∨ (s.glc.stations.get w).state ≠ .hold))
    ∧ (∃ (answered : BitVec 15) (s : State), s.tbu.supply ≠ .low ∧ s.glc.line = .round
      ∧ ∀ i c, ¬ contender s.glc answered i c)
    ∧ (∃ s : State, s.tbu.supply = .low) ∧ (∃ s : State, s.glc.line ≠ .round) := by
  refine ⟨⟨3, 0, ⟨0, .toggle, some 0, 0, true⟩, false, round, by decide, rfl, ?_, ⟨by decide, rfl, by decide, by decide⟩, ?_,
    ?_, .inr (by decide)⟩, ⟨0, round, by decide, rfl, ?_⟩, ⟨low, rfl⟩, ⟨plant, by decide⟩⟩
  · intro i j ci cj hi hj h
    rcases plant_stations i ci hi with ⟨rfl, rfl⟩ | ⟨rfl, rfl⟩ <;>
      rcases plant_stations j cj hj with ⟨rfl, rfl⟩ | ⟨rfl, rfl⟩ <;> first | rfl | (revert h; decide)
  · constructor
    · intro h; cases h
    · intro h
      have := h 0 ⟨0, .toggle, some 0, 0, true⟩ ⟨by decide, rfl, by decide, by decide⟩
      exact absurd this (by decide)
  · intro i ci _ _
    exact Nat.zero_le _
  · intro i c h
    have := h.2.2.2
    simp [inSet] at this

/-- The current grant of the plant's station 0. -/
def granted : State := onLine { g with
  line := .grant, grant := some ⟨0, 4, 3, some 0⟩
  stations := g.stations.set 0 { station with state := .granted, timeouts := 2 } }

theorem witness_LastByteOfAGateFrame :
    (∃ (s : State) (gr : Grant) (level : Fin 15) (budget : Nat), s.glc.grant = some gr
      ∧ s.glc.sending = some (.grant level budget))
    ∧ (∃ (s : State) (gr : Grant) (level : Fin 15) (last : Bool), s.glc.grant = some gr
      ∧ s.glc.sending = some (.reply level .ok true last))
    ∧ (∃ (s : State) (level : Fin 15) (id : StationId), s.glc.sending = some (.probe level) ∧ s.glc.probed = some id)
    ∧ (∃ (s : State) (f : GateFrame), s.glc.sending = some f ∧ (f.underGrant → s.glc.grant = none)
      ∧ ((∃ level, f = .probe level) → s.glc.probed = none))
    ∧ (∃ s : State, s.glc.sending = none) :=
  ⟨⟨{ granted with glc := { granted.glc with sending := some (.grant 0 4) } }, ⟨0, 4, 3, some 0⟩, 0, 4, rfl, rfl⟩,
    ⟨{ granted with glc := { granted.glc with sending := some (.reply 0 .ok true true) } }, ⟨0, 4, 3, some 0⟩, 0, true, rfl,
      rfl⟩,
    ⟨onLine { g with sending := some (.probe 14), probed := some 14 }, 14, 14, rfl, rfl⟩,
    ⟨cold, .time 0 .invalid, rfl, fun h => h.elim, fun ⟨_, h⟩ => (by cases h)⟩, ⟨plant, rfl⟩⟩

theorem witness_PunchesAreAnsweredInsideTheGrant :
    (∃ (s : State) (gr : Grant) (c : StationConfig), s.tbu.supply ≠ .low ∧ s.glc.sending = none ∧ s.glc.grant = some gr
      ∧ s.stationConfig gr.station = some c)
    ∧ (∃ s : State, s.tbu.supply = .low) ∧ (∃ s : State, s.glc.sending ≠ none) ∧ (∃ s : State, s.glc.grant = none) :=
  ⟨⟨granted, ⟨0, 4, 3, some 0⟩, ⟨0, .toggle, some 0, 0, true⟩, by decide, rfl, rfl, by decide⟩, ⟨low, rfl⟩,
    ⟨cold, by decide⟩, ⟨plant, rfl⟩⟩

theorem witness_StatusFramesAreNotedOrAnswerAProbe :
    (∃ (s : State) (gr : Grant) (c : StationConfig), s.tbu.supply ≠ .low ∧ s.glc.sending = none ∧ s.glc.grant = some gr
      ∧ s.stationConfig gr.station = some c)
    ∧ (∃ (s : State) (id : StationId), s.tbu.supply ≠ .low ∧ s.glc.sending = none ∧ s.glc.grant = none
      ∧ s.glc.probed = some id)
    ∧ (∃ s : State, s.glc.grant = none ∧ s.glc.probed = none) :=
  ⟨⟨granted, ⟨0, 4, 3, some 0⟩, ⟨0, .toggle, some 0, 0, true⟩, by decide, rfl, rfl, by decide⟩,
    ⟨onLine { g with line := .probeWait, probed := some 14 }, 14, by decide, rfl, rfl, rfl⟩, ⟨plant, rfl, rfl⟩⟩

theorem witness_GateLineTimersAndTheAttentionWire :
    (∃ (s : State) (gr : Grant), s.tbu.supply ≠ .low ∧ s.glc.grant = some gr ∧ gr.timer.isSome = true
      ∧ (s.glc.stations.get gr.station).timeouts = 1)
    ∧ (∃ (s : State) (gr : Grant), s.tbu.supply ≠ .low ∧ s.glc.grant = some gr ∧ gr.timer.isSome = true
      ∧ (s.glc.stations.get gr.station).timeouts = 2)
    ∧ (∃ (s : State) (id : StationId), s.tbu.supply ≠ .low ∧ (s.glc.stations.get id).probeTimer.isSome = true)
    ∧ (∃ s : State, s.tbu.supply ≠ .low ∧ s.glc.line = .probeWait)
    ∧ (∃ s : State, s.tbu.supply = .low) ∧ (∃ s : State, s.glc.grant = none)
    ∧ (∃ (s : State) (gr : Grant), s.glc.grant = some gr ∧ gr.timer = none)
    ∧ (∃ s : State, s.tbu.supply ≠ .low ∧ s.glc.restTimer.isSome = true) ∧ (∃ s : State, s.glc.restTimer = none)
    ∧ (∃ (s : State) (id : StationId), (s.glc.stations.get id).probeTimer = none)
    ∧ (∃ s : State, s.glc.line ≠ .probeWait) :=
  ⟨⟨onLine { granted.glc with stations := g.stations.set 0 { station with state := .granted, timeouts := 1 } },
      ⟨0, 4, 3, some 0⟩, by decide, rfl, rfl, by decide⟩,
    ⟨granted, ⟨0, 4, 3, some 0⟩, by decide, rfl, rfl, by decide⟩,
    ⟨onLine { g with stations := g.stations.set 14 ⟨gate.config, .suspended, 0, some 0⟩ }, 14, by decide, by decide⟩,
    ⟨onLine { g with line := .probeWait, probed := some 0 }, by decide, rfl⟩, ⟨low, rfl⟩, ⟨plant, rfl⟩,
    ⟨onLine { g with grant := some ⟨0, 4, 0, none⟩ }, ⟨0, 4, 0, none⟩, rfl, rfl⟩,
    ⟨onLine { g with restTimer := some 0 }, by decide, rfl⟩, ⟨plant, rfl⟩, ⟨plant, 14, by decide⟩, ⟨plant, by decide⟩⟩

theorem plant_levelHeld : levelHeld plant 14 1 := ⟨1, ⟨1, .entry, none, 0, true⟩, by decide, by decide, rfl⟩

theorem plant_levelFree (id : StationId) : ¬ levelHeld plant id 14 := by
  rintro ⟨j, c, _, hc, h⟩
  rcases plant_stations j c hc with ⟨_, rfl⟩ | ⟨_, rfl⟩ <;> revert h <;> decide

theorem witness_StationPutReplacesTheRecord :
    (∃ (id : StationId) (c : StationConfig) (s : State), s.takes ∧ ¬ levelHeld s id c.level ∧ s.stationConfig id = none)
    ∧ (∃ (id : StationId) (c : StationConfig) (s : State), s.takes ∧ ¬ levelHeld s id c.level ∧ s.stationConfig id ≠ none)
    ∧ (∃ (id : StationId) (s : State), s.takes ∧ s.stationConfig id = none)
    ∧ (∃ (id : StationId) (s : State), s.takes ∧ s.stationConfig id ≠ none)
    ∧ (∃ (id : StationId) (c : StationConfig) (s : State), s.takes ∧ levelHeld s id c.level)
    ∧ (∃ (a : StationPutArgs) (s : State), s.takes ∧ a = ⟨14, 1, 14, 3, 254, 3, 1⟩ ∧ ¬ stationInRange a)
    ∧ (∃ (a : StationPutArgs) (s : State), s.takes ∧ a = ⟨14, 1, 14, 3, 16, 3, 1⟩ ∧ ¬ stationInRange a)
    ∧ stationInRange ⟨14, 1, 14, 3, 15, 3, 1⟩ ∧ stationInRange ⟨0, 0, 0, 0, 255, 0, 0⟩ :=
  ⟨⟨14, ⟨14, .access, some 15, 3, true⟩, plant, plant_takes, plant_levelFree 14, by decide⟩,
    ⟨0, ⟨14, .entry, none, 0, false⟩, plant, plant_takes, plant_levelFree 0, by decide⟩,
    ⟨14, plant, plant_takes, by decide⟩, ⟨1, plant, plant_takes, by decide⟩,
    ⟨14, ⟨1, .entry, none, 0, false⟩, plant, plant_takes, plant_levelHeld⟩,
    ⟨_, plant, plant_takes, rfl, by unfold stationInRange; decide⟩,
    ⟨_, plant, plant_takes, rfl, by unfold stationInRange; decide⟩, by unfold stationInRange; decide,
    by unfold stationInRange; decide⟩

theorem witness_StationGetResumeAndDisplay :
    (∃ (id : StationId) (s : State), s.takes ∧ s.stationConfig id = none)
    ∧ (∃ (id : StationId) (s : State), s.takes ∧ s.stationConfig id ≠ none ∧ (s.glc.stations.get id).state ≠ .suspended)
    ∧ (∃ (id : StationId) (s : State), s.takes ∧ s.stationConfig id ≠ none ∧ (s.glc.stations.get id).state = .suspended)
    ∧ (∃ (n : Nat) (s : State), s.takes ∧ n = 15 ∧ 15 ≤ n)
    ∧ (∃ (text : List Nat) (s : State), s.takes ∧ text = List.replicate 32 0x7E ∧ text.length ≤ 32
      ∧ (∀ c ∈ text, 0x20 ≤ c ∧ c ≤ 0x7E) ∧ s.glc.displayQueue.length = 31)
    ∧ (∃ (text : List Nat) (s : State), s.takes ∧ text = [] ∧ s.glc.displayQueue.length = 32)
    ∧ (∃ (a : DisplayArgs) (s : State), s.takes ∧ a = ⟨15, []⟩ ∧ 14 < a.target ∧ a.target ≠ 0xFE)
    ∧ (∃ (a : DisplayArgs) (s : State), s.takes ∧ a.target = 0xFE ∧ ∃ c ∈ a.text, 0x7E < c) :=
  ⟨⟨14, plant, plant_takes, by decide⟩, ⟨0, plant, plant_takes, by decide, by decide⟩,
    ⟨14, onLine { g with stations := g.stations.set 14 ⟨gate.config, .suspended, 0, some 0⟩ }, takes_of (by decide) rfl rfl,
      by decide, by decide⟩,
    ⟨15, cold, cold_takes, rfl, by decide⟩,
    ⟨_, onLine { g with displayQueue := List.replicate 31 ⟨.all, []⟩ }, takes_of (by decide) rfl rfl, rfl, by decide,
      by decide, by decide⟩,
    ⟨_, onLine { g with displayQueue := List.replicate 32 ⟨.all, []⟩ }, takes_of (by decide) rfl rfl, rfl, by decide⟩,
    ⟨_, cold, cold_takes, rfl, by decide, by decide⟩, ⟨⟨0xFE, [0x7F]⟩, cold, cold_takes, rfl, 0x7F, by decide, by decide⟩⟩

end Sys2Proof.Tests
end

