-- ==== Sys2Proof/Tests/WitnessesStaff.lean ====
section
/-!
SUPPORT. Witnesses for the statements of chapters 3 and 4: concrete states and operands that meet their hypotheses, clause
by clause.
-/

namespace Sys2Proof.Tests

open Sys2Proof Sys2Proof.Machine

/-! ### Badges -/

/-- The plant with one badge entry. -/
def withBadge (b : Badge) : State := { plant with btb := { plant.btb with entries := [b] } }

/-- The badge of the plant, IN with an open record. -/
def working : Badge := { badge with presence := .inside, record := some openRecord }

/-- The plant at the end of its badge numbers. -/
def highest : Badge := { badge with number := 16777215 }

theorem withBadge_takes (b : Badge) : (withBadge b).takes := takes_of (by decide : plant.tbu.supply ≠ .low) rfl rfl

theorem working_badgesOk : BadgesOk (withBadge working) :=
  badgesOk_single _ working rfl (by decide) (by decide) (by decide) zero_inRange (fun _ h => by cases h) rfl rfl (by decide)

theorem highest_badgesOk : BadgesOk (withBadge highest) :=
  badgesOk_single _ highest rfl (by decide) (by decide) (by decide) zero_inRange (fun _ h => by cases h) rfl rfl (by decide)

/-- The released door of the plant. -/
def releasedDoor : Door := { door with state := .released, releaseTimer := some (Config.seconds 30) }

/-- A passage of the plant's badge at its door. -/
def passage : Passage := ⟨0, 7, 0, .entry, 108000, 0, 108000, false, .unscheduled, 108000⟩

/-- The plant with a passage of its badge. -/
def passing : State :=
  { plant with
    pev := ⟨[passage], 0⟩
    btb := { plant.btb with entries := [{ badge with lastPunch := some ⟨0, 108000⟩, savedPunch := some none }] }
    drc := { plant.drc with doors := plant.drc.doors.set 0 (some releasedDoor) } }

theorem passing_takes : passing.takes := takes_of (by decide) rfl rfl

theorem passing_badgesOk : BadgesOk passing :=
  badgesOk_single _ { badge with lastPunch := some ⟨0, 108000⟩, savedPunch := some none } rfl (by decide) (by decide)
    (by decide) zero_inRange (fun _ h => by cases h) rfl rfl (by decide)

theorem passing_passagesOk : PassagesOk passing where
  ascending := rfl
  badges := by decide
  present := by intro p hp; rw [List.mem_singleton.1 hp]; decide
  saved := by intro b hb; rw [List.mem_singleton.1 hb]; decide
  released := by
    intro p hp; rw [List.mem_singleton.1 hp]
    exact ⟨releasedDoor, by decide, by decide, by decide, by decide⟩

theorem plant_passagesOk : PassagesOk plant where
  ascending := rfl
  badges := by decide
  present := fun _ h => by cases h
  saved := by intro b hb; rw [List.mem_singleton.1 hb]; decide
  released := fun _ h => by cases h

/-- A full badge table. -/
def fullTable : State :=
  { plant with btb := { plant.btb with entries := (List.range' 1 2048).map fun n => { badge with number := n } } }

theorem fullTable_takes : fullTable.takes := takes_of (by decide : plant.tbu.supply ≠ .low) rfl rfl

theorem fullTable_length : fullTable.btb.entries.length = 2048 := by
  show ((List.range' 1 2048).map _).length = 2048
  rw [List.length_map, List.length_range']

theorem fullTable_mem (b : Badge) (h : b ∈ fullTable.btb.entries) : ∃ n, 1 ≤ n ∧ n ≤ 2048 ∧ b = { badge with number := n } := by
  obtain ⟨n, hn, rfl⟩ := List.mem_map.1 h
  obtain ⟨i, hi, rfl⟩ := List.mem_range'.1 hn
  exact ⟨_, by omega, by omega, rfl⟩

theorem fullTable_badgesOk : BadgesOk fullTable where
  ascending := by decide +kernel
  capacity := by rw [fullTable_length]; decide
  numbers := by
    intro b hb; obtain ⟨n, h1, h2, rfl⟩ := fullTable_mem b hb
    exact ⟨h1, Nat.le_trans h2 (by decide)⟩
  carries := by intro b hb; obtain ⟨n, -, -, rfl⟩ := fullTable_mem b hb; show 0 < _; decide
  totals := by
    intro b hb; obtain ⟨n, -, -, rfl⟩ := fullTable_mem b hb
    exact ⟨zero_inRange, fun _ h => by cases h⟩
  closed := by intro b hb; obtain ⟨n, -, -, rfl⟩ := fullTable_mem b hb; rfl
  records := by intro b hb; obtain ⟨n, -, -, rfl⟩ := fullTable_mem b hb; rfl
  period := by decide

/-- The configuration fields of a badge. -/
def configOf (n : Nat) : BadgeConfig := ⟨n, 31, 15, 65535, ⟨true, true, false, true⟩⟩

theorem plant_others (n : Nat) (h : n ≠ 7) : ∀ b ∈ plant.btb.entries, b.number ≠ n := by
  intro b hb; rw [List.mem_singleton.1 hb]; exact fun e => h e.symm

theorem witness_BadgePutInsertsInOrderOrReplaces :
    (∃ (c : BadgeConfig) (s : State), s.takes ∧ BadgesOk s ∧ c.number = 1 ∧ (∀ b ∈ s.btb.entries, b.number ≠ c.number)
      ∧ s.btb.entries.length < 2048)
    ∧ (∃ (c : BadgeConfig) (s : State), s.takes ∧ BadgesOk s ∧ c.number = 16777215
      ∧ (∀ b ∈ s.btb.entries, b.number ≠ c.number) ∧ s.btb.entries.length < 2048)
    ∧ (∃ (c : BadgeConfig) (s : State), s.takes ∧ BadgesOk s ∧ c.number = 2049
      ∧ (∀ b ∈ s.btb.entries, b.number ≠ c.number) ∧ s.btb.entries.length = 2048)
    ∧ (∃ (c : BadgeConfig) (s : State) (b : Badge), s.takes ∧ BadgesOk s ∧ c.number = 16777215 ∧ s.btb.entries = [] ++ b :: []
      ∧ b.number = c.number ∧ ¬ replaceRefused s b c)
    ∧ (∃ (c : BadgeConfig) (s : State) (b : Badge), s.takes ∧ BadgesOk s ∧ s.btb.entries = [] ++ b :: []
      ∧ b.number = c.number ∧ replaceRefused s b c)
    ∧ (∃ (a : BadgePutArgs) (s : State), s.takes ∧ a.badge = 0)
    ∧ (∃ (a : BadgePutArgs) (s : State), s.takes ∧ a = ⟨16777215, 32, 15, 65535, 15⟩ ∧ 31 < a.crew) := by
  refine ⟨⟨configOf 1, plant, plant_takes, plant_badgesOk, rfl, plant_others 1 (by decide), by decide⟩,
    ⟨configOf 16777215, plant, plant_takes, plant_badgesOk, rfl, plant_others _ (by decide), by decide⟩,
    ⟨configOf 2049, fullTable, fullTable_takes, fullTable_badgesOk, rfl, ?_, fullTable_length⟩,
    ⟨configOf 16777215, withBadge highest, highest, withBadge_takes _, highest_badgesOk, rfl, rfl, rfl, ?_⟩,
    ⟨configOf 7, withBadge working, working, withBadge_takes _, working_badgesOk, rfl, rfl, .inl ⟨.inl ?_, .inl ?_⟩⟩,
    ⟨⟨0, 0, 0, 0, 0⟩, plant, plant_takes, rfl⟩, ⟨_, plant, plant_takes, rfl, by decide⟩⟩
  · intro b hb; obtain ⟨n, -, h, rfl⟩ := fullTable_mem b hb
    exact Nat.ne_of_lt (Nat.lt_succ_of_le h)
  · unfold replaceRefused heldFast; decide
  · decide
  · decide

theorem witness_BadgeDropGetPresenceAndConflictRead :
    (∃ (s : State) (b : Badge), s.takes ∧ BadgesOk s ∧ s.btb.entries = [] ++ b :: []
      ∧ ¬ (heldFast s b ∨ someTotal b.current ∨ ∃ t, b.closed = some t ∧ someTotal t))
    ∧ (∃ (s : State) (b : Badge), s.takes ∧ BadgesOk s ∧ s.btb.entries = [] ++ b :: [] ∧ heldFast s b)
    ∧ (∃ (s : State) (b : Badge), s.takes ∧ BadgesOk s ∧ s.btb.entries = [] ++ b :: [] ∧ someTotal b.current)
    ∧ (∃ (s : State) (b : Badge) (n : Nat), s.takes ∧ BadgesOk s ∧ s.btb.entries = [] ++ b :: [] ∧ n < b.number
      ∧ b.number = 16777215)
    ∧ (∃ (n : Nat) (s : State), s.takes ∧ n = 16777215 ∧ ∀ b ∈ s.btb.entries, b.number ≠ n)
    ∧ (∃ (n : Nat) (s : State), s.takes ∧ n = 16777215 ∧ ∀ b ∈ s.btb.entries, b.number ≤ n)
    ∧ (∃ (n : Nat) (s : State), s.takes ∧ n = 16777216 ∧ (n = 0 ∨ 16777215 < n))
    ∧ (∃ (s : State) (b : Badge) (p : Presence), s.takes ∧ BadgesOk s ∧ s.btb.entries = [] ++ b :: [] ∧ ¬ heldFast s b
      ∧ p = .unknown ∧ (p = .inside → b.flags.noPay = true))
    ∧ (∃ (s : State) (b : Badge), s.takes ∧ BadgesOk s ∧ s.btb.entries = [] ++ b :: [] ∧ ¬ heldFast s b
      ∧ b.flags.noPay = false)
    ∧ (∃ s : State, s.takes ∧ s.pev.conflictSet ≠ 0) := by
  refine ⟨⟨plant, badge, plant_takes, plant_badgesOk, rfl, ?_⟩, ⟨passing, _, passing_takes, passing_badgesOk, rfl, .inr ?_⟩,
    ⟨withBadge { badge with current := ⟨0, 0, 0, 0, 0, 0, 0, true⟩ }, _, withBadge_takes _, ?_, rfl, ?_⟩,
    ⟨withBadge highest, highest, 16777214, withBadge_takes _, highest_badgesOk, rfl, by decide, rfl⟩,
    ⟨16777215, plant, plant_takes, rfl, plant_others _ (by decide)⟩, ⟨16777215, withBadge highest, withBadge_takes _, rfl, ?_⟩,
    ⟨_, plant, plant_takes, rfl, by decide⟩, ⟨plant, badge, .unknown, plant_takes, plant_badgesOk, rfl, ?_, rfl, ?_⟩,
    ⟨plant, badge, plant_takes, plant_badgesOk, rfl, ?_, rfl⟩,
    ⟨{ plant with pev := ⟨[], 0x4001⟩ }, takes_of (by decide : plant.tbu.supply ≠ .low) rfl rfl, by decide⟩⟩
  · rintro (h | h | ⟨t, h, -⟩)
    · revert h; unfold heldFast; decide
    · revert h; unfold someTotal; decide
    · cases h
  · exact ⟨passage, List.mem_singleton.2 rfl, rfl⟩
  · exact badgesOk_single _ _ rfl (by decide) (by decide) (by decide) zero_inRange (fun _ h => by cases h) rfl rfl (by decide)
  · unfold someTotal; decide
  · intro b hb; rw [List.mem_singleton.1 hb]; decide
  · unfold heldFast; decide
  · intro h; cases h
  · unfold heldFast; decide

/-! ### Judging -/

/-- A punch at the plant's station 0. -/
def punch : Punch := ⟨0, ⟨0, .toggle, some 0, 0, true⟩, 7, 0, 108000, 108000, false, false⟩

/-- The door of a station, when it is configured. -/
def itsDoor (s : State) (c : StationConfig) : Option (DoorId × Door) :=
  c.door.bind fun d => (s.drc.doors.get d).map fun r => (d, r)

theorem itsDoor_iff (s : State) (c : StationConfig) (d : DoorId) (r : Door) :
    doorOfStation s c d r ↔ itsDoor s c = some (d, r) := by
  unfold doorOfStation itsDoor
  cases c.door with
  | none => simp
  | some x =>
    simp only [Option.some.injEq, Option.bind_some, Option.map_eq_some_iff, Prod.mk.injEq]
    constructor
    · rintro ⟨rfl, h⟩; exact ⟨r, h, rfl, rfl⟩
    · rintro ⟨r', h, rfl, rfl⟩; exact ⟨rfl, h⟩

/-- What each check refuses or holds, as a test. -/
def failsNow (s : State) (p : Punch) (b : Badge) (dir : Direction) : ReplyCode → Bool
  | .blocked => b.flags.blocked
  | .already => b.lastPunch.any fun l => decide (l.station = p.station ∧ l.time ≤ p.time
      ∧ p.time - l.time < s.olc.settings.duplicateWindow)
  | .conflict => b.lastPunch.any fun l => (s.stationConfig l.station).any fun c => decide (l.station ≠ p.station
      ∧ c.zone = p.config.zone ∧ l.time ≤ p.time ∧ p.time - l.time < s.olc.settings.conflictWindow)
  | .notPermitted => (itsDoor s p.config).any fun x => !inSet b.doors x.1
  | .lockdown => (itsDoor s p.config).any fun x => decide (x.2.mode = .lockdown)
  | .locked => (itsDoor s p.config).any fun x => decide (x.2.mode = .locked ∧ dir ≠ .exit)
  | .passback => decide (b.flags.passbackExempt = false ∧ ((dir = .entry ∧ b.presence = .inside)
      ∨ (dir = .exit ∧ b.presence = .outside) ∨ (dir = .access ∧ b.presence = .outside)))
  | .outOfWindow => decide (dir = .entry ∧ b.flags.noPay = false ∧ b.flags.anytime = false
      ∧ s.sps.matchShift b.crew (p.time / 60) = none)
  | .wait => (itsDoor s p.config).any fun x => decide (x.2.mode ≠ .free ∧ p.stale = false)
      && (s.pev.passages.any (fun q => decide (q.door = x.1))
        || decide (x.2.state = .opened ∨ x.2.state = .held ∨ x.2.state = .forced))
  | .pending => s.pev.passages.any fun q => decide (q.badge = b.number)
  | _ => false

theorem checkFails_iff (s : State) (p : Punch) (b : Badge) (dir : Direction) (code : ReplyCode) (h : code ∈ badgeChecks) :
    checkFails s p b dir code ↔ failsNow s p b dir code = true := by
  simp only [badgeChecks, List.mem_cons, List.not_mem_nil, or_false] at h
  rcases h with rfl | rfl | rfl | rfl | rfl | rfl | rfl | rfl | rfl | rfl
  · rfl
  · simp only [checkFails, failsNow, Option.any_eq_true, decide_eq_true_eq]
  · simp only [checkFails, failsNow, Option.any_eq_true, decide_eq_true_eq]
    constructor
    · rintro ⟨l, c, h1, h2, h3, h4, h5, h6⟩; exact ⟨l, h1, c, h3, h2, h4, h5, h6⟩
    · rintro ⟨l, h1, c, h3, h2, h4, h5, h6⟩; exact ⟨l, c, h1, h2, h3, h4, h5, h6⟩
  · simp only [checkFails, failsNow, Option.any_eq_true, itsDoor_iff, Prod.exists, Bool.not_eq_true']
  · simp only [checkFails, failsNow, Option.any_eq_true, itsDoor_iff, Prod.exists, decide_eq_true_eq]
  · simp only [checkFails, failsNow, Option.any_eq_true, itsDoor_iff, Prod.exists, decide_eq_true_eq]
  · simp only [checkFails, failsNow, decide_eq_true_eq]
  · simp only [checkFails, failsNow, decide_eq_true_eq]
  · simp only [checkFails, failsNow, releases, Option.any_eq_true, itsDoor_iff, Prod.exists, Bool.and_eq_true,
      Bool.or_eq_true, decide_eq_true_eq, List.any_eq_true, and_assoc]
  · simp only [checkFails, failsNow, List.any_eq_true, decide_eq_true_eq]

/-- Checks that do not fail. -/
theorem noneFails (s : State) (p : Punch) (b : Badge) (dir : Direction) (codes : List ReplyCode)
    (h1 : ∀ x ∈ codes, x ∈ badgeChecks) (h2 : codes.all (fun x => !failsNow s p b dir x) = true) :
    ∀ x ∈ codes, ¬ checkFails s p b dir x := by
  intro x hx h
  have := List.all_eq_true.1 h2 x hx
  rw [checkFails_iff s p b dir x (h1 x hx)] at h
  rw [h] at this
  cases this

/-- The hypotheses of the clause of one check. -/
def failsFirst (s : State) (p : Punch) (b : Badge) (dir : Direction) (earlier : List ReplyCode) (code : ReplyCode)
    (later : List ReplyCode) : Prop :=
  s.tbu.calendarValid = true ∧ 4 ≤ s.sparePlaces ∧ s.findBadge p.badge = some b
    ∧ directionOf p.config.mode b.presence dir ∧ badgeChecks = earlier ++ code :: later
    ∧ (∀ x ∈ earlier, ¬ checkFails s p b dir x) ∧ checkFails s p b dir code

theorem failsFirst_of (s : State) (p : Punch) (b : Badge) (dir : Direction) (n : Nat) (code : ReplyCode)
    (hn : badgeChecks = badgeChecks.take n ++ code :: badgeChecks.drop (n + 1)) (hc : code ∈ badgeChecks)
    (h1 : s.tbu.calendarValid = true) (h2 : 4 ≤ s.sparePlaces) (h3 : s.findBadge p.badge = some b)
    (h4 : directionOf p.config.mode b.presence dir)
    (h5 : (badgeChecks.take n).all (fun x => !failsNow s p b dir x) = true)
    (h6 : failsNow s p b dir code = true) :
    ∃ earlier later, failsFirst s p b dir earlier code later :=
  ⟨_, _, h1, h2, h3, h4, hn, noneFails s p b dir _ (fun _ hx => List.mem_of_mem_take hx) h5,
    (checkFails_iff s p b dir code hc).2 h6⟩

/-- The plant with its door replaced, and one badge. -/
def withDoor (r : Door) (b : Badge) : State :=
  { withBadge b with drc := { plant.drc with doors := plant.drc.doors.set 0 (some r) } }

/-- Spare places of the plant. -/
theorem plant_spare : 4 ≤ plant.sparePlaces := by decide

theorem witness_FirstFailingCheckDecidesThePunch :
    (∃ s : State, s.tbu.calendarValid = false)
    ∧ (∃ s : State, s.tbu.calendarValid = true ∧ s.sparePlaces < 4)
    ∧ (∃ (s : State) (p : Punch), s.tbu.calendarValid = true ∧ 4 ≤ s.sparePlaces ∧ s.findBadge p.badge = none)
    ∧ (∃ s b e l, failsFirst s punch b .entry e .blocked l)
    ∧ (∃ s b e l, failsFirst s punch b .entry e .already l
        ∧ ∃ x, b.lastPunch = some x ∧ punch.time - x.time = 59 ∧ s.olc.settings.duplicateWindow = 60)
    ∧ (∃ s b e l, failsFirst s punch b .entry e .conflict l
        ∧ ∃ x, b.lastPunch = some x ∧ punch.time - x.time = 19 ∧ s.olc.settings.conflictWindow = 20)
    ∧ (∃ s b e l, failsFirst s punch b .entry e .notPermitted l)
    ∧ (∃ s b e l, failsFirst s punch b .entry e .lockdown l)
    ∧ (∃ s b e l, failsFirst s punch b .entry e .locked l)
    ∧ (∃ s p b e l, failsFirst s p b .access e .passback l)
    ∧ (∃ s b e l, failsFirst s punch b .entry e .outOfWindow l)
    ∧ (∃ s b e l, failsFirst s punch b .entry e .wait l)
    ∧ (∃ s p b e l, failsFirst s p b .entry e .pending l)
    ∧ (∃ s b, s.tbu.calendarValid = true ∧ 4 ≤ s.sparePlaces ∧ s.findBadge punch.badge = some b
        ∧ directionOf punch.config.mode b.presence .entry ∧ ∀ x ∈ badgeChecks, ¬ checkFails s punch b .entry x) := by
  have entry : ∀ b : Badge, b.presence = .outside → directionOf punch.config.mode b.presence .entry := by
    intro b h; rw [h]; exact ⟨fun e => (by cases e), fun _ => rfl⟩
  refine ⟨⟨cold, rfl⟩, ⟨full, rfl, by rw [full_sparePlaces]; decide⟩,
    ⟨plant, { punch with badge := 8 }, rfl, plant_spare, by decide⟩, ?_, ?_, ?_, ?_, ?_, ?_, ?_, ?_, ?_, ?_, ?_⟩
  · let b := { badge with flags := ⟨true, true, false, false⟩ }
    exact ⟨withBadge b, b, failsFirst_of _ _ _ _ 0 _ rfl (by decide) rfl (by decide) (by decide) (entry _ rfl) rfl
      (by decide)⟩
  · let b := { badge with lastPunch := some ⟨0, 107941⟩ }
    obtain ⟨e, l, h⟩ := failsFirst_of (withBadge b) punch b .entry 1 .already rfl (by decide) rfl (by decide) (by decide)
      (entry _ rfl) (by decide) (by decide)
    exact ⟨_, _, _, _, h, _, rfl, rfl, rfl⟩
  · let b := { badge with lastPunch := some ⟨1, 107981⟩ }
    obtain ⟨e, l, h⟩ := failsFirst_of (withBadge b) punch b .entry 2 .conflict rfl (by decide) rfl (by decide) (by decide)
      (entry _ rfl) (by decide) (by decide)
    exact ⟨_, _, _, _, h, _, rfl, rfl, rfl⟩
  · let b := { badge with doors := 65534 }
    exact ⟨withBadge b, b, failsFirst_of _ _ _ _ 3 _ rfl (by decide) rfl (by decide) (by decide) (entry _ rfl) (by decide)
      (by decide)⟩
  · exact ⟨withDoor { door with mode := .lockdown } badge, badge, failsFirst_of _ _ _ _ 4 _ rfl (by decide) rfl (by decide)
      (by decide) (entry _ rfl) (by decide) (by decide)⟩
  · exact ⟨withDoor { door with mode := .locked } badge, badge, failsFirst_of _ _ _ _ 5 _ rfl (by decide) rfl (by decide)
      (by decide) (entry _ rfl) (by decide) (by decide)⟩
  · exact ⟨plant, { punch with config := ⟨0, .access, some 0, 0, true⟩ }, badge, failsFirst_of _ _ _ _ 6 _ rfl (by decide)
      rfl (by decide) (by decide) rfl (by decide) (by decide)⟩
  · let b := { badge with flags := ⟨false, false, false, false⟩, crew := 1 }
    exact ⟨withBadge b, b, failsFirst_of _ _ _ _ 7 _ rfl (by decide) rfl (by decide) (by decide) (entry _ rfl) (by decide)
      (by decide)⟩
  · exact ⟨withDoor { door with state := .opened } badge, badge, failsFirst_of _ _ _ _ 8 _ rfl (by decide) rfl (by decide)
      (by decide) (entry _ rfl) (by decide) (by decide)⟩
  · let b := { badge with lastPunch := some ⟨0, 108000⟩, savedPunch := some none }
    exact ⟨passing, { punch with station := 1, config := ⟨1, .entry, none, 1, true⟩ }, b, failsFirst_of _ _ _ _ 9 _ rfl
      (by decide) rfl (by decide) (by decide) rfl (by decide) (by decide)⟩
  · exact ⟨plant, badge, rfl, plant_spare, by decide, entry _ rfl, noneFails _ _ _ _ _ (fun _ h => h) (by decide)⟩

theorem witness_PunchesNotAcceptedOnlyReport :
    (∃ (s : State) (p : Punch), (s.judge p).code = .clockUnset)
    ∧ (∃ (s : State) (p : Punch), (s.judge p).code = .wait)
    ∧ (∃ (s : State) (p : Punch), (s.judge p).code = .already)
    ∧ (∃ (s : State) (p : Punch), (s.judge p).code = .unknownBadge ∧ p.config.mode = .toggle)
    ∧ (∃ (s : State) (p : Punch), (s.judge p).code = .unknownBadge ∧ p.config.mode ≠ .toggle)
    ∧ (∃ (s : State) (p : Punch), (s.judge p).code = .blocked)
    ∧ (∃ (s : State) (p : Punch), (s.judge p).code = .pending)
    ∧ (∃ (s : State) (p : Punch), (s.judge p).code = .conflict ∧ s.pev.conflictSet = 0)
    ∧ (∃ (s : State) (p : Punch), (s.judge p).code = .conflict ∧ s.pev.conflictSet ≠ 0) :=
  ⟨⟨cold, punch, by decide⟩, ⟨withDoor { door with state := .held } badge, punch, by decide⟩,
    ⟨passing, punch, by decide⟩, ⟨plant, { punch with badge := 8 }, by decide, rfl⟩,
    ⟨plant, { punch with badge := 8, config := ⟨0, .access, some 0, 0, true⟩ }, by decide, by decide⟩,
    ⟨withBadge { badge with flags := ⟨true, true, false, false⟩ }, punch, by decide⟩,
    ⟨passing, { punch with station := 1, config := ⟨1, .entry, none, 1, true⟩ }, by decide⟩,
    ⟨withBadge { badge with lastPunch := some ⟨1, 107981⟩ }, punch, by decide, rfl⟩,
    ⟨{ withBadge { badge with lastPunch := some ⟨1, 107981⟩ } with pev := ⟨[], 1⟩ }, punch, by decide, by decide⟩⟩

theorem witness_AcceptedPunchesReleaseTheirDoor :
    ∃ (s : State) (p : Punch) (b : Badge) (dir : Direction) (d : DoorId) (r : Door), (s.judge p).code = .ok
      ∧ s.findBadge p.badge = some b ∧ directionOf p.config.mode b.presence dir ∧ releases s p d r ∧ PassagesOk s :=
  ⟨plant, punch, badge, .entry, 0, door, by decide, by decide, ⟨fun e => (by cases e), fun _ => rfl⟩,
    ⟨⟨rfl, by decide⟩, by decide, rfl⟩, plant_passagesOk⟩

theorem witness_OtherAcceptedPunchesCommitAtOnce :
    (∃ (s : State) (p : Punch) (b : Badge) (dir : Direction), (s.judge p).code = .ok ∧ s.findBadge p.badge = some b
      ∧ directionOf p.config.mode b.presence dir ∧ (∀ d r, ¬ releases s p d r) ∧ p.stale = true)
    ∧ (∃ (s : State) (p : Punch) (b : Badge) (dir : Direction), (s.judge p).code = .ok ∧ s.findBadge p.badge = some b
      ∧ directionOf p.config.mode b.presence dir ∧ (∀ d r, ¬ releases s p d r)
      ∧ ∃ d r, doorOfStation s p.config d r ∧ r.mode = .free) := by
  refine ⟨⟨plant, { punch with stale := true }, badge, .entry, by decide, by decide,
    ⟨fun e => (by cases e), fun _ => rfl⟩, fun d r h => (by cases h.2.2), rfl⟩,
    ⟨withDoor { door with mode := .free, state := .free } badge, punch, badge, .entry, by decide, by decide,
      ⟨fun e => (by cases e), fun _ => rfl⟩, ?_, 0, { door with mode := .free, state := .free }, ⟨rfl, by decide⟩, rfl⟩⟩
  rintro d r ⟨⟨hd, hr⟩, hm, -⟩
  cases hd
  have key : (withDoor { door with mode := .free, state := .free } badge).drc.doors.get 0
    = some { door with mode := .free, state := .free } := by decide
  rw [key] at hr
  cases hr
  exact hm rfl

/-- An accepted punch of the plant's badge. -/
def accepted (dir : Direction) : Accepted :=
  ⟨7, 0, none, dir, 108000, 0, 108000, .none, 108000, ⟨false, false, false, false, false⟩⟩

theorem witness_CommitsDoTheWorkOfTheirDirection :
    (∃ (s : State) (a : Accepted) (b : Badge), BadgesOk s ∧ s.findBadge a.badge = some b ∧ a.flags.noRecord = false
      ∧ a.flags.openKept = false ∧ a.direction = .entry ∧ b.flags.noPay = false ∧ b.record = none)
    ∧ (∃ (s : State) (a : Accepted) (b : Badge), BadgesOk s ∧ s.findBadge a.badge = some b ∧ a.flags.noRecord = false
      ∧ a.flags.openKept = false ∧ a.direction = .entry ∧ (b.flags.noPay = true ∨ b.record ≠ none))
    ∧ (∃ (s : State) (a : Accepted) (b : Badge) (r : OpenRecord), BadgesOk s ∧ s.findBadge a.badge = some b
      ∧ a.flags.noRecord = false ∧ a.flags.openKept = false ∧ a.direction = .exit ∧ b.record = some r)
    ∧ (∃ (s : State) (a : Accepted) (b : Badge), BadgesOk s ∧ s.findBadge a.badge = some b ∧ a.flags.noRecord = false
      ∧ a.flags.openKept = false ∧ a.direction = .exit ∧ b.record = none)
    ∧ (∃ (s : State) (a : Accepted) (b : Badge), BadgesOk s ∧ s.findBadge a.badge = some b ∧ a.flags.noRecord = false
      ∧ a.flags.openKept = false ∧ a.direction = .access) :=
  ⟨⟨plant, accepted .entry, badge, plant_badgesOk, by decide, rfl, rfl, rfl, rfl, rfl⟩,
    ⟨withBadge working, accepted .entry, working, working_badgesOk, by decide, rfl, rfl, rfl, .inr (by decide)⟩,
    ⟨withBadge working, accepted .exit, working, openRecord, working_badgesOk, by decide, rfl, rfl, rfl, rfl⟩,
    ⟨plant, accepted .exit, badge, plant_badgesOk, by decide, rfl, rfl, rfl, rfl⟩,
    ⟨plant, accepted .access, badge, plant_badgesOk, by decide, rfl, rfl, rfl⟩⟩

theorem witness_PassagesCommitOrCancel :
    (∃ (s : State) (before after : List Passage) (p : Passage), PassagesOk s ∧ s.pev.passages = before ++ p :: after)
    ∧ (∃ (s : State) (d : DoorId), d = 15 ∧ ∀ p ∈ s.pev.passages, p.door ≠ d) := by
  refine ⟨⟨passing, [], [], passage, passing_passagesOk, rfl⟩, ⟨passing, 15, rfl, ?_⟩⟩
  intro p hp; rw [List.mem_singleton.1 hp]; decide

end Sys2Proof.Tests
end

