-- ==== Sys2Proof/Tests/WitnessesDoors.lean ====
section
/-!
SUPPORT. Witnesses for the statements of chapters 5 and 6: concrete states and operands that meet their hypotheses, clause
by clause.
-/

namespace Sys2Proof.Tests

open Sys2Proof Sys2Proof.Machine

/-! ### Doors and inputs -/

/-- The plant with one input replaced. -/
def withInput (i : InputId) (x : Input) : State :=
  { plant with drc := { plant.drc with inputs := plant.drc.inputs.set i x } }

theorem withInput_takes (i : InputId) (x : Input) : (withInput i x).takes :=
  takes_of (by decide : plant.tbu.supply ≠ .low) rfl rfl

/-- An input whose circuit has just opened. -/
def changing : Input := ⟨.activeOpen, 30, false, some 0, none, false⟩

/-- The only door of the plant. -/
theorem plant_door (d : DoorId) (r : Door) (h : plant.drc.doors.get d = some r) : d = 0 ∧ r = door := by
  have key : ∀ j : DoorId, plant.drc.doors.get j = if j = 0 then some door else none := by decide
  rw [key] at h
  split at h
  · exact ⟨by assumption, (Option.some.inj h).symm⟩
  · cases h

theorem door_ok : DoorOk door where
  free := by decide
  lockdown := by decide
  releaseTimer := by decide
  heldTimer := by decide
  turnstile := by decide
  contact := by decide
  button := by intro b h; cases h; decide

theorem withInput_doorsOk (i : InputId) (x : Input) (h : ((plant.drc.inputs.set i x).get 0).accepted = false) :
    DoorsOk (withInput i x) where
  doors := by intro d r hr; rw [(plant_door d r hr).2]; exact door_ok
  inputs := by
    intro d r hr
    obtain ⟨rfl, rfl⟩ := plant_door d r hr
    have key : plant.inputTaken 0 door.config = false := by decide
    exact key
  contacts := by
    intro d r hr hk hm
    obtain ⟨rfl, rfl⟩ := plant_door d r hr
    have : (withInput i x).accepted door.config.contact = false := h
    rw [this]
    decide
  pulse := by show plant.drc.pulseTimer.isSome = true ↔ plant.drc.alarm = .pulsing; decide

/-- The plant in BATTERY. -/
def plantBattery : State :=
  { plant with tbu := { battery.tbu with calendarValid := true }, drc := { plant.drc with sampleTimer := some 0 } }

theorem plantBattery_takes : plantBattery.takes := takes_of (by decide) rfl rfl

/-- A door that fails SAFE. -/
def safeDoor : DoorConfig := { door.config with failMode := .safe }

theorem witness_EffectiveModeIsTheFirstThatApplies :
    (∃ s : State, (s.drc.inputs.get 32).accepted = true)
    ∧ (∃ (s : State) (c : DoorConfig), (s.drc.inputs.get 32).accepted = false ∧ s.tbu.supply = .battery ∧ c.failMode = .safe)
    ∧ (∃ (s : State) (c : DoorConfig) (o : Override), (s.drc.inputs.get 32).accepted = false
      ∧ (s.tbu.supply ≠ .battery ∨ c.failMode = .secure) ∧ o = .lockdown)
    ∧ (∃ (s : State) (c : DoorConfig) (o : Override), (s.drc.inputs.get 32).accepted = false
      ∧ (s.tbu.supply ≠ .battery ∨ c.failMode = .secure) ∧ o = .holdFree)
    ∧ (∃ (s : State) (c : DoorConfig) (o : Override) (mode : StandingMode), (s.drc.inputs.get 32).accepted = false
      ∧ (s.tbu.supply ≠ .battery ∨ c.failMode = .secure) ∧ o = .normal ∧ hasScheduleMode s c mode)
    ∧ windowContains ⟨0x20, 1320, 360, .free⟩ 1320 ∧ windowContains ⟨0x20, 1320, 360, .free⟩ 1799
    ∧ ¬ windowContains ⟨0x20, 1320, 360, .free⟩ 1800 ∧ windowContains ⟨0x20, 0, 0, .free⟩ 1439
    ∧ ¬ windowContains ⟨0x20, 0, 0, .free⟩ 1440 := by
  refine ⟨⟨withInput 32 ⟨.activeOpen, 30, true, none, none, false⟩, by decide⟩, ⟨plantBattery, safeDoor, by decide, rfl, rfl⟩,
    ⟨plantBattery, door.config, .lockdown, by decide, .inr rfl, rfl⟩, ⟨plant, safeDoor, .holdFree, by decide, .inl (by decide), rfl⟩,
    ⟨cold, door.config, .normal, .card, by decide, .inr rfl, rfl, fun _ => rfl, fun _ => rfl, ?_⟩, ?_, ?_, ?_, ?_, ?_⟩
  · intro k h; exact absurd h (by decide)
  all_goals unfold windowContains; decide

theorem witness_ModeChangesMoveTheDoor :
    (∃ (s : State) (r : Door), s.drc.doors.get 0 = some r ∧ s.resolveMode r.config r.override = r.mode)
    ∧ (∃ (s : State) (r : Door), s.drc.doors.get 0 = some r ∧ s.resolveMode r.config r.override = .free ∧ r.mode ≠ .free)
    ∧ (∃ (s : State) (r : Door), s.drc.doors.get 0 = some r ∧ s.resolveMode r.config r.override ≠ r.mode ∧ r.mode = .free
      ∧ r.config.kind = .swing ∧ s.accepted r.config.contact = true)
    ∧ (∃ (s : State) (r : Door), s.drc.doors.get 0 = some r ∧ s.resolveMode r.config r.override ≠ r.mode ∧ r.mode = .free
      ∧ s.accepted r.config.contact = false)
    ∧ (∃ (s : State) (r : Door), s.drc.doors.get 0 = some r ∧ s.resolveMode r.config r.override = .lockdown
      ∧ r.mode ≠ .free ∧ r.mode ≠ .lockdown ∧ r.state = .released)
    ∧ (∃ (s : State) (r : Door), s.drc.doors.get 0 = some r ∧ s.resolveMode r.config r.override = .lockdown
      ∧ r.mode ≠ .free ∧ r.mode ≠ .lockdown ∧ r.state ≠ .released) :=
  ⟨⟨plant, door, by decide, by decide⟩,
    ⟨withDoor { door with override := .holdFree } badge, { door with override := .holdFree }, by decide, by decide, by decide⟩,
    ⟨{ withDoor { door with mode := .free, state := .free } badge with drc :=
        { (withDoor { door with mode := .free, state := .free } badge).drc with
          inputs := plant.drc.inputs.set 0 ⟨.activeOpen, 30, true, none, none, false⟩ } },
      { door with mode := .free, state := .free }, by decide, by decide, rfl, rfl, by decide⟩,
    ⟨withDoor { door with mode := .free, state := .free } badge, { door with mode := .free, state := .free }, by decide,
      by decide, rfl, by decide⟩,
    ⟨withDoor { releasedDoor with override := .lockdown } badge, { releasedDoor with override := .lockdown }, by decide,
      by decide, by decide, by decide, rfl⟩,
    ⟨withDoor { door with override := .lockdown } badge, { door with override := .lockdown }, by decide, by decide, by decide,
      by decide, by decide⟩⟩

theorem witness_InputsAreWatchedSampledAndSet :
    (∃ (i : InputId) (closed active : Bool) (s : State), i = 32 ∧ reads (s.drc.inputs.get i).activeLevel closed active
      ∧ s.tbu.supply = .mains ∧ active ≠ (s.drc.inputs.get i).accepted)
    ∧ (∃ (i : InputId) (closed active : Bool) (s : State), i = 0 ∧ reads (s.drc.inputs.get i).activeLevel closed active
      ∧ s.tbu.supply ≠ .mains)
    ∧ (∃ s : State, s.tbu.supply = .battery)
    ∧ (∃ (i : InputId) (level : ActiveLevel) (filter : Nat) (active : Bool) (s : State), s.takes ∧ filter = 10
      ∧ reads level (s.drc.inputs.get i).closed active ∧ s.tbu.supply ≠ .mains)
    ∧ (∃ (i : InputId) (level : ActiveLevel) (filter : Nat) (active : Bool) (s : State), s.takes ∧ filter = 150
      ∧ reads level (s.drc.inputs.get i).closed active ∧ s.tbu.supply = .mains
      ∧ ∀ e, (s.drc.inputs.get i).change = some e → e < Config.tensOfMs (filter / 10))
    ∧ (∃ (i : InputId) (level : ActiveLevel) (filter : Nat) (active : Bool) (s : State), s.takes ∧ filter = 20
      ∧ reads level (s.drc.inputs.get i).closed active ∧ s.tbu.supply = .mains ∧ active ≠ (s.drc.inputs.get i).accepted
      ∧ ∃ e, (s.drc.inputs.get i).change = some e ∧ e = Config.tensOfMs (filter / 10))
    ∧ (∃ (a : InputPutArgs) (s : State), s.takes ∧ a = ⟨32, 1, 155⟩ ∧ 150 < a.filterTime)
    ∧ (∃ (n : Nat) (s : State), s.takes ∧ n = 33 ∧ 32 < n) := by
  refine ⟨⟨32, false, true, plant, rfl, rfl, rfl, by decide⟩, ⟨0, false, true, plantBattery, rfl, rfl, by decide⟩,
    ⟨plantBattery, rfl⟩, ⟨0, .activeClosed, 10, true, plantBattery, plantBattery_takes, rfl, rfl, by decide⟩,
    ⟨32, .activeClosed, 150, true, plant, plant_takes, rfl, rfl, rfl, ?_⟩,
    ⟨3, .activeOpen, 20, true, withInput 3 { changing with change := some (Config.tensOfMs 2) }, withInput_takes _ _, rfl,
      rfl, rfl, by decide, _, rfl, rfl⟩, ⟨_, plant, plant_takes, rfl, by decide⟩, ⟨_, plant, plant_takes, rfl, by decide⟩⟩
  intro e h
  have key : (plant.drc.inputs.get 32).change = none := by decide
  rw [key] at h
  cases h

theorem plantBattery_doorsOk (i : InputId) (x : Input) (h : ((plant.drc.inputs.set i x).get 0).accepted = false) :
    DoorsOk { withInput i x with tbu := plantBattery.tbu } :=
  let ok := withInput_doorsOk i x h
  ⟨ok.doors, ok.inputs, ok.contacts, ok.pulse⟩

/-- The hypotheses under which an edge reaches its door hold of each kind of input: a contact, a button, an input that no
door names, and the evacuation input. -/
theorem witness_AcceptedEdgesReachTheirDoor :
    (∃ (i : InputId) (active : Bool) (s : State) (d : DoorId) (r : Door), DoorsOk s ∧ s.tbu.supply = .mains
      ∧ (s.drc.inputs.get i).change.isSome = true ∧ reads (s.drc.inputs.get i).activeLevel (s.drc.inputs.get i).closed active
      ∧ s.drc.doors.get d = some r ∧ r.config.contact = i)
    ∧ (∃ (i : InputId) (active : Bool) (s : State) (d : DoorId) (r : Door), DoorsOk s ∧ s.tbu.supply = .mains
      ∧ (s.drc.inputs.get i).change.isSome = true ∧ reads (s.drc.inputs.get i).activeLevel (s.drc.inputs.get i).closed active
      ∧ s.drc.doors.get d = some r ∧ r.config.button = some i)
    ∧ (∃ (i : InputId) (active : Bool) (s : State), DoorsOk s ∧ s.tbu.supply = .mains
      ∧ (s.drc.inputs.get i).change.isSome = true ∧ reads (s.drc.inputs.get i).activeLevel (s.drc.inputs.get i).closed active
      ∧ i = 31 ∧ ∀ d r, s.drc.doors.get d = some r → r.config.contact ≠ i ∧ r.config.button ≠ some i)
    ∧ (∃ (active : Bool) (s : State), DoorsOk s ∧ s.tbu.supply = .mains ∧ (s.drc.inputs.get 32).change.isSome = true
      ∧ reads (s.drc.inputs.get 32).activeLevel (s.drc.inputs.get 32).closed active)
    ∧ (∃ (i : InputId) (active : Bool) (s : State), i = 0 ∧ DoorsOk s ∧ s.tbu.supply = .battery
      ∧ reads (s.drc.inputs.get i).activeLevel (s.drc.inputs.get i).closed active
      ∧ (s.drc.inputs.get i).lastSample = some active ∧ (s.drc.inputs.get i).accepted ≠ active)
    ∧ (∃ (i : InputId) (active : Bool) (s : State), i = 32 ∧ DoorsOk s ∧ s.tbu.supply = .battery
      ∧ reads (s.drc.inputs.get i).activeLevel (s.drc.inputs.get i).closed active
      ∧ (s.drc.inputs.get i).lastSample ≠ some active)
    ∧ (∃ (i : InputId) (s : State), (s.drc.inputs.get i).change = none) := by
  refine ⟨⟨0, true, withInput 0 changing, 0, door, withInput_doorsOk _ _ (by decide), rfl, by decide, rfl, by decide, rfl⟩,
    ⟨16, true, withInput 16 changing, 0, door, withInput_doorsOk _ _ (by decide), rfl, by decide, rfl, by decide, rfl⟩,
    ⟨31, true, withInput 31 changing, withInput_doorsOk _ _ (by decide), rfl, by decide, rfl, rfl, ?_⟩,
    ⟨true, withInput 32 changing, withInput_doorsOk _ _ (by decide), rfl, by decide, rfl⟩,
    ⟨0, true, { withInput 0 { changing with lastSample := some true } with tbu := plantBattery.tbu }, rfl,
      plantBattery_doorsOk _ _ (by decide), rfl, rfl, by decide, by decide⟩,
    ⟨32, true, { withInput 32 changing with tbu := plantBattery.tbu }, rfl, plantBattery_doorsOk _ _ (by decide), rfl, rfl,
      by decide⟩, ⟨32, plant, by decide⟩⟩
  intro d r hr
  rw [(plant_door d r hr).2]
  decide

/-- The plant's door, open for a while. -/
def openDoor : Door := { door with state := .opened, heldTimer := some (Config.seconds 600) }

theorem witness_DoorTimersAndTheAlarmOutput :
    (∃ (s : State) (r : Door), s.tbu.supply ≠ .low ∧ s.drc.doors.get 0 = some r ∧ r.state = .released
      ∧ r.releaseTimer.isSome = true)
    ∧ (∃ (s : State) (r : Door), s.tbu.supply ≠ .low ∧ s.drc.doors.get 0 = some r ∧ r.state = .opened
      ∧ r.heldTimer.isSome = true)
    ∧ (∃ (s : State) (d : DoorId), s.drc.doors.get d = none)
    ∧ (∃ s : State, s.tbu.supply ≠ .low ∧ s.drc.pulseTimer.isSome = true) ∧ (∃ s : State, s.drc.pulseTimer = none)
    ∧ (∃ s : State, s.takes ∧ s.drc.alarm = .latched)
    ∧ (∃ s : State, s.olc.settings.alarmMode = .latched)
    ∧ (∃ s : State, s.olc.settings.alarmMode = .pulsed ∧ s.drc.alarm = .latched)
    ∧ (∃ s : State, s.olc.settings.alarmMode = .pulsed ∧ s.drc.alarm = .pulsing) :=
  ⟨⟨passing, releasedDoor, by decide, by decide, rfl, rfl⟩, ⟨withDoor openDoor badge, openDoor, by decide, by decide, rfl, rfl⟩,
    ⟨plant, 15, by decide⟩,
    ⟨{ plant with drc := { plant.drc with alarm := .pulsing, pulseTimer := some 0 } }, by decide, rfl⟩, ⟨plant, rfl⟩,
    ⟨{ plant with drc := { plant.drc with alarm := .latched } }, takes_of (by decide : plant.tbu.supply ≠ .low) rfl rfl, rfl⟩,
    ⟨{ plant with olc := { plant.olc with settings := { plant.olc.settings with alarmMode := .latched } } }, rfl⟩,
    ⟨{ plant with drc := { plant.drc with alarm := .latched } }, rfl, rfl⟩,
    ⟨{ plant with drc := { plant.drc with alarm := .pulsing, pulseTimer := some 0 } }, rfl, rfl⟩⟩

/-- Another door of the plant. -/
def turnstile : DoorConfig := ⟨.turnstile, 15, none, 1, 0, some 7, .locked, .safe, some ⟨255, 15⟩⟩

theorem notNamed (c : DoorConfig) (h1 : c.contact ≠ 0) (h2 : c.button ≠ some 16) (d : DoorId) : ¬ inputNamed plant d c := by
  rintro ⟨j, r, -, hr, h⟩
  rw [(plant_door j r hr).2] at h
  rcases h with h | ⟨-, h⟩
  · exact h1 h.symm
  · exact h2 h.symm

theorem passing_notNamed : ¬ inputNamed passing 0 door.config := by
  rintro ⟨j, r, hj, hr, -⟩
  have key : ∀ k : DoorId, k ≠ 0 → passing.drc.doors.get k = none := by decide
  rw [key j hj] at hr
  cases hr

theorem door_inRange : doorConfigInRange door.config :=
  ⟨by decide, by intro b h; cases h; decide, by decide, by decide, by decide, by intro b h; cases h; decide⟩

theorem turnstile_inRange : doorConfigInRange turnstile :=
  ⟨by decide, fun _ h => (by cases h), by decide, by decide, by decide, by intro b h; cases h; decide⟩

theorem witness_DoorPutWorksTheDoorOutAfresh :
    (∃ (d : DoorId) (c : DoorConfig) (s : State), s.takes ∧ doorConfigInRange c ∧ s.drc.doors.get d = none ∧ d = 15
      ∧ ¬ inputNamed s d c ∧ ∀ p ∈ s.pev.passages, p.door ≠ d)
    ∧ (∃ (d : DoorId) (c : DoorConfig) (s : State) (r : Door), s.takes ∧ doorConfigInRange c ∧ s.drc.doors.get d = some r
      ∧ ¬ inputNamed s d c ∧ ∃ p ∈ s.pev.passages, p.door = d)
    ∧ (∃ (d : DoorId) (c : DoorConfig) (s : State), s.takes ∧ doorConfigInRange c ∧ s.drc.doors.get d = none
      ∧ inputNamed s d c)
    ∧ (∃ (d : DoorId) (a : DoorPutArgs) (s : State), s.takes ∧ a.door = d ∧ a.configured = 0
      ∧ ∀ p ∈ s.pev.passages, p.door ≠ d)
    ∧ (∃ (d : DoorId) (a : DoorPutArgs) (s : State), s.takes ∧ a.door = d ∧ a.configured = 0
      ∧ ∃ p ∈ s.pev.passages, p.door = d)
    ∧ (∃ (a : DoorPutArgs) (s : State), s.takes ∧ a.configured = 1 ∧ a.heldLimit = 601)
    ∧ (∃ (n : Nat) (s : State), s.takes ∧ n = 16 ∧ 15 < n) :=
  ⟨⟨15, turnstile, plant, plant_takes, turnstile_inRange, by decide, rfl, notNamed _ (by decide) (by decide) _, fun _ h => (by cases h)⟩,
    ⟨0, door.config, passing, releasedDoor, passing_takes, door_inRange, by decide, passing_notNamed, passage,
      List.mem_singleton.2 rfl, rfl⟩,
    ⟨1, door.config, plant, plant_takes, door_inRange, by decide, 0, door, by decide, by decide, .inl rfl⟩,
    ⟨0, ⟨0, 0, 9, 9, 9, 9, 9, 9, 9, 9, 9, 9, 9⟩, plant, plant_takes, rfl, rfl, fun _ h => (by cases h)⟩,
    ⟨0, ⟨0, 0, 0, 0, 0, 0, 0, 0, 0, 0, 0, 0, 0⟩, passing, passing_takes, rfl, rfl, passage, List.mem_singleton.2 rfl, rfl⟩,
    ⟨⟨15, 1, 1, 15, 31, 30, 601, 7, 2, 1, 1, 255, 15⟩, plant, plant_takes, rfl, rfl⟩, ⟨_, plant, plant_takes, rfl, by decide⟩⟩

theorem witness_SchedulesAndDoorCommands :
    (∃ (k : ScheduleId) (windows : List Window) (s : State), s.takes ∧ k = 7 ∧ windows.length = 8
      ∧ ∀ w ∈ windows, w.start ≤ 1439 ∧ w.stop ≤ 1439)
    ∧ (∃ (a : SchedulePutArgs) (s : State), s.takes ∧ a.windows.length = 9)
    ∧ (∃ (a : SchedulePutArgs) (s : State), s.takes ∧ ∃ w ∈ a.windows, 1439 < w.stop)
    ∧ (∃ (s : State) (d : DoorId) (r : Door), s.takes ∧ s.drc.doors.get d = some r)
    ∧ (∃ (s : State) (d : DoorId), s.takes ∧ d = 15 ∧ s.drc.doors.get d = none)
    ∧ (∃ (s : State) (n : Nat), s.takes ∧ n = 16 ∧ 15 < n ∧ n ≠ 0xFE) :=
  ⟨⟨7, List.replicate 8 ⟨127, 1439, 0, .locked⟩, plant, plant_takes, rfl, rfl, by decide⟩,
    ⟨⟨0, List.replicate 9 ⟨0, 0, 0, 0⟩⟩, plant, plant_takes, rfl⟩,
    ⟨⟨0, [⟨0, 0, 1440, 0⟩]⟩, plant, plant_takes, _, List.mem_singleton.2 rfl, by decide⟩,
    ⟨plant, 0, door, plant_takes, by decide⟩, ⟨plant, 15, plant_takes, rfl, by decide⟩,
    ⟨plant, 16, plant_takes, rfl, by decide, by decide⟩⟩

/-! ### The shift plan -/

theorem early_inRange : early.InRange where
  times := by decide
  window := by decide
  graces := by decide
  unit := by decide
  delay := by decide
  fewBreaks := by decide
  breaks := by decide
  order := by decide

theorem rates_inRange (p : PayClass) (h : p = ⟨65535, 300, 300, 65535⟩ ∨ p = PayClass.cold ∨ p = ⟨1850, 150, 200, 300⟩) :
    p.InRange := by
  unfold PayClass.InRange
  rcases h with rfl | rfl | rfl <;> decide

theorem openRecord_fits : openRecord.Fits where
  breaks := ⟨fun _ h => (by cases h), rfl⟩
  unit := by decide
  night := by decide
  rates := rates_inRange _ (.inr (.inr rfl))
  unscheduled := fun _ => ⟨rfl, rfl, rfl⟩

/-- The plant with a full holiday list, or another. -/
def withHolidays (days : List Nat) : State := { plant with sps := { plant.sps with holidays := days } }

theorem withHolidays_takes (days : List Nat) : (withHolidays days).takes :=
  takes_of (by decide : plant.tbu.supply ≠ .low) rfl rfl

theorem withHolidays_planOk (days : List Nat) (h1 : everyTwo (fun a b => decide (a < b)) days = true)
    (h2 : days.length ≤ 32) (h3 : ∀ d ∈ days, d ≤ 36524) : PlanOk (withHolidays days) where
  shifts := by
    intro id d h
    have key : ∀ j : ShiftId, plant.sps.shifts.get j = if j = 0 then some early else none := by decide
    have h' : plant.sps.shifts.get id = some d := h
    rw [key] at h'
    split at h'
    · rw [← Option.some.inj h']; exact early_inRange
    · cases h'
  rotas := by
    intro c
    have key : ∀ j : CrewId, plant.sps.rotas.get j = if j = 0 then ⟨0, [some 0]⟩ else Rota.cold := by decide
    show (plant.sps.rotas.get c).InRange
    rw [key]
    unfold Rota.InRange
    split <;> decide
  payClasses := by
    intro c
    have key : ∀ j : ClassId, plant.sps.payClasses.get j = PayClass.cold := by decide
    show (plant.sps.payClasses.get c).InRange
    rw [key]
    exact rates_inRange _ (.inr (.inl rfl))
  holidays := h1
  fewHolidays := h2
  days := h3
  night := (by decide : plant.olc.settings.nightStart ≤ 1439 ∧ plant.olc.settings.nightEnd ≤ 1439)
  captured := fun _ h => by cases h
  records := by intro b hb; rw [List.mem_singleton.1 hb]; exact fun _ h => by cases h

theorem witness_PlanTablesAreReplacedAndRead :
    (∃ (id : ShiftId) (d : ShiftDef) (s : State), s.takes ∧ id = 63 ∧ d.InRange)
    ∧ (∃ (id : ShiftId) (a : ShiftPutArgs) (s : State), s.takes ∧ a.shift = id ∧ a.defined = 0)
    ∧ (∃ (a : ShiftPutArgs) (s : State), s.takes ∧ (63 < a.shift ∨ a.defined ≠ 0) ∧ ∀ id d, d.InRange → a ≠ shiftFields id d)
    ∧ (∃ (c : CrewId) (r : Rota) (s : State), s.takes ∧ c = 31 ∧ r.days.length = 28 ∧ r.InRange)
    ∧ (∃ (a : RotaPutArgs) (s : State), s.takes ∧ ∀ c r, r.InRange → a ≠ rotaFields c r)
    ∧ (∃ (c : ClassId) (p : PayClass) (s : State), s.takes ∧ c = 15 ∧ p.overtimeFactor = 300 ∧ p.InRange)
    ∧ (∃ (a : PayClassPutArgs) (s : State), s.takes ∧ ∀ c p, p.InRange → a ≠ payClassFields c p)
    ∧ (∃ n, 63 < n ∧ n = 64) := by
  refine ⟨⟨63, early, plant, plant_takes, rfl, early_inRange⟩,
    ⟨63, ⟨63, 0, 9999, 0, 0, 0, 0, 0, 0, 0, 0, 0, []⟩, plant, plant_takes, rfl, rfl⟩,
    ⟨⟨0, 1, 0, 961, 0, 0, 0, 0, 0, 0, 1, 0, []⟩, plant, plant_takes, .inr (by decide), ?_⟩,
    ⟨31, ⟨36524, List.replicate 28 none⟩, plant, plant_takes, rfl, rfl, by unfold Rota.InRange; decide⟩,
    ⟨⟨0, 29, 0, List.replicate 29 255⟩, plant, plant_takes, ?_⟩,
    ⟨15, ⟨65535, 300, 300, 65535⟩, plant, plant_takes, rfl, rfl, rates_inRange _ (.inl rfl)⟩,
    ⟨⟨0, 0, 99, 100, 0⟩, plant, plant_takes, ?_⟩, ⟨64, by decide, rfl⟩⟩
  · intro id d hd h
    have h1 : 961 = d.length := congrArg ShiftPutArgs.length h
    have h2 := hd.times.2.2.1
    omega
  · intro c r hr h
    have h1 : 29 = r.days.length := congrArg RotaPutArgs.cycleLength h
    have h2 := hr.2.1
    omega
  · intro c p hp h
    have h1 : 99 = p.overtimeFactor := congrArg PayClassPutArgs.overtimeFactor h
    have h2 := hp.2.1
    omega

theorem witness_HolidaysAreInsertedDroppedAndListed :
    (∃ (n : Nat) (s : State), s.takes ∧ PlanOk s ∧ n = 36524 ∧ n ∉ s.sps.holidays ∧ s.sps.holidays.length = 31)
    ∧ (∃ (n : Nat) (s : State), s.takes ∧ PlanOk s ∧ n = 0 ∧ n ∉ s.sps.holidays ∧ s.sps.holidays.length = 32)
    ∧ (∃ (n : Nat) (s : State), s.takes ∧ PlanOk s ∧ n = 32 ∧ ∃ below above, s.sps.holidays = below ++ n :: above)
    ∧ (∃ (n : Nat) (s : State), s.takes ∧ n = 36525 ∧ 36524 < n) :=
  ⟨⟨36524, withHolidays (List.range' 1 31), withHolidays_takes _, withHolidays_planOk _ (by decide) (by decide) (by decide), rfl,
      by decide, by decide⟩,
    ⟨0, withHolidays (List.range' 1 32), withHolidays_takes _, withHolidays_planOk _ (by decide) (by decide) (by decide), rfl,
      by decide, by decide⟩,
    ⟨32, withHolidays (List.range' 1 32), withHolidays_takes _, withHolidays_planOk _ (by decide) (by decide) (by decide), rfl,
      List.range' 1 31, [], by decide⟩,
    ⟨_, plant, plant_takes, rfl, by decide⟩⟩

/-- The instance of crew 0 on day 1. -/
def earlyToday : ShiftInstance :=
  ⟨0, 0, 1, 1800, 2310, [⟨1, 2040, 2070, false⟩], false, 480, 60, 5, 480, 5, 7, 15, 60⟩

theorem witness_MatchingGivesTheNearestCandidate :
    plant.sps.crewInstance 0 1 = some earlyToday
    ∧ plant.sps.matchShift 0 1740 = some earlyToday
    ∧ (plant.sps.matchShift 0 1739).map (fun i => i.day) = none
    ∧ (plant.sps.matchShift 0 2280).map (fun i => i.day) = some 1
    ∧ plant.sps.matchShift 1 1800 = none := by decide

end Sys2Proof.Tests
end

