-- ==== Sys2Proof/Tests/WitnessesPay.lean ====
section
/-!
SUPPORT. Witnesses for the statements of chapters 7 to 9 and for the conditions that every step keeps: concrete states and
operands that meet their hypotheses, clause by clause.
-/

namespace Sys2Proof.Tests

open Sys2Proof Sys2Proof.Machine

/-! ### Pay and totals -/

/-- A scheduled record. -/
def scheduledRecord : OpenRecord :=
  ⟨1806, some ⟨0, 1, 1800, 2310, 5, 5, 7⟩, 480, 15, [⟨1, 2040, 2070, false⟩], false, 1320, 360, ⟨1850, 150, 200, 300⟩, 1815,
    2370⟩

/-- A scheduled record of holiday work. -/
def holidayRecord : OpenRecord := { scheduledRecord with holiday := true }

theorem scheduledRecord_fits : scheduledRecord.Fits where
  breaks := by unfold breaksApart; decide
  unit := by decide
  night := by decide
  rates := rates_inRange _ (.inr (.inr rfl))
  unscheduled := fun h => by cases h

theorem holidayRecord_fits : holidayRecord.Fits where
  breaks := scheduledRecord_fits.breaks
  unit := by decide
  night := by decide
  rates := rates_inRange _ (.inr (.inr rfl))
  unscheduled := fun h => by cases h

theorem witness_RecordsAreBuiltAndEndByTheGraces :
    (∃ (i : ShiftInstance) (time : Nat), 0 < i.unit ∧ time / 60 = i.start + i.lateGrace)
    ∧ (∃ (i : ShiftInstance) (time : Nat), 0 < i.unit ∧ time / 60 = i.start + i.lateGrace + 1)
    ∧ (∃ r : OpenRecord, r.scheduled = none)
    ∧ (∃ (r : OpenRecord) (p : ScheduledPart) (reading : Nat), r.scheduled = some p ∧ 0 < r.unit
      ∧ reading / 60 + p.leaveGrace + 1 = p.stop)
    ∧ (∃ (r : OpenRecord) (p : ScheduledPart) (reading : Nat), r.scheduled = some p ∧ 0 < r.unit
      ∧ p.stop = reading / 60 + p.leaveGrace ∧ reading / 60 ≤ p.stop + p.overstayGrace)
    ∧ (∃ (r : OpenRecord) (p : ScheduledPart) (reading : Nat), r.scheduled = some p ∧ 0 < r.unit
      ∧ p.stop + p.overstayGrace + 1 = reading / 60) :=
  ⟨⟨earlyToday, 108300, by decide, by decide⟩, ⟨earlyToday, 108360, by decide, by decide⟩, ⟨openRecord, rfl⟩,
    ⟨scheduledRecord, _, 138240, rfl, by decide, by decide⟩, ⟨scheduledRecord, _, 138300, rfl, by decide, by decide, by decide⟩,
    ⟨scheduledRecord, _, 139080, rfl, by decide, by decide⟩⟩

theorem witness_WorkedAndNightMinutesAreCounted :
    (∃ (r : OpenRecord) (reading : Nat), r.Fits ∧ 1440 < (minutesWorked r (effectiveOut r (.outTime reading))).length)
    ∧ (∃ (r : OpenRecord) (reading : Nat), r.Fits ∧ effectiveOut r (.outTime reading) < r.effectiveIn)
    ∧ (∃ (r : OpenRecord) (reading : Nat), r.Fits ∧ (minutesWorked r (effectiveOut r (.outTime reading))).length = 465) :=
  ⟨⟨openRecord, 93600, openRecord_fits, by decide +kernel⟩, ⟨openRecord, 0, openRecord_fits, by decide⟩,
    ⟨scheduledRecord, 138600, scheduledRecord_fits, by decide +kernel⟩⟩

theorem witness_BucketsAndPayOfAClose :
    (∃ (carry : Nat) (r : OpenRecord), r.Fits ∧ carry = 5999 ∧ r.scheduled ≠ none ∧ r.holiday = true)
    ∧ (∃ (carry : Nat) (r : OpenRecord), r.Fits ∧ carry = 0 ∧ r.scheduled ≠ none ∧ r.holiday = false)
    ∧ (∃ (carry : Nat) (r : OpenRecord), r.Fits ∧ carry = 5999 ∧ r.scheduled = none)
    ∧ (∃ (r : OpenRecord) (form : CloseForm), r.Fits ∧ (computeClose 7 5999 r form).worked = 0) :=
  ⟨⟨5999, holidayRecord, holidayRecord_fits, rfl, by decide, rfl⟩, ⟨0, scheduledRecord, scheduledRecord_fits, rfl, by decide, rfl⟩,
    ⟨5999, openRecord, openRecord_fits, rfl, rfl⟩, ⟨openRecord, .outTime 0, openRecord_fits, by decide +kernel⟩⟩

/-- The plant with a badge that holds a record, and a full report store. -/
def noRoom : State := { withBadge working with rps := full.rps }

theorem noRoom_spare : noRoom.sparePlaces = 0 := by
  have h : noRoom.rps.records.length = 4096 := List.length_replicate
  unfold State.sparePlaces State.freePlaces
  rw [h]
  rfl

/-- The plant with a passage of a badge that holds a record. -/
def passingOut : State :=
  { passing with btb := { passing.btb with entries :=
      [{ working with lastPunch := some ⟨0, 108000⟩, savedPunch := some none }] } }

theorem passingOut_badgesOk : BadgesOk passingOut :=
  badgesOk_single _ { working with lastPunch := some ⟨0, 108000⟩, savedPunch := some none } rfl (by decide) (by decide)
    (by decide) zero_inRange (fun _ h => by cases h) rfl rfl (by decide)

theorem witness_ClosesAddToTheTotals :
    (∃ (s : State) (b : Badge) (r : OpenRecord), BadgesOk s ∧ s.btb.entries = [] ++ b :: [] ∧ b.record = some r)
    ∧ (∃ (s : State) (now : Nat), BadgesOk s ∧ (s.btb.entries.filter (closesAt s now)).length = 1 ∧ now = 1065)
    ∧ (∃ (s : State) (b : Badge) (r : OpenRecord) (out : Nat), s.takes ∧ BadgesOk s ∧ b ∈ s.btb.entries ∧ b.record = some r
      ∧ out = 3155759999 ∧ (∀ p ∈ s.pev.passages, p.badge ≠ b.number) ∧ 1 ≤ s.sparePlaces)
    ∧ (∃ (s : State) (b : Badge) (r : OpenRecord), s.takes ∧ BadgesOk s ∧ b ∈ s.btb.entries ∧ b.record = some r
      ∧ ∃ p ∈ s.pev.passages, p.badge = b.number)
    ∧ (∃ (s : State) (b : Badge) (r : OpenRecord), s.takes ∧ BadgesOk s ∧ b ∈ s.btb.entries ∧ b.record = some r
      ∧ (∀ p ∈ s.pev.passages, p.badge ≠ b.number) ∧ s.sparePlaces = 0)
    ∧ (∃ (s : State) (n : Nat), s.takes ∧ n = 7 ∧ ∀ b ∈ s.btb.entries, b.number = n → b.record = none)
    ∧ (∃ (s : State) (a : CloseRecordArgs), s.takes ∧ a.outTime = 3155760000 ∧ 3155759999 < a.outTime) := by
  refine ⟨⟨withBadge working, working, openRecord, working_badgesOk, rfl, rfl⟩,
    ⟨withBadge working, 1065, working_badgesOk, by decide, rfl⟩,
    ⟨withBadge working, working, openRecord, _, withBadge_takes _, working_badgesOk, List.mem_singleton.2 rfl, rfl, rfl,
      fun _ h => (by cases h), by decide⟩,
    ⟨passingOut, _, openRecord, takes_of (by decide : plant.tbu.supply ≠ .low) rfl rfl, passingOut_badgesOk,
      List.mem_singleton.2 rfl, rfl, passage, List.mem_singleton.2 rfl, rfl⟩,
    ⟨noRoom, working, openRecord, takes_of (by decide : plant.tbu.supply ≠ .low) rfl rfl, working_badgesOk.congr rfl,
      List.mem_singleton.2 rfl, rfl, fun _ h => (by cases h), noRoom_spare⟩,
    ⟨plant, 7, plant_takes, rfl, ?_⟩, ⟨plant, ⟨7, 3155760000⟩, plant_takes, rfl, by decide⟩⟩
  intro b hb _
  rw [List.mem_singleton.1 hb]
  rfl

/-- The plant with a closed block. -/
def closed : State :=
  { plant with btb := ⟨[{ badge with closed := some Totals.zero }], some 1800, 65535⟩ }

theorem closed_takes : closed.takes := takes_of (by decide : plant.tbu.supply ≠ .low) rfl rfl

theorem closed_badgesOk : BadgesOk closed :=
  badgesOk_single _ _ rfl (by decide) (by decide) (by decide) zero_inRange
    (by intro t h; cases h; exact zero_inRange) rfl rfl (by decide)

theorem witness_PeriodsAreClosedReadAndReleased :
    (∃ s : State, s.takes ∧ s.tbu.calendarValid = false)
    ∧ (∃ s : State, s.takes ∧ s.tbu.calendarValid = true ∧ s.btb.closedBlock ≠ none)
    ∧ (∃ s : State, s.takes ∧ s.tbu.calendarValid = true ∧ s.btb.closedBlock = none ∧ s.btb.period = 65535)
    ∧ (∃ (s : State) (b : Badge) (t : Totals), s.takes ∧ BadgesOk s ∧ s.btb.entries = [] ++ b :: []
      ∧ s.btb.closedBlock = some 1800 ∧ b.closed = some t)
    ∧ (∃ (s : State) (n : Nat), s.takes ∧ n = 16777215 ∧ ∀ b ∈ s.btb.entries, b.number ≠ n)
    ∧ (∃ (s : State) (n : Nat), s.takes ∧ n = 7 ∧ s.btb.closedBlock ≠ none ∧ ∀ b ∈ s.btb.entries, b.number ≤ n)
    ∧ (∃ (s : State) (a : TotalsGetArgs), s.takes ∧ a = ⟨0, 0, 0⟩) := by
  refine ⟨⟨cold, cold_takes, rfl⟩, ⟨closed, closed_takes, rfl, by decide⟩,
    ⟨{ plant with btb := { plant.btb with period := 65535 } }, takes_of (by decide : plant.tbu.supply ≠ .low) rfl rfl, rfl, rfl,
      rfl⟩,
    ⟨closed, _, _, closed_takes, closed_badgesOk, rfl, rfl, rfl⟩, ⟨plant, _, plant_takes, rfl, plant_others _ (by decide)⟩,
    ⟨closed, 7, closed_takes, rfl, by decide, ?_⟩, ⟨plant, _, plant_takes, rfl⟩⟩
  intro b hb
  rw [List.mem_singleton.1 hb]
  decide

/-! ### Bells -/

/-- A bell entry. -/
def bellEntry : BellEntry := ⟨.shift 31 (.breakEnd 2) (-60), true, 255, 15, 3, true, true, none⟩

/-- A bell entry at a fixed minute. -/
def fixedEntry : BellEntry := ⟨.fixed 1439 127, false, 1, 0, 0, false, true, none⟩

/-- The plant with one bell entry. -/
def withEntry (n : BellId) (e : BellEntry) : State :=
  { plant with blc := { plant.blc with entries := plant.blc.entries.set n (some e) } }

theorem plant_outputsOk : OutputsOk plant := fun o => by
  have key : plant.blc.outputs.get o = BellOutput.cold := Table.get_fill _ o
  rw [key]; exact OutputOk.cold _

theorem witness_BellTableAndManualRingCommands :
    (∃ (a : BellPutArgs) (n : BellId) (e : BellEntry) (s : State), s.takes ∧ carriesEntry a n e ∧ a.offset = -60
      ∧ s.blc.entries.get n = none)
    ∧ (∃ (a : BellPutArgs) (n : BellId) (e before : BellEntry) (s : State), s.takes ∧ carriesEntry a n e ∧ a.minute = 1439
      ∧ s.blc.entries.get n = some before)
    ∧ (∃ (a : BellPutArgs) (n : BellId) (s : State), s.takes ∧ a.entry = n ∧ a.defined = 0)
    ∧ (∃ (a : BellPutArgs) (s : State), s.takes ∧ (95 < a.entry ∨ a.defined ≠ 0) ∧ ∀ n e, ¬ carriesEntry a n e)
    ∧ (∃ (n : BellId) (s : State), s.takes ∧ s.blc.entries.get n ≠ none)
    ∧ (∃ (n : PatternId) (p : Pattern) (s : State), s.takes ∧ n = 15 ∧ p.steps.length = 8 ∧ patternInRange p)
    ∧ (∃ (a : PatternPutArgs) (s : State), s.takes ∧ ∀ n p, patternInRange p → a ≠ patternFields n p)
    ∧ (∃ (set : OutputSet) (s : State), s.takes ∧ OutputsOk s ∧ set = 128 ∧ set ≠ 0)
    ∧ (∃ (a : BellRingArgs) (s : State), s.takes ∧ a = ⟨255, 15, 4⟩ ∧ 3 < a.priority) := by
  refine ⟨⟨⟨95, 1, 1, 0, 0, 31, 7, -60, 1, 255, 15, 3, 1⟩, 95, bellEntry, plant, plant_takes, ?_, rfl, by decide⟩,
    ⟨⟨0, 1, 0, 1439, 127, 0, 0, 0, 0, 1, 0, 0, 0⟩, 0, fixedEntry, bellEntry, withEntry 0 bellEntry,
      takes_of (by decide : plant.tbu.supply ≠ .low) rfl rfl, ?_, rfl, by decide⟩,
    ⟨⟨95, 0, 9, 9, 9, 9, 9, 9, 9, 9, 9, 9, 9⟩, 95, plant, plant_takes, rfl, rfl⟩,
    ⟨⟨0, 1, 0, 1440, 127, 0, 0, 0, 0, 1, 0, 0, 0⟩, plant, plant_takes, .inr (by decide), ?_⟩,
    ⟨0, withEntry 0 bellEntry, takes_of (by decide : plant.tbu.supply ≠ .low) rfl rfl, by decide⟩,
    ⟨15, ⟨List.replicate 8 ⟨255, 255⟩, 15⟩, plant, plant_takes, rfl, rfl, by unfold patternInRange; decide⟩,
    ⟨⟨0, [⟨0, 1⟩], 0⟩, plant, plant_takes, ?_⟩, ⟨128, plant, plant_takes, plant_outputsOk, rfl, by decide⟩,
    ⟨_, plant, plant_takes, rfl, by decide⟩⟩
  · simp [carriesEntry, bellEntry, edgeCode]
  · simp [carriesEntry, fixedEntry]
  · intro n e h
    have h2 := h.2.2.2.2.2.2.2.2
    split at h2
    · next minute weekdays _ =>
      have h3 : 1440 = minute := h2.2.1
      have h4 := h2.2.2.1
      omega
    · exact absurd h2.1 (by decide)
  · intro n p hp h
    have h1 : [⟨0, 1⟩] = p.steps.map fun st => (⟨st.on, st.off⟩ : StepArgs) := congrArg PatternPutArgs.steps h
    obtain ⟨st, hst, h3⟩ := List.mem_map.1 (h1 ▸ List.mem_singleton.2 rfl : (⟨0, 1⟩ : StepArgs) ∈ p.steps.map _)
    have h4 : st.on = 0 := congrArg StepArgs.on h3
    have := hp.2.2 st hst
    omega

/-- The plant with one output playing, and rings that wait for it. -/
def ringing (c : CurrentRing) (waiting : List Ring) : State :=
  { plant with blc := { plant.blc with outputs := plant.blc.outputs.set 0 ⟨some c, waiting⟩ } }

theorem ringing_outputsOk (c : CurrentRing) (waiting : List Ring) (h : OutputOk .mains ⟨some c, waiting⟩) :
    OutputsOk (ringing c waiting) := fun o => by
  show OutputOk .mains ((plant.blc.outputs.set 0 ⟨some c, waiting⟩).get o)
  rw [Table.get_set]
  split
  · exact h
  · exact plant_outputsOk o

/-- A manual ring at a phase and position of a pattern of two steps. -/
def playing (phase : Phase) (position : Nat) (reps : Nat) : CurrentRing :=
  ⟨⟨.manual, 1, 0⟩, some reps, false, [⟨30, 10⟩, ⟨255, 1⟩], position, phase, 0⟩

theorem playing_ok (phase : Phase) (position reps : Nat) (h1 : 1 ≤ position) (h2 : position ≤ 2) (h3 : 1 ≤ reps) :
    OutputOk .mains ⟨some (playing phase position reps), List.replicate 4 ⟨.manual, 0, 0⟩⟩ where
  capacity := Nat.le_of_ble_eq_true rfl
  order := rfl
  idle := fun h => by cases h
  noneWaits := (by decide : ∀ w ∈ List.replicate 4 (⟨.manual, 0, 0⟩ : Ring), w.source ≠ .evacuation)
  current := by
    intro c h; cases h
    exact ⟨h1, h2, ⟨fun h => (by cases h), fun h => (by cases h)⟩, fun n h => by cases h; exact h3⟩
  low := fun h => by cases h
  battery := fun h => by cases h

theorem playing_outputsOk (phase : Phase) (position reps : Nat) (h1 : 1 ≤ position) (h2 : position ≤ 2) (h3 : 1 ≤ reps) :
    OutputsOk (ringing (playing phase position reps) (List.replicate 4 ⟨.manual, 0, 0⟩)) :=
  ringing_outputsOk _ _ (playing_ok phase position reps h1 h2 h3)

theorem ringing_current (c : CurrentRing) (waiting : List Ring) : ((ringing c waiting).blc.outputs.get 0).current = some c := by
  show ((plant.blc.outputs.set 0 ⟨some c, waiting⟩).get 0).current = some c
  rw [Table.get_set_self]

theorem witness_OutputsPlayAndServeRings :
    (∃ (c : CurrentRing) (s : State), s.tbu.supply ≠ .low ∧ OutputsOk s ∧ (s.blc.outputs.get 0).current = some c
      ∧ c.phase = .on ∧ ∃ st, c.steps[c.position - 1]? = some st)
    ∧ (∃ (c : CurrentRing) (s : State), s.tbu.supply ≠ .low ∧ OutputsOk s ∧ (s.blc.outputs.get 0).current = some c
      ∧ c.phase = .off ∧ ∃ st, c.steps[c.position]? = some st)
    ∧ (∃ (c : CurrentRing) (s : State), s.tbu.supply ≠ .low ∧ OutputsOk s ∧ (s.blc.outputs.get 0).current = some c
      ∧ c.phase = .off ∧ c.position = c.steps.length ∧ c.repsLeft = some 1)
    ∧ (∃ (c : CurrentRing) (s : State), s.tbu.supply ≠ .low ∧ OutputsOk s ∧ (s.blc.outputs.get 0).current = some c
      ∧ c.phase = .off ∧ c.position = c.steps.length ∧ c.repsLeft = some 2
      ∧ ∃ first rest, (s.blc.patterns.get c.ring.pattern).steps = first :: rest)
    ∧ (∃ (o : OutputId) (s : State), (s.blc.outputs.get o).current = none)
    ∧ (∃ (b : Blc) (supply : Supply), ∀ o, OutputOk supply (b.outputs.get o))
    ∧ (∃ (b : Blc) (c : CurrentRing), (b.outputs.get 0).current = some c ∧ c.ring.source = .evacuation)
    ∧ (∃ (b : Blc) (c : CurrentRing), (b.outputs.get 0).current = some c ∧ c.ring.source ≠ .evacuation
      ∧ c.ring.priority < 3) := by
  have h := playing_outputsOk
  refine ⟨⟨playing .on 2 1, ringing _ _, by decide, h _ _ _ (by decide) (by decide) (by decide), ringing_current _ _, rfl, _, rfl⟩,
    ⟨playing .off 1 1, ringing _ _, by decide, h _ _ _ (by decide) (by decide) (by decide), ringing_current _ _, rfl, _, rfl⟩,
    ⟨playing .off 2 1, ringing _ _, by decide, h _ _ _ (by decide) (by decide) (by decide), ringing_current _ _, rfl, rfl, rfl⟩,
    ⟨playing .off 2 2, ringing _ _, by decide, h _ _ _ (by decide) (by decide) (by decide), ringing_current _ _, rfl, rfl, rfl,
      ⟨30, 10⟩, [], by decide⟩,
    ⟨7, plant, by decide⟩, ⟨plant.blc, .mains, plant_outputsOk⟩,
    ⟨(ringing ⟨⟨.evacuation, 3, 0⟩, none, false, [⟨30, 10⟩], 1, .on, 0⟩ []).blc, _, ringing_current _ _, rfl⟩,
    ⟨(ringing (playing .on 1 1) []).blc, _, ringing_current _ _, by decide, by decide⟩⟩

theorem witness_MinuteEventsRingCloseAndResolve :
    (∃ (s : State) (e : MinuteEvent), s.tbu.supply = .low ∧ e = ⟨.natural, 1, none⟩)
    ∧ (∃ (s : State) (e : MinuteEvent), s.tbu.supply ≠ .low ∧ e = ⟨.step, 1805, some (1799, 300)⟩
      ∧ s.olc.settings.catchUpLimit = 300)
    ∧ ringsAt plant.sps { fixedEntry with trigger := .fixed 360 127 } 1800
    ∧ ¬ ringsAt plant.sps { fixedEntry with trigger := .fixed 360 127, lastRung := some 1800 } 1800 := by
  refine ⟨⟨low, _, rfl, rfl⟩, ⟨plant, _, by decide, rfl, rfl⟩, ⟨rfl, ⟨rfl, by decide, fun h => (by cases h)⟩, fun l h => (by cases h)⟩,
    fun h => absurd (h.2.2 1800 rfl) (by decide)⟩

/-! ### Conditions that every step keeps -/

theorem plant_steps : ∃ t, step plant = .next t := ⟨_, rfl⟩

theorem plant_storeOk : StoreOk plant where
  room := by decide
  inRange := by decide
  consecutive := by decide
  upToNext := by intro r h; cases h; decide
  owedOnlyWhenFull := fun h => absurd h (by decide)
  payNeverOwed := by intro r h; rw [List.mem_singleton.1 h]; intro h; cases h
  owedKinds := by
    have key : ∀ src, Owed.clear.held src = none := by
      intro src
      cases src with
      | station i => exact Table.get_fill _ i
      | door d => exact Table.get_fill _ d
      | _ => rfl
    intro src b h
    have h' : Owed.clear.held src = some b := h
    rw [key] at h'
    cases h'

theorem plant_doorsOk : DoorsOk plant :=
  (withInput_doorsOk 31 (plant.drc.inputs.get 31) (by decide)).congr (by decide)

theorem plant_doorsAndPassagesOk : DoorsAndPassagesOk plant where
  doors := plant_doorsOk
  modes := by
    intro _ d r h
    rw [(plant_door d r h).2]
    decide
  passages := plant_passagesOk

theorem plant_gateOk : GateOk plant where
  setting := by decide
  levels := by
    intro i c h
    rcases plant_stations i c h with ⟨rfl, rfl⟩ | ⟨rfl, rfl⟩ <;> decide
  unconfigured := by decide
  timeouts := by decide
  probeTimers := by decide
  granted := by
    intro i h
    exact absurd h (by revert i; decide)
  grant := fun _ h => by cases h
  line := ⟨rfl, rfl, rfl⟩
  silent := fun h => by cases h
  displays := by decide

theorem plant_linesOk : LinesOk plant where
  gate := fun _ _ _ => by decide
  office :=
    { assembly := fun _ h => by cases h
      reply := fun h => by cases h
      report := fun h => by cases h
      idle := fun _ _ h => by cases h
      low := fun h => by cases h }

theorem plant_planOk : PlanOk plant :=
  (withHolidays_planOk [] rfl (by decide) (fun _ h => by cases h)).congr rfl rfl rfl rfl

theorem witness_EveryStepKeepsTheReportStore : ∃ s t : State, StoreOk s ∧ step s = .next t :=
  ⟨plant, plant_steps.choose, plant_storeOk, plant_steps.choose_spec⟩

theorem witness_EveryStepKeepsTheBadgeTable : ∃ s t : State, BadgesOk s ∧ step s = .next t :=
  ⟨plant, plant_steps.choose, plant_badgesOk, plant_steps.choose_spec⟩

theorem witness_EveryStepKeepsDoorsAndPassages : ∃ s t : State, DoorsAndPassagesOk s ∧ step s = .next t :=
  ⟨plant, plant_steps.choose, plant_doorsAndPassagesOk, plant_steps.choose_spec⟩

theorem witness_EveryStepKeepsTheTimeBase : ∃ s t : State, TimeOk s ∧ step s = .next t :=
  ⟨plant, plant_steps.choose, plant_timeOk, plant_steps.choose_spec⟩

theorem witness_EveryStepKeepsTheGateLine : ∃ s t : State, GateOk s ∧ step s = .next t :=
  ⟨plant, plant_steps.choose, plant_gateOk, plant_steps.choose_spec⟩

theorem witness_EveryStepKeepsTheBellOutputs : ∃ s t : State, OutputsOk s ∧ step s = .next t :=
  ⟨plant, plant_steps.choose, plant_outputsOk, plant_steps.choose_spec⟩

theorem witness_EveryStepKeepsTheLinesGoing : ∃ s t : State, LinesOk s ∧ step s = .next t :=
  ⟨plant, plant_steps.choose, plant_linesOk, plant_steps.choose_spec⟩

theorem witness_EveryStepKeepsThePlanTables : ∃ s t : State, PlanOk s ∧ step s = .next t :=
  ⟨plant, plant_steps.choose, plant_planOk, plant_steps.choose_spec⟩

end Sys2Proof.Tests
end

section
/-!
PROOFS. The clock quality (R13), the gate line while a TIME frame waits (R34), and the obligation O17 on both.
-/

namespace Sys2Proof.Machine

open Sys2Proof

/-! ### The clock quality (R13) -/

/-- An invalid calendar decides the quality, whatever the time source. -/
theorem Tbu.quality_of_calendar_invalid {t : Tbu} (hcal : t.calendarValid = false) : t.quality = .invalid := by
  simp [Tbu.quality, hcal]

theorem Tbu.quality_of_holdover {t : Tbu} (hcal : t.calendarValid = true) (hsrc : t.timeSource = .holdover) :
    t.quality = .holdover := by
  simp [Tbu.quality, hcal, hsrc]

theorem Tbu.quality_of_not_holdover {t : Tbu} (hcal : t.calendarValid = true) (hsrc : t.timeSource ≠ .holdover) :
    t.quality = .valid := by
  simp [Tbu.quality, hcal, hsrc]

/-! ### The gate line with a TIME frame waiting (R34) -/

theorem Glc.sendOwn_of_timePending {g : Glc} (htime : g.timePending = true) (reading : Nat) (q : ClockQuality) :
    g.sendOwn reading q = { g with timePending := false, line := .own, sending := some (.time reading q) } := by
  unfold Glc.sendOwn Glc.send
  rw [if_pos htime]

/-- R24: a round opens on a free line only. -/
theorem Glc.mayOpenRound_of_line_ne_free {g : Glc} (hline : g.line ≠ .free) (spare : Nat) :
    g.mayOpenRound spare = false := by
  simp [Glc.mayOpenRound, hline]

/-- R34: TIME goes before every probe and message, and the line it makes the part's own opens no round. -/
theorem Glc.weigh_of_timePending {g : Glc} (hline : g.line = .free) (hidle : g.sending = none)
    (htime : g.timePending = true) (reading : Nat) (q : ClockQuality) (spare : Nat) :
    g.weigh reading q spare = { g with timePending := false, line := .own, sending := some (.time reading q) } := by
  have noRound : (g.sendOwn reading q).mayOpenRound spare = false :=
    Glc.mayOpenRound_of_line_ne_free (by simp [Glc.sendOwn_of_timePending htime]) spare
  unfold Glc.weigh
  rw [if_pos ⟨hline, hidle⟩]
  simp only [noRound, Bool.false_eq_true, if_false]
  exact Glc.sendOwn_of_timePending htime reading q

/-- Outside LOW the gate line of a settled state is the one that R24 and R34 give. -/
theorem State.settle_glc_of_not_low {s : State} (hlow : s.tbu.supply ≠ .low) : s.settle.glc = nextGate s := by
  have settled := s.settle_settled
  unfold Settled at settled
  rw [settled, if_neg hlow]

/-- The TIME frame takes the reading and the quality of the state that settles. -/
theorem State.settle_sends_time {s : State} (hlow : s.tbu.supply ≠ .low) (hline : s.glc.line = .free)
    (hidle : s.glc.sending = none) (htime : s.glc.timePending = true) :
    s.settle.glc.sending = some (.time s.tbu.calendar s.tbu.quality) := by
  rw [State.settle_glc_of_not_low hlow, nextGate, Glc.weigh_of_timePending hline hidle htime]

/-- Settles O17: the three qualities by cases on the calendar and the source, the TIME frame by what `settle` sends. -/
theorem clockQualityFollowsTheCalendarAndTheSource : Obligations.ClockQualityFollowsTheCalendarAndTheSource := by
  unfold Obligations.ClockQualityFollowsTheCalendarAndTheSource
  refine ⟨fun t => ⟨Tbu.quality_of_calendar_invalid, Tbu.quality_of_holdover, fun hcal hsrc => ?_⟩,
    fun s => State.settle_sends_time⟩
  have notHoldover : t.timeSource ≠ .holdover := by
    rcases hsrc with hcrystal | hmains
    · rw [hcrystal]; decide
    · rw [hmains]; decide
  exact Tbu.quality_of_not_holdover hcal notHoldover

end Sys2Proof.Machine
end

section
/-!
PROOFS. What a warm start and a cold start make of the Shift Plan Store (R115), the holiday list and its commands (R107),
and the obligation O42 on both.
-/

namespace Sys2Proof.Machine

open Sys2Proof

/-! ### What keeps the Shift Plan Store -/

theorem TouchesDoors.sps {s t : State} (h : TouchesDoors s t) : t.sps = s.sps := by
  obtain ⟨_, _, _, _, rfl⟩ := h
  rfl

theorem TouchesBadges.sps {s t : State} (h : TouchesBadges s t) : t.sps = s.sps := h.passages.doors.sps

@[simp] theorem State.nonPunch_sps (s : State) (src : ReportSource) (b : ReportBody) :
    (s.nonPunch src b).sps = s.sps := by
  obtain ⟨r, h⟩ := s.nonPunch_touches src b
  rw [h]; rfl

@[simp] theorem State.supplyReport_sps (s : State) (event : SupplyEvent) (before : Option TimeSource) :
    (s.supplyReport event before).sps = s.sps :=
  s.nonPunch_sps _ _

@[simp] theorem State.reportSource_sps (s : State) (before : TimeSource) : (s.reportSource before).sps = s.sps := by
  obtain ⟨r, h⟩ := s.reportSource_touches before
  rw [h]; rfl

theorem TouchesPassages.foldl_cancelPassage (l : List DoorId) (s : State) :
    TouchesPassages s (l.foldl State.cancelPassage s) := by
  induction l generalizing s with
  | nil => exact .refl s
  | cons d rest ih => exact (TouchesPassages.cancelPassage s d).trans (ih _)

@[simp] theorem State.cancelAll_sps (s : State) : s.cancelAll.sps = s.sps :=
  (TouchesPassages.foldl_cancelPassage _ s).doors.sps

@[simp] theorem State.warmBells_sps (s : State) : s.warmBells.sps = s.sps := by
  unfold State.warmBells
  split <;> rfl

@[simp] theorem State.warmBlocks_sps (s : State) : s.warmBlocks.sps = s.sps :=
  State.warmBells_sps _

@[simp] theorem State.bellMinute_sps (s : State) (e : MinuteEvent) : (s.bellMinute e).sps = s.sps := by
  unfold State.bellMinute
  split <;> rfl

theorem State.closeThenResolve_sps (s : State) (now : Nat) : (s.closeThenResolve now).sps = s.sps :=
  (TouchesDoors.resolveAll _).sps.trans (TouchesBadges.autoClose s now).sps

theorem State.resolveThenClose_sps (s : State) (now : Nat) : (s.resolveThenClose now).sps = s.sps :=
  (TouchesBadges.autoClose _ now).sps.trans (TouchesDoors.resolveAll s).sps

/-- Either order of the walk and the resolutions keeps the plan. -/
@[simp] theorem State.payAndDoors_sps (s : State) (now : Nat) : (s.payAndDoors now).sps = s.sps := by
  unfold State.payAndDoors
  split
  · exact s.closeThenResolve_sps now
  · split
    · exact s.draw.2.closeThenResolve_sps now
    · exact s.draw.2.resolveThenClose_sps now

@[simp] theorem State.minuteEvent_sps (s : State) (e : MinuteEvent) : (s.minuteEvent e).sps = s.sps := by
  unfold State.minuteEvent
  dsimp only
  split
  · rfl
  · simp

@[simp] theorem State.restartEvent_sps (s : State) : s.restartEvent.sps = s.sps := s.minuteEvent_sps _

/-- R115: the warm start of a RESET keeps the plan. -/
@[simp] theorem State.warmStart_sps (s : State) : s.warmStart.sps = s.sps := by
  simp [State.warmStart, State.clearConflicts]

/-- R115: the warm start that ends LOW keeps the plan. -/
@[simp] theorem State.warmStartFromLow_sps (s : State) : s.warmStartFromLow.sps = s.sps := by
  simp [State.warmStartFromLow, State.clearConflicts]

/-- R115: a cold start empties the plan. -/
@[simp] theorem State.coldStart_sps (s : State) : s.coldStart.sps = Sps.cold := State.warmBells_sps _

/-! ### The list in ascending order -/

/-- A list whose neighbours stand in a relation is a chain of it. -/
theorem everyTwo_iff_isChain {α : Type} (r : α → α → Bool) (l : List α) :
    everyTwo r l = true ↔ l.IsChain fun a b => r a b = true := by
  induction l with
  | nil => simp [everyTwo]
  | cons a rest ih =>
    cases rest with
    | nil => simp [everyTwo]
    | cons b rest => simp [everyTwo, ih]

theorem PlanOk.holidays_pairwise {s : State} (h : PlanOk s) : s.sps.holidays.Pairwise (· < ·) := by
  have chain := (everyTwo_iff_isChain _ _).mp h.holidays
  simp only [decide_eq_true_eq] at chain
  exact List.isChain_iff_pairwise.mp chain

@[simp] theorem Sps.isHoliday_iff (p : Sps) (day : Nat) : p.isHoliday day = true ↔ day ∈ p.holidays := by
  simp [Sps.isHoliday]

/-- A day inserted into an ascending list stands between the days before it and the days after it. -/
theorem insertDay_eq {n : Nat} {l : List Nat} (order : l.Pairwise (· < ·)) (absent : n ∉ l) :
    insertDay n l = l.filter (fun d => decide (d < n)) ++ n :: l.filter (fun d => decide (n < d)) := by
  induction l with
  | nil => rfl
  | cons e rest ih =>
    obtain ⟨above, orderRest⟩ := List.pairwise_cons.mp order
    obtain ⟨differs, absentRest⟩ := not_or.mp (mt List.mem_cons.mpr absent)
    unfold insertDay
    by_cases first : n < e
    · have noneBelow : rest.filter (fun d => decide (d < n)) = [] :=
        List.filter_eq_nil_iff.mpr fun d hd => by
          have := above d hd
          rw [decide_eq_true_eq]; omega
      have allAbove : rest.filter (fun d => decide (n < d)) = rest :=
        List.filter_eq_self.mpr fun d hd => by
          have := above d hd
          rw [decide_eq_true_eq]; omega
      simp [first, Nat.le_of_lt first, noneBelow, allAbove]
    · have after : e < n := by omega
      simp [first, after, ih orderRest absentRest]

/-- A day removed from an ascending list leaves the days before it and the days after it. -/
theorem filter_ne_of_pairwise_lt {n : Nat} {below above : List Nat}
    (order : (below ++ n :: above).Pairwise (· < ·)) :
    (below ++ n :: above).filter (fun d => d != n) = below ++ above := by
  obtain ⟨_, orderAbove, across⟩ := List.pairwise_append.mp order
  have keepsBelow : below.filter (fun d => d != n) = below :=
    List.filter_eq_self.mpr fun d hd => by
      have := across d hd n List.mem_cons_self
      rw [bne_iff_ne]; omega
  have keepsAbove : above.filter (fun d => d != n) = above :=
    List.filter_eq_self.mpr fun d hd => by
      have := List.rel_of_pairwise_cons orderAbove hd
      rw [bne_iff_ne]; omega
  simp [keepsBelow, keepsAbove]

/-! ### The answers of the commands -/

theorem withChecked_some {α : Type} (s : State) (a : α) (f : α → Answered) : withChecked s (some a) f = f a := rfl

theorem withChecked_none {α : Type} (s : State) (f : α → Answered) : withChecked s none f = denied s .badArg := rfl

theorem State.withHolidays_eq (s : State) (days : List Nat) : s.withHolidays days = holidaysSet s days := rfl

theorem checkDay_of_le {n : Nat} (h : n ≤ 36524) : checkDay n = some n := if_pos h

theorem checkDay_of_lt {n : Nat} (h : 36524 < n) : checkDay n = none := if_neg (Nat.not_le.mpr h)

/-- R107: a day number in range is held already, finds no place, or is inserted. -/
theorem actHolidayPut_of_le {n : Nat} (h : n ≤ 36524) (s : State) :
    actHolidayPut s n = if n ∈ s.sps.holidays then done s .none
      else if Config.holidayCapacity ≤ s.sps.holidays.length then denied s .tableFull
      else done (holidaysSet s (insertDay n s.sps.holidays)) .none := by
  simp only [actHolidayPut, checkDay_of_le h, withChecked_some, Sps.isHoliday_iff, State.withHolidays_eq]

theorem actHolidayPut_of_lt {n : Nat} (h : 36524 < n) (s : State) : actHolidayPut s n = denied s .badArg := by
  rw [actHolidayPut, checkDay_of_lt h, withChecked_none]

/-- R107: a day number in range is removed, or is not found. -/
theorem actHolidayDrop_of_le {n : Nat} (h : n ≤ 36524) (s : State) :
    actHolidayDrop s n = if n ∈ s.sps.holidays then
        done (holidaysSet s (s.sps.holidays.filter fun d => d != n)) .none
      else denied s .notFound := by
  simp only [actHolidayDrop, checkDay_of_le h, withChecked_some, Sps.isHoliday_iff, State.withHolidays_eq]

theorem actHolidayDrop_of_lt {n : Nat} (h : 36524 < n) (s : State) : actHolidayDrop s n = denied s .badArg := by
  rw [actHolidayDrop, checkDay_of_lt h, withChecked_none]

section Commands

variable {n : Nat} {s u : State} {r : ReplyResult} {st : Status}

theorem holidayPut_carried (takes : s.takes) (notLow : u.tbu.supply ≠ .low) (work : actHolidayPut s n = done u r) :
    Carried (.holidayPut (.fields n)) s u 0x17 r :=
  carried_of_exec takes notLow (by rw [← work]; rfl)

theorem holidayPut_refused (takes : s.takes) (work : actHolidayPut s n = denied s st) :
    Refused (.holidayPut (.fields n)) s 0x17 st :=
  refused_of_exec takes (by rw [← work]; rfl)

theorem holidayDrop_carried (takes : s.takes) (notLow : u.tbu.supply ≠ .low) (work : actHolidayDrop s n = done u r) :
    Carried (.holidayDrop (.fields n)) s u 0x18 r :=
  carried_of_exec takes notLow (by rw [← work]; rfl)

theorem holidayDrop_refused (takes : s.takes) (work : actHolidayDrop s n = denied s st) :
    Refused (.holidayDrop (.fields n)) s 0x18 st :=
  refused_of_exec takes (by rw [← work]; rfl)

theorem holidayList_carried (takes : s.takes) :
    Carried (.holidayList (.fields ())) s s 0x19 (.holidays s.sps.holidays) :=
  carried_of_exec takes takes.1 rfl

/-! ### R107, clause by clause -/

theorem holidayPut_of_mem (takes : s.takes) (inRange : n ≤ 36524) (held : n ∈ s.sps.holidays) :
    Carried (.holidayPut (.fields n)) s s 0x17 .none :=
  holidayPut_carried takes takes.1 (by rw [actHolidayPut_of_le inRange, if_pos held])

theorem holidayPut_of_full (takes : s.takes) (inRange : n ≤ 36524) (absent : n ∉ s.sps.holidays)
    (full : Config.holidayCapacity ≤ s.sps.holidays.length) : Refused (.holidayPut (.fields n)) s 0x17 .tableFull :=
  holidayPut_refused takes (by rw [actHolidayPut_of_le inRange, if_neg absent, if_pos full])

theorem holidayPut_of_room (takes : s.takes) (plan : PlanOk s) (inRange : n ≤ 36524) (absent : n ∉ s.sps.holidays)
    (room : s.sps.holidays.length < Config.holidayCapacity) :
    Carried (.holidayPut (.fields n)) s
      (holidaysSet s (s.sps.holidays.filter (fun d => decide (d < n))
        ++ n :: s.sps.holidays.filter (fun d => decide (n < d)))) 0x17 .none := by
  rw [← insertDay_eq plan.holidays_pairwise absent]
  exact holidayPut_carried takes takes.1
    (by rw [actHolidayPut_of_le inRange, if_neg absent, if_neg (Nat.not_le.mpr room)])

theorem holidayDrop_of_split (takes : s.takes) (plan : PlanOk s) (inRange : n ≤ 36524) {below above : List Nat}
    (split : s.sps.holidays = below ++ n :: above) :
    Carried (.holidayDrop (.fields n)) s (holidaysSet s (below ++ above)) 0x18 .none := by
  have held : n ∈ s.sps.holidays := by simp [split]
  have order := plan.holidays_pairwise
  rw [split] at order
  rw [← filter_ne_of_pairwise_lt order, ← split]
  exact holidayDrop_carried takes takes.1 (by rw [actHolidayDrop_of_le inRange, if_pos held])

theorem holidayDrop_of_not_mem (takes : s.takes) (inRange : n ≤ 36524) (absent : n ∉ s.sps.holidays) :
    Refused (.holidayDrop (.fields n)) s 0x18 .notFound :=
  holidayDrop_refused takes (by rw [actHolidayDrop_of_le inRange, if_neg absent])

end Commands

/-- Settles O42: each answer by the case its command's work comes to on an ascending list, the starts by what they leave
of the Shift Plan Store. -/
theorem holidaysAreInsertedDroppedAndListed : Obligations.HolidaysAreInsertedDroppedAndListed := by
  unfold Obligations.HolidaysAreInsertedDroppedAndListed
  refine ⟨fun n s takes plan inRange => ⟨holidayPut_of_mem takes inRange, holidayPut_of_full takes inRange,
      holidayPut_of_room takes plan inRange, fun _ _ => holidayDrop_of_split takes plan inRange,
      holidayDrop_of_not_mem takes inRange⟩,
    fun n s takes outOfRange => ⟨holidayPut_refused takes (actHolidayPut_of_lt outOfRange s),
      holidayDrop_refused takes (actHolidayDrop_of_lt outOfRange s)⟩,
    fun s takes plan => ⟨holidayList_carried takes, plan.holidays_pairwise, plan.fewHolidays⟩, rfl, fun s => ?_⟩
  rw [s.coldStart_sps, s.warmStart_sps, s.warmStartFromLow_sps]
  exact ⟨rfl, rfl, rfl⟩

end Sys2Proof.Machine
end

section
/-!
PROOFS. The shift a crew works on a day (R106, R108), the candidates of a match (R110), the nearest of them (R111), and
the obligation O43 on these.
-/

namespace Sys2Proof.Machine

open Sys2Proof

/-! ### The shift a crew works on a day (R106) -/

/-- R106: the rota day a crew works is the entry at the index, taken upward, of the day in the cycle. -/
theorem Rota.dayOn_eq_some_iff (r : Rota) (day : Nat) (id : ShiftId) :
    r.dayOn day = some id ↔ ∃ k : Nat, (k : Int) = ((day : Int) - r.anchor) % (r.days.length : Int)
      ∧ r.days[k]? = some (some id) := by
  rw [Rota.dayOn, Option.join_eq_some_iff]
  constructor
  · intro found
    refine ⟨_, ?_, found⟩
    obtain ⟨inCycle, _⟩ := List.getElem?_eq_some_iff.mp found
    exact Int.toNat_of_nonneg (Int.emod_nonneg _ (by omega))
  · rintro ⟨k, index, entry⟩
    rw [← index, Int.toNat_natCast]
    exact entry

@[simp] theorem absBreaks_length (start : Nat) (breaks : List Break) :
    (absBreaks start breaks).length = breaks.length := by
  simp [absBreaks]

theorem absBreaks_getElem? (start : Nat) (breaks : List Break) (n : Nat) :
    (absBreaks start breaks)[n]?
      = breaks[n]?.map fun b => ⟨n + 1, start + b.offset, start + b.offset + b.length, b.paid⟩ := by
  simp [absBreaks, Function.comp_def]

/-- R106: the breaks of a shift on a day are those of its definition, numbered from 1. -/
theorem eq_absBreaks_iff (start : Nat) (breaks : List Break) (l : List AbsBreak) :
    l = absBreaks start breaks ↔ l.length = breaks.length ∧ ∀ (n : Nat) (b : Break), breaks[n]? = some b →
      l[n]? = some ⟨n + 1, start + b.offset, start + b.offset + b.length, b.paid⟩ := by
  constructor
  · rintro rfl
    exact ⟨absBreaks_length start breaks, fun n b h => by rw [absBreaks_getElem?, h]; rfl⟩
  · rintro ⟨sameLength, rows⟩
    apply List.ext_getElem?
    intro n
    rw [absBreaks_getElem?]
    cases h : breaks[n]? with
    | none =>
      rw [List.getElem?_eq_none_iff] at h
      exact List.getElem?_eq_none_iff.mpr (by omega)
    | some b => exact rows n b h

/-- R106, R108: what a definition gives on a day, field by field. -/
theorem eq_instanceOf_iff (p : Sps) (crew : CrewId) (id : ShiftId) (d : ShiftDef) (day : Nat) (i : ShiftInstance) :
    i = instanceOf crew id d day (p.isHoliday day) ↔
      i.crew = crew ∧ i.shift = id ∧ i.day = day
      ∧ i.start = day * 1440 + d.start ∧ i.stop = day * 1440 + d.start + d.length
      ∧ i.breaks = absBreaks (day * 1440 + d.start) d.breaks
      ∧ (i.holiday = true ↔ day ∈ p.holidays)
      ∧ i.standardLength = d.standardLength ∧ i.entryLead = d.entryLead ∧ i.lateGrace = d.lateGrace
      ∧ i.latestIn = d.latestIn ∧ i.leaveGrace = d.leaveGrace ∧ i.overstayGrace = d.overstayGrace
      ∧ i.unit = d.unit ∧ i.autoCloseDelay = d.autoCloseDelay := by
  rw [← Sps.isHoliday_iff, ← Bool.eq_iff_iff]
  cases i
  simp [instanceOf]

/-- R106: the day is in the calendar, and its rota day names a defined shift. -/
theorem Sps.crewInstance_eq_some_iff (p : Sps) (crew : CrewId) (day : Nat) (i : ShiftInstance) :
    p.crewInstance crew day = some i ↔ day ≤ 36524 ∧ ∃ id d, (p.rotas.get crew).dayOn day = some id
      ∧ p.shifts.get id = some d ∧ i = instanceOf crew id d day (p.isHoliday day) := by
  unfold Sps.crewInstance
  by_cases outside : Config.lastDay < day
  · have : ¬ day ≤ 36524 := Nat.not_le.mpr outside
    simp [outside, this]
  · have : day ≤ 36524 := Nat.not_lt.mp outside
    simp [outside, this, Option.bind_eq_some_iff, @eq_comm _ i]

theorem Sps.crewInstance_iff_isInstance (p : Sps) (crew : CrewId) (day : Nat) (i : ShiftInstance) :
    p.crewInstance crew day = some i ↔ isInstance p crew day i := by
  simp only [Sps.crewInstance_eq_some_iff, isInstance, Rota.dayOn_eq_some_iff, eq_instanceOf_iff, eq_absBreaks_iff]
  constructor
  · rintro ⟨inRange, id, d, ⟨k, index, entry⟩, defined, fields⟩
    exact ⟨inRange, k, id, d, index, entry, defined, by tauto⟩
  · rintro ⟨inRange, k, id, d, index, entry, defined, fields⟩
    exact ⟨inRange, id, d, ⟨k, index, entry⟩, defined, by tauto⟩

/-! ### The candidates of a match (R110) -/

/-- The candidate days are the neighbours of the minute's day; day 0 has none before it. -/
theorem mem_nearDays_iff (day minute : Nat) : day ∈ nearDays minute ↔ nearTo day minute := by
  unfold nearDays nearTo dayOf
  dsimp only
  split
  · simp; omega
  · simp; omega

theorem ShiftInstance.window_iff (i : ShiftInstance) (t : Nat) :
    i.window t = true ↔ i.start ≤ t + i.entryLead ∧ t ≤ i.start + i.latestIn := by
  simp [ShiftInstance.window]

theorem mem_candidates_iff (p : Sps) (crew : CrewId) (t : Nat) (i : ShiftInstance) :
    i ∈ (p.nearInstances crew t).filter (fun i => i.window t) ↔ candidate p crew t i := by
  simp only [Sps.nearInstances, candidate, List.mem_filter, List.mem_filterMap, ShiftInstance.window_iff,
    mem_nearDays_iff, Sps.crewInstance_iff_isInstance]

/-! ### The nearest of a list (R111) -/

theorem ShiftInstance.distance_eq (i : ShiftInstance) (t : Nat) : i.distance t = startDistance i t := by
  unfold ShiftInstance.distance startDistance
  split <;> omega

/-- R111: `i` is at a smaller distance from the minute than `j`, or at the same distance and no later. -/
def ShiftInstance.NoFarther (t : Nat) (i j : ShiftInstance) : Prop :=
  startDistance i t < startDistance j t ∨ (startDistance i t = startDistance j t ∧ i.start ≤ j.start)

theorem ShiftInstance.NoFarther.refl (t : Nat) (i : ShiftInstance) : i.NoFarther t i := .inr ⟨rfl, le_rfl⟩

theorem ShiftInstance.NoFarther.trans {t : Nat} {i j k : ShiftInstance} (h : NoFarther t i j) (h' : NoFarther t j k) :
    NoFarther t i k := by
  unfold NoFarther at *
  omega

theorem ShiftInstance.nearer_iff (t : Nat) (i j : ShiftInstance) :
    nearer t i j = true ↔ startDistance i t < startDistance j t
      ∨ (startDistance i t = startDistance j t ∧ i.start < j.start) := by
  simp [nearer, ShiftInstance.distance_eq]

/-- What goes before another is no farther than it. -/
theorem ShiftInstance.noFarther_of_nearer {t : Nat} {i j : ShiftInstance} (h : nearer t i j = true) :
    NoFarther t i j := by
  rw [nearer_iff] at h
  unfold NoFarther
  omega

/-- Of two, the one that does not go before the other leaves the other no farther. -/
theorem ShiftInstance.noFarther_of_not_nearer {t : Nat} {i j : ShiftInstance} (h : ¬ nearer t i j = true) :
    NoFarther t j i := by
  rw [nearer_iff] at h
  unfold NoFarther
  omega

theorem nearest_eq_none_iff (t : Nat) (l : List ShiftInstance) : nearest t l = none ↔ l = [] := by
  cases l with
  | nil => simp [nearest]
  | cons i rest =>
    unfold nearest
    split
    · simp
    · split <;> simp

/-- R111: the result is one of the list, and none of the list goes before it. -/
theorem nearest_spec {t : Nat} {l : List ShiftInstance} {i : ShiftInstance} (h : nearest t l = some i) :
    i ∈ l ∧ ∀ j ∈ l, i.NoFarther t j := by
  induction l generalizing i with
  | nil => cases h
  | cons first rest ih =>
    unfold nearest at h
    split at h
    case h_1 noBest =>
      rw [nearest_eq_none_iff] at noBest
      cases h
      simp [noBest, ShiftInstance.NoFarther.refl]
    case h_2 best found =>
      obtain ⟨inRest, least⟩ := ih found
      split at h
      case isTrue ahead =>
        cases h
        exact ⟨List.mem_cons_of_mem _ inRest,
          List.forall_mem_cons.mpr ⟨ShiftInstance.noFarther_of_nearer ahead, least⟩⟩
      case isFalse behind =>
        cases h
        have firstLeast := ShiftInstance.noFarther_of_not_nearer behind
        exact ⟨List.mem_cons_self, List.forall_mem_cons.mpr ⟨.refl t _, fun j hj => firstLeast.trans (least j hj)⟩⟩

/-! ### The match -/

theorem Sps.matchShift_eq_none_iff (p : Sps) (crew : CrewId) (t : Nat) :
    p.matchShift crew t = none ↔ ∀ i, ¬ candidate p crew t i := by
  rw [Sps.matchShift, nearest_eq_none_iff, List.eq_nil_iff_forall_not_mem]
  simp only [mem_candidates_iff]

theorem Sps.matchShift_spec {p : Sps} {crew : CrewId} {t : Nat} {i : ShiftInstance}
    (h : p.matchShift crew t = some i) :
    candidate p crew t i ∧ ∀ j, candidate p crew t j → i.NoFarther t j := by
  obtain ⟨member, least⟩ := nearest_spec h
  exact ⟨(mem_candidates_iff p crew t i).mp member, fun j hj => least j ((mem_candidates_iff p crew t j).mpr hj)⟩

/-- Settles O43: the shift on a day by the fields its definition gives, the match by the candidates and the nearest of them. -/
theorem matchingGivesTheNearestCandidate : Obligations.MatchingGivesTheNearestCandidate := by
  unfold Obligations.MatchingGivesTheNearestCandidate
  exact ⟨Sps.crewInstance_iff_isInstance, fun p crew t =>
    ⟨p.matchShift_eq_none_iff crew t, fun _ => Sps.matchShift_spec⟩⟩

end Sys2Proof.Machine
end

section
/-!
PROOFS. The buckets of the worked minutes (R127), the pay value and its bound (R128), the pay in whole cents and the new
carry (R129), and the obligation O46 on these.
-/

namespace Sys2Proof.Machine

open Sys2Proof

/-! ### The buckets (R127) -/

theorem buckets_of_unscheduled {r : OpenRecord} (unscheduled : r.scheduled = none) (w : Nat) :
    buckets r w = (0, w, 0) := by
  simp [buckets, unscheduled]

theorem buckets_of_holiday {r : OpenRecord} (scheduled : r.scheduled ≠ none) (holiday : r.holiday = true) (w : Nat) :
    buckets r w = (0, 0, w) := by
  obtain ⟨p, hp⟩ := Option.ne_none_iff_exists'.mp scheduled
  simp [buckets, hp, holiday]

theorem buckets_of_workday {r : OpenRecord} (scheduled : r.scheduled ≠ none) (workday : r.holiday = false) (w : Nat) :
    buckets r w = (min w r.standardLength, w - min w r.standardLength, 0) := by
  obtain ⟨p, hp⟩ := Option.ne_none_iff_exists'.mp scheduled
  simp [buckets, hp, workday]

/-- R127: no worked minute is lost or counted twice. -/
theorem buckets_sum (r : OpenRecord) (w : Nat) : (buckets r w).1 + (buckets r w).2.1 + (buckets r w).2.2 = w := by
  by_cases unscheduled : r.scheduled = none
  · simp [buckets_of_unscheduled unscheduled]
  · cases holiday : r.holiday with
    | true => simp [buckets_of_holiday unscheduled holiday]
    | false =>
      rw [buckets_of_workday unscheduled holiday]
      exact Nat.add_sub_of_le (Nat.min_le_left w r.standardLength)

/-! ### The pay value (R128) -/

theorem payValue_of_no_minutes (rates : PayClass) (carry : Nat) : payValue rates 0 0 0 0 carry = carry := by
  simp [payValue]

/-- R109, R128: a minute in a bucket gives at most 65,535 × 300, a night minute at most 65,535 × 100 more. -/
theorem payValue_le {rates : PayClass} (inRange : rates.InRange) (regular overtime holiday night carry : Nat) :
    payValue rates regular overtime holiday night carry
      ≤ (regular + overtime + holiday) * (65535 * 300) + night * (65535 * 100) + carry := by
  obtain ⟨base, -, overtimeFactor, -, holidayFactor, nightAdder⟩ := inRange
  calc payValue rates regular overtime holiday night carry
      ≤ regular * 65535 * 300 + overtime * 65535 * 300 + holiday * 65535 * 300 + night * 65535 * 100 + carry := by
        unfold payValue
        gcongr
        norm_num
    _ = (regular + overtime + holiday) * (65535 * 300) + night * (65535 * 100) + carry := by ring

/-! ### The closed record -/

/-- R128: the pay value of the minutes of a closed record. -/
def ClosedRecord.value (c : ClosedRecord) (rates : PayClass) (carry : Nat) : Nat :=
  payValue rates c.regular c.overtime c.holiday c.night carry

section Close

variable {badge carry : Nat} {r : OpenRecord} {form : CloseForm} {c : ClosedRecord}
  (close : c = computeClose badge carry r form)

include close

theorem computeClose_buckets : (c.regular, c.overtime, c.holiday) = buckets r c.worked := by
  rw [close]
  rfl

theorem computeClose_holidayFlag : c.holidayFlag = r.holiday := by
  rw [close]
  rfl

theorem computeClose_pay : c.pay = c.value r.rates carry / 6000 := by
  rw [close]
  rfl

theorem computeClose_carry : c.carry = c.value r.rates carry % 6000 := by
  rw [close]
  rfl

/-- R125: the cap on the worked minutes. -/
theorem computeClose_worked_le : c.worked ≤ 1440 := by
  rw [close]
  exact Nat.min_le_right _ _

/-- R126: the night minutes are capped at the worked minutes. -/
theorem computeClose_night_le_worked : c.night ≤ c.worked := by
  rw [close]
  exact Nat.min_le_right _ _

theorem computeClose_buckets_sum : c.regular + c.overtime + c.holiday = c.worked := by
  have sum := buckets_sum r c.worked
  rwa [← computeClose_buckets close] at sum

theorem computeClose_of_holiday (scheduled : r.scheduled ≠ none) (holiday : r.holiday = true) :
    c.regular = 0 ∧ c.overtime = 0 ∧ c.holiday = c.worked := by
  simpa using (computeClose_buckets close).trans (buckets_of_holiday scheduled holiday _)

theorem computeClose_of_workday (scheduled : r.scheduled ≠ none) (workday : r.holiday = false) :
    c.regular = min c.worked r.standardLength ∧ c.overtime = c.worked - c.regular ∧ c.holiday = 0 := by
  obtain ⟨regular, overtime, holiday⟩ := by
    simpa only [Prod.mk.injEq] using (computeClose_buckets close).trans (buckets_of_workday scheduled workday _)
  exact ⟨regular, by rw [overtime, regular], holiday⟩

theorem computeClose_of_unscheduled (unscheduled : r.scheduled = none) :
    c.regular = 0 ∧ c.overtime = c.worked ∧ c.holiday = 0 := by
  simpa using (computeClose_buckets close).trans (buckets_of_unscheduled unscheduled _)

/-- R118, R127: a record with the holiday flag is scheduled, so its work is holiday work alone. -/
theorem computeClose_of_holidayFlag (fits : r.Fits) (flag : c.holidayFlag = true) :
    c.regular = 0 ∧ c.overtime = 0 := by
  rw [computeClose_holidayFlag close] at flag
  have scheduled : r.scheduled ≠ none := fun unscheduled => by
    obtain ⟨-, noHoliday, -⟩ := fits.unscheduled unscheduled
    rw [noHoliday] at flag
    cases flag
  obtain ⟨regular, overtime, -⟩ := computeClose_of_holiday close scheduled flag
  exact ⟨regular, overtime⟩

/-- R129: the largest pay value of a close is 1,440 × 65,535 × 400 + 5,999. -/
theorem computeClose_value_le (fits : r.Fits) (small : carry ≤ 5999) : c.value r.rates carry ≤ 37748165999 := by
  have bound := payValue_le fits.rates c.regular c.overtime c.holiday c.night carry
  have capped := computeClose_worked_le close
  have night := computeClose_night_le_worked close
  rw [computeClose_buckets_sum close] at bound
  unfold ClosedRecord.value
  omega

/-- R129: without worked minutes only the carry is left of the pay value. -/
theorem computeClose_value_of_no_work (noWork : c.worked = 0) : c.value r.rates carry = carry := by
  have sum := computeClose_buckets_sum close
  have night := computeClose_night_le_worked close
  rw [noWork] at sum night
  obtain ⟨⟨regular, overtime⟩, holiday⟩ := by simpa only [Nat.add_eq_zero_iff] using sum
  rw [ClosedRecord.value, regular, overtime, holiday, Nat.le_zero.mp night, payValue_of_no_minutes]

end Close

theorem Badge.afterClose_carry (b : Badge) (c : ClosedRecord) (cause : CloseCause) :
    (b.afterClose c cause).carry = c.carry := rfl

/-- Settles O46: the buckets by the kind of the record; the pay and the carry as quotient and remainder of a pay value that
the caps on the minutes and the ranges of the rates bound. -/
theorem bucketsAndPayOfAClose : Obligations.BucketsAndPayOfAClose := by
  unfold Obligations.BucketsAndPayOfAClose
  intro badge carry r form c fits small close
  have pay := computeClose_pay close
  have newCarry := computeClose_carry close
  have bound := computeClose_value_le close fits small
  refine ⟨computeClose_of_holiday close, computeClose_of_workday close, computeClose_of_unscheduled close,
    computeClose_buckets_sum close, computeClose_night_le_worked close, computeClose_worked_le close,
    computeClose_of_holidayFlag close fits,
    ⟨c.value r.rates carry, rfl, bound, by omega, by omega, by omega, by omega⟩,
    by omega, by omega, fun noWork => ?_, fun b cause => b.afterClose_carry c cause⟩
  have value := computeClose_value_of_no_work close noWork
  omega

end Sys2Proof.Machine
end

section
/-!
PROOFS. What one step can do, said once: the work of each management command (R176), every effect a command or an event can
have, and that a step is one of these effects or a crystal tick. The conditions of Safety.lean are proved from these lists.
-/

namespace Sys2Proof.Machine

open Sys2Proof

/-! ### The work of a management command -/

/-- What the owning block gives for a management command (R176); an event has no work, and is answered by nobody. -/
def commandWork (s : State) : Instr → Answered
  | .setTime p => withFields s p (actSetTime s)
  | .stationPut p => withFields s p (actStationPut s)
  | .stationGet p => withFields s p (actStationGet s)
  | .stationResume p => withFields s p (actStationResume s)
  | .display p => withFields s p (actDisplay s)
  | .badgePut p => withFields s p (actBadgePut s)
  | .badgeDrop p => withFields s p (actBadgeDrop s)
  | .badgeGet p => withFields s p (actBadgeGet s)
  | .presenceSet p => withFields s p (actPresenceSet s)
  | .conflictRead p => withFields s p (actConflictRead s)
  | .inputPut p => withFields s p (actInputPut s)
  | .inputGet p => withFields s p (actInputGet s)
  | .doorPut p => withFields s p (actDoorPut s)
  | .doorGet p => withFields s p (actDoorGet s)
  | .schedulePut p => withFields s p (actSchedulePut s)
  | .scheduleGet p => withFields s p (actScheduleGet s)
  | .doorCommandLockdown p => withFields s p (actDoorCommandLockdown s)
  | .doorCommandHoldFree p => withFields s p (actDoorCommandHoldFree s)
  | .doorCommandNormal p => withFields s p (actDoorCommandNormal s)
  | .releaseOnce p => withFields s p (actReleaseOnce s)
  | .alarmClear p => withFields s p (actAlarmClear s)
  | .shiftPut p => withFields s p (actShiftPut s)
  | .shiftGet p => withFields s p (actShiftGet s)
  | .rotaPut p => withFields s p (actRotaPut s)
  | .rotaGet p => withFields s p (actRotaGet s)
  | .holidayPut p => withFields s p (actHolidayPut s)
  | .holidayDrop p => withFields s p (actHolidayDrop s)
  | .holidayList p => withFields s p (actHolidayList s)
  | .payclassPut p => withFields s p (actPayclassPut s)
  | .payclassGet p => withFields s p (actPayclassGet s)
  | .closeRecord p => withFields s p (actCloseRecord s)
  | .closePeriod p => withFields s p (actClosePeriod s)
  | .totalsGet p => withFields s p (actTotalsGet s)
  | .releaseClosed p => withFields s p (actReleaseClosed s)
  | .bellPut p => withFields s p (actBellPut s)
  | .bellGet p => withFields s p (actBellGet s)
  | .bellDrop p => withFields s p (actBellDrop s)
  | .patternPut p => withFields s p (actPatternPut s)
  | .patternGet p => withFields s p (actPatternGet s)
  | .bellRing p => withFields s p (actBellRing s)
  | .bellStop p => withFields s p (actBellStop s)
  | .pause p => withFields s p (actPause s)
  | .resume p => withFields s p (actResume s)
  | .settingsPut p => withFields s p (actSettingsPut s)
  | .settingsGet p => withFields s p (actSettingsGet s)
  | .status p => withFields s p (actStatus s)
  | .ident p => withFields s p (actIdent s)
  | .reset p => withFields s p (actReset s)
  | _ => denied s .unknownKind

/-- R175, R176: a complete command is received, and its reply follows from its work. -/
theorem exec_eq_receive {c : Instr} {kind : Nat} (command : commandKind c = some kind) (s : State) :
    exec c s = .next (s.receive c ((commandWork s c).reply kind)) := by
  cases c <;> cases command <;> rfl

/-- R176: the same reply follows when the command waited. -/
theorem takeCommand_eq_reply {c : Instr} {kind : Nat} (command : commandKind c = some kind) (s : State) :
    s.takeCommand c = (commandWork s c).reply kind := by
  cases c <;> cases command <;> rfl

theorem takeCommand_of_event {c : Instr} (event : commandKind c = none) (s : State) : s.takeCommand c = s := by
  cases c <;> cases event <;> rfl

/-! ### The ranges that the checks give -/

theorem toFin?_eq_some {n k : Nat} {i : Fin n} (h : toFin? n k = some i) : k = i.val := by
  unfold toFin? at h
  split at h
  · cases h; rfl
  · cases h

theorem toFin?_val {n : Nat} (i : Fin n) : toFin? n i.val = some i := by simp [toFin?]

theorem toFin?_eq_none_iff {n k : Nat} : toFin? n k = none ↔ n ≤ k := by simp [toFin?]

theorem badgeNumber?_eq_some_iff {n m : Nat} :
    badgeNumber? n = some m ↔ n = m ∧ 1 ≤ n ∧ n ≤ Config.maxBadgeNumber := by
  unfold badgeNumber?
  split
  · simp_all
  · next outside => simp; rintro rfl low; exact Nat.lt_of_not_le fun high => outside ⟨low, high⟩

/-- 3.2: the days of a year before a month, and of the month itself, are at most those of the year. -/
theorem daysToMonth_add_daysInMonth_le (year : Nat) {month : Nat} (first : 1 ≤ month) (last : month ≤ 12) :
    daysToMonth year month + daysInMonth year month ≤ if leapYear year then 366 else 365 := by
  unfold daysToMonth daysInMonth
  cases leapYear year <;> interval_cases month <;> decide

/-- 3.2: the years up to any year of the range, itself included, are within the days of the range. -/
theorem daysToYear_add_le {year : Nat} (first : 2000 ≤ year) (last : year ≤ 2099) :
    daysToYear year + (if leapYear year then 366 else 365) ≤ Config.lastDay + 1 := by
  interval_cases year <;> decide

/-- R10: a reading of a date and time in range is a calendar reading. -/
theorem checkSetTime_le {a : SetTimeArgs} {reading : Nat} (h : checkSetTime a = some reading) :
    reading ≤ Config.lastReading := by
  unfold checkSetTime at h
  split at h
  · next inRange =>
    obtain ⟨y1, y2, m1, m2, d1, d2, hour, minute, second⟩ := inRange
    have month := daysToMonth_add_daysInMonth_le a.year m1 m2
    have year := daysToYear_add_le y1 y2
    cases h
    unfold readingOf Config.lastReading
    unfold Config.lastDay at year
    omega
  · cases h

/-! ### The effects of the management commands -/

/-- What a command of the Shift Plan Store makes of the plan, with the ranges it has checked (R103 to R109). -/
inductive PlanPut (p : Sps) : Sps → Prop
  | shift {id : ShiftId} {d : Option ShiftDef} (range : ∀ x, d = some x → x.InRange) :
      PlanPut p { p with shifts := p.shifts.set id d }
  | rota {crew : CrewId} {r : Rota} (range : r.InRange) : PlanPut p { p with rotas := p.rotas.set crew r }
  | holiday {d : Nat} (range : d ≤ Config.lastDay) (absent : d ∉ p.holidays)
      (room : p.holidays.length < Config.holidayCapacity) :
      PlanPut p { p with holidays := insertDay d p.holidays }
  | noHoliday {d : Nat} : PlanPut p { p with holidays := p.holidays.filter fun e => e != d }
  | payClass {c : ClassId} {r : PayClass} (range : r.InRange) :
      PlanPut p { p with payClasses := p.payClasses.set c r }

/-- What the work of a management command makes of the state, with the checks that it has passed (R176). -/
inductive CommandEffect (s : State) : State → Prop
  | nothing : CommandEffect s s
  | setTime {reading : Nat} (range : reading ≤ Config.lastReading) :
      CommandEffect s (s.withTbu { s.tbu with pendingTime := some reading })
  | putStation {id : StationId} {configured : Bool} {c : StationConfig}
      (level : configured = true → s.glc.levelTaken id c.level = false) :
      CommandEffect s (s.withGlc (s.glc.putStation id configured c))
  | resumeStation {id : StationId} (configured : (s.glc.stations.get id).config.isSome = true)
      (suspended : (s.glc.stations.get id).state = .suspended) :
      CommandEffect s (s.resumeStation id (s.glc.stations.get id))
  | display {m : DisplayMessage} (room : s.glc.displayQueue.length < Config.displayCapacity) :
      CommandEffect s (s.withGlc { s.glc with displayQueue := s.glc.displayQueue ++ [m] })
  | replaceBadge {c : BadgeConfig} {b : Badge} (found : s.findBadge c.number = some b)
      (free : s.replaceBusy b c = false) : CommandEffect s (s.updateBadge c.number fun e => e.reconfigure c)
  | insertBadge {c : BadgeConfig} (absent : s.findBadge c.number = none)
      (room : s.btb.entries.length < Config.badgeCapacity)
      (range : 1 ≤ c.number ∧ c.number ≤ Config.maxBadgeNumber) :
      CommandEffect s (s.withBtb { s.btb with
        entries := Machine.insertBadge (newBadge c s.btb.closedBlock.isSome) s.btb.entries })
  | removeBadge {n : Nat} {b : Badge} (found : s.findBadge n = some b) (free : s.dropBusy b = false) :
      CommandEffect s (s.removeBadge n)
  | setPresence {n : Nat} {b : Badge} {p : Presence} (found : s.findBadge n = some b) (free : s.tied b = false)
      (allowed : ¬(p = .inside ∧ b.flags.noPay = false)) :
      CommandEffect s (s.updateBadge n fun e => { e with presence := p })
  | clearConflicts : CommandEffect s s.clearConflicts
  | putInput {i : InputId} {level : ActiveLevel} {filter : Nat} : CommandEffect s (s.putInput i level filter)
  | removeDoor {d : DoorId} (free : s.passageAt d = none) : CommandEffect s (s.setDoor d none)
  | putDoor {d : DoorId} {c : DoorConfig} (taken : s.inputTaken d c = false) (free : s.passageAt d = none)
      (contact : c.contact.val < 16) (button : ∀ b, c.button = some b → 16 ≤ b.val ∧ b.val < 32) :
      CommandEffect s (s.putDoor d c)
  | putSchedule {k : ScheduleId} {windows : List Window} : CommandEffect s (s.putSchedule k windows)
  | overrideDoors {o : Override} {doors : List DoorId} : CommandEffect s (doors.foldl (State.setOverride o) s)
  | pressButtons {doors : List DoorId} : CommandEffect s (doors.foldl State.pressButton s)
  | clearAlarm : CommandEffect s (s.withDrc { s.drc with alarm := .off, pulseTimer := none })
  | putPlan {p : Sps} (put : PlanPut s.sps p) : CommandEffect s (s.withSps p)
  | closeRecord {n outTime : Nat} {b : Badge} {r : OpenRecord} (found : s.findBadge n = some b)
      (record : b.record = some r) (free : s.passageOf n = none) (room : 1 ≤ s.sparePlaces) :
      CommandEffect s (s.closeRecord b r .manual (.outTime outTime))
  | closePeriod : CommandEffect s s.closePeriod
  | releaseClosed : CommandEffect s s.releaseClosed
  | putEntry {n : BellId} {e : Option BellEntry} : CommandEffect s (s.setEntry n e)
  | putPattern {n : PatternId} {p : Pattern} :
      CommandEffect s (s.withBlc { s.blc with patterns := s.blc.patterns.set n p })
  | ring {outputs : OutputSet} {r : Ring} (manual : r.source = .manual) :
      CommandEffect s (s.withBlc (s.blc.requestAll s.onBattery outputs r))
  | stopOutputs {outputs : OutputSet} : CommandEffect s (s.withBlc (s.blc.stopOutputs outputs))
  | setPause {p : Bool} : CommandEffect s (s.withPause p)
  | putSettings {set : Settings} {f : Frequency} {src : Source} {trim : Int}
      (budget : 1 ≤ set.burstBudget ∧ set.burstBudget ≤ 4) (night : set.nightStart ≤ 1439 ∧ set.nightEnd ≤ 1439)
      (range : -999 ≤ trim ∧ trim ≤ 999) : CommandEffect s (s.putSettings set f src trim)
  | reset : CommandEffect s s.warmStart

section CommandEffects

variable {s : State}

/-- A malformed payload is refused, and changes nothing. -/
theorem CommandEffect.withFields {α : Type} {p : Payload α} {f : α → Answered}
    (work : ∀ a, CommandEffect s (f a).state) : CommandEffect s (withFields s p f).state := by
  cases p with
  | malformed => exact .nothing
  | fields a => exact work a

/-- A field out of range is refused, and changes nothing. -/
theorem CommandEffect.withChecked {α : Type} {checked : Option α} {f : α → Answered}
    (work : ∀ a, checked = some a → CommandEffect s (f a).state) : CommandEffect s (withChecked s checked f).state := by
  cases checked with
  | none => exact .nothing
  | some a => exact work a rfl

theorem actStationPut_effect (a : StationPutArgs) : CommandEffect s (actStationPut s a).state := by
  refine .withChecked fun ⟨id, configured, c⟩ _ => ?_
  dsimp only
  split
  · exact .nothing
  · next notTaken => exact .putStation fun h => by simpa [h] using notTaken

theorem actStationResume_effect (station : Nat) : CommandEffect s (actStationResume s station).state := by
  refine .withChecked fun id _ => ?_
  dsimp only
  split
  · exact .nothing
  · next configured =>
    split
    · next suspended => exact .resumeStation (by simpa [Option.isSome_iff_ne_none] using configured) suspended
    · exact .nothing

theorem actDisplay_effect (a : DisplayArgs) : CommandEffect s (actDisplay s a).state := by
  refine .withChecked fun m _ => ?_
  split
  · exact .nothing
  · next room => exact .display (Nat.lt_of_not_le room)

theorem checkBadgePut_range {a : BadgePutArgs} {c : BadgeConfig} (h : checkBadgePut a = some c) :
    1 ≤ c.number ∧ c.number ≤ Config.maxBadgeNumber := by
  simp only [checkBadgePut, Option.bind_eq_bind, Option.bind_eq_some_iff] at h
  obtain ⟨number, numberOk, crew, -, payClass, -, flags, -, h⟩ := h
  split at h
  · cases h
    obtain ⟨rfl, range⟩ := badgeNumber?_eq_some_iff.mp numberOk
    exact range
  · cases h

theorem actBadgePut_effect (a : BadgePutArgs) : CommandEffect s (actBadgePut s a).state := by
  refine .withChecked fun c range => ?_
  unfold State.putBadge
  split
  · next b found =>
    split
    · exact .nothing
    · next free => exact .replaceBadge found (by simpa using free)
  · next absent =>
    split
    · exact .nothing
    · next room => exact .insertBadge absent (Nat.lt_of_not_le room) (checkBadgePut_range range)

theorem actBadgeDrop_effect (badge : Nat) : CommandEffect s (actBadgeDrop s badge).state := by
  refine .withChecked fun n _ => ?_
  split
  · exact .nothing
  · next b found =>
    split
    · exact .nothing
    · next free => exact .removeBadge found (by simpa using free)

theorem actBadgeGet_effect (a : BadgeGetArgs) : CommandEffect s (actBadgeGet s a).state := by
  refine .withChecked fun ⟨sel, n⟩ _ => ?_
  dsimp only
  split
  · exact .nothing
  · exact .nothing

theorem actPresenceSet_effect (a : PresenceSetArgs) : CommandEffect s (actPresenceSet s a).state := by
  refine .withChecked fun ⟨n, p⟩ _ => ?_
  dsimp only
  unfold State.putPresence
  split
  · exact .nothing
  · next b found =>
    split
    · exact .nothing
    · next free =>
      split
      · exact .nothing
      · next allowed => exact .setPresence found (by simpa using free) allowed

theorem checkDoorPut_ranges {a : DoorPutArgs} {d : DoorId} {c : DoorConfig} (h : checkDoorPut a = some (d, some c)) :
    c.contact.val < 16 ∧ ∀ b, c.button = some b → 16 ≤ b.val ∧ b.val < 32 := by
  unfold checkDoorPut at h
  simp only [Option.bind_eq_bind, Option.bind_eq_some_iff] at h
  obtain ⟨_, -, configured, -, h⟩ := h
  split at h
  · simp only [Option.bind_eq_some_iff] at h
    obtain ⟨kind, -, contact, contactOk, button, buttonOk, _, -, _, -, _, -, _, -, h⟩ := h
    split at h
    · cases h
      refine ⟨?_, fun b named => ?_⟩
      · unfold contactInput? at contactOk
        split at contactOk
        · next small => rw [toFin?_eq_some contactOk] at small; exact small
        · cases contactOk
      · dsimp only at named
        subst named
        unfold buttonInput? at buttonOk
        split at buttonOk
        · cases buttonOk
        · split at buttonOk
          · next range =>
            obtain ⟨i, found, same⟩ := Option.map_eq_some_iff.mp buttonOk
            cases same
            rwa [toFin?_eq_some found] at range
          · cases buttonOk
    · cases h
  · cases h

theorem actDoorPut_effect (a : DoorPutArgs) : CommandEffect s (actDoorPut s a).state := by
  refine .withChecked fun ⟨d, config⟩ range => ?_
  cases config with
  | none =>
    dsimp only
    split
    · exact .nothing
    · next free => exact .removeDoor (by simpa using free)
  | some c =>
    obtain ⟨contact, button⟩ := checkDoorPut_ranges range
    dsimp only
    split
    · exact .nothing
    · next notTaken =>
      split
      · exact .nothing
      · next free => exact .putDoor (by simpa using notTaken) (by simpa using free) contact button

/-- R87: a command to doors refuses, or acts on each door of a list. -/
theorem doorCommand_effect (target : Nat) (act : State → DoorId → State)
    (work : ∀ doors : List DoorId, CommandEffect s (doors.foldl act s)) :
    CommandEffect s (s.doorCommand target act).state := by
  refine .withChecked fun t _ => ?_
  split
  · exact .nothing
  · exact work _

theorem breaksInOrder_eq_everyTwo (breaks : List Break) : breaksInOrder breaks
    = everyTwo (fun a b => decide (a.offset < b.offset ∧ a.offset + a.length ≤ b.offset)) breaks := by
  induction breaks with
  | nil => rfl
  | cons a rest ih =>
    cases rest with
    | nil => rfl
    | cons b rest => simp [breaksInOrder, everyTwo, ih]

theorem checkBreak_range {a : BreakArgs} {b : Break} (h : checkBreak a = some b) :
    b.offset ≤ 959 ∧ 1 ≤ b.length ∧ b.length ≤ 120 := by
  simp only [checkBreak, Option.bind_eq_bind, Option.bind_eq_some_iff] at h
  obtain ⟨paid, -, h⟩ := h
  split at h
  · next range => cases h; exact range
  · cases h

theorem mem_of_mapM {α β : Type} {f : α → Option β} {l : List α} {l' : List β} (h : l.mapM f = some l') {b : β}
    (mem : b ∈ l') : ∃ a ∈ l, f a = some b := by
  induction l generalizing l' with
  | nil => cases h; cases mem
  | cons a rest ih =>
    simp only [List.mapM_cons, Option.bind_eq_bind, Option.bind_eq_some_iff] at h
    obtain ⟨b', first, l'', others, same⟩ := h
    cases same
    rcases List.mem_cons.mp mem with rfl | later
    · exact ⟨a, List.mem_cons_self, first⟩
    · obtain ⟨a', inRest, image⟩ := ih others later
      exact ⟨a', List.mem_cons_of_mem a inRest, image⟩

theorem length_of_mapM {α β : Type} {f : α → Option β} {l : List α} {l' : List β} (h : l.mapM f = some l') :
    l'.length = l.length := by
  induction l generalizing l' with
  | nil => cases h; rfl
  | cons a rest ih =>
    simp only [List.mapM_cons, Option.bind_eq_bind, Option.bind_eq_some_iff] at h
    obtain ⟨b', -, l'', others, same⟩ := h
    cases same
    simp [ih others]

theorem checkShiftPut_range {a : ShiftPutArgs} {id : ShiftId} {d : ShiftDef}
    (h : checkShiftPut a = some (id, some d)) : d.InRange := by
  unfold checkShiftPut at h
  simp only [Option.bind_eq_bind, Option.bind_eq_some_iff] at h
  obtain ⟨_, -, defined, -, h⟩ := h
  split at h
  · simp only [Option.bind_eq_some_iff] at h
    obtain ⟨breaks, breaksOk, h⟩ := h
    split at h
    · next range =>
      cases h
      obtain ⟨start, length1, length2, standard, lead, late, latest, leave, overstay, unit, delay, few, inside, order⟩ :=
        range
      exact {
        times := ⟨start, length1, length2, standard⟩
        window := ⟨lead, latest⟩
        graces := ⟨late, leave, overstay⟩
        unit := unit
        delay := delay
        fewBreaks := few
        breaks := fun b mem => by
          obtain ⟨_, -, checked⟩ := mem_of_mapM breaksOk mem
          obtain ⟨offset, short, long⟩ := checkBreak_range checked
          exact ⟨offset, short, long, by simpa using List.all_eq_true.mp inside b mem⟩
        order := by rw [← breaksInOrder_eq_everyTwo]; exact order }
    · cases h
  · cases h

theorem actShiftPut_effect (a : ShiftPutArgs) : CommandEffect s (actShiftPut s a).state := by
  refine .withChecked fun ⟨id, d⟩ range => .putPlan (.shift fun x same => ?_)
  rw [same] at range
  exact checkShiftPut_range range

theorem checkRotaPut_range {a : RotaPutArgs} {crew : CrewId} {r : Rota} (h : checkRotaPut a = some (crew, r)) :
    r.InRange := by
  simp only [checkRotaPut, Option.bind_eq_bind, Option.bind_eq_some_iff] at h
  obtain ⟨_, -, days, daysOk, h⟩ := h
  split at h
  · next range =>
    cases h
    obtain ⟨few, many, anchor, length⟩ := range
    have same := length_of_mapM daysOk
    exact ⟨by dsimp only; omega, by dsimp only; omega, anchor⟩
  · cases h

theorem actRotaPut_effect (a : RotaPutArgs) : CommandEffect s (actRotaPut s a).state :=
  .withChecked fun ⟨_, _⟩ range => .putPlan (.rota (checkRotaPut_range range))

theorem actHolidayPut_effect (day : Nat) : CommandEffect s (actHolidayPut s day).state := by
  refine .withChecked fun d range => ?_
  split
  · exact .nothing
  · next absent =>
    split
    · exact .nothing
    · next room =>
      have le : d ≤ Config.lastDay := by
        unfold checkDay at range
        split at range
        · cases range; assumption
        · cases range
      exact .putPlan (.holiday le (by simpa using absent) (Nat.lt_of_not_le room))

theorem actHolidayDrop_effect (day : Nat) : CommandEffect s (actHolidayDrop s day).state := by
  refine .withChecked fun d _ => ?_
  split
  · exact .putPlan .noHoliday
  · exact .nothing

theorem checkPayClassPut_range {a : PayClassPutArgs} {c : ClassId} {p : PayClass}
    (h : checkPayClassPut a = some (c, p)) : p.InRange := by
  simp only [checkPayClassPut, Option.bind_eq_bind, Option.bind_eq_some_iff] at h
  obtain ⟨_, -, h⟩ := h
  split at h
  · next range => cases h; exact range
  · cases h

theorem actPayclassPut_effect (a : PayClassPutArgs) : CommandEffect s (actPayclassPut s a).state :=
  .withChecked fun ⟨_, _⟩ range => .putPlan (.payClass (checkPayClassPut_range range))

theorem actCloseRecord_effect (a : CloseRecordArgs) : CommandEffect s (actCloseRecord s a).state := by
  refine .withChecked fun ⟨n, outTime⟩ _ => ?_
  dsimp only
  unfold State.closeOf
  split
  · exact .nothing
  · next b found =>
    split
    · exact .nothing
    · next r record =>
      split
      · exact .nothing
      · next free =>
        split
        · exact .nothing
        · next room => exact .closeRecord found record (by simpa using free) (Nat.le_of_not_lt room)

theorem actClosePeriod_effect : CommandEffect s (actClosePeriod s ()).state := by
  unfold actClosePeriod
  split
  · exact .nothing
  · split
    · exact .nothing
    · exact .closePeriod

theorem actTotalsGet_effect (a : TotalsGetArgs) : CommandEffect s (actTotalsGet s a).state := by
  refine .withChecked fun ⟨n, sel, closed⟩ _ => ?_
  dsimp only
  split
  · exact .nothing
  · split
    · exact .nothing
    · exact .nothing

theorem actReleaseClosed_effect : CommandEffect s (actReleaseClosed s ()).state := by
  unfold actReleaseClosed
  split
  · exact .nothing
  · exact .releaseClosed

theorem actBellDrop_effect (entry : Nat) : CommandEffect s (actBellDrop s entry).state := by
  refine .withChecked fun n _ => ?_
  split
  · exact .putEntry
  · exact .nothing

theorem checkBellRing_source {a : BellRingArgs} {m : OutputSet} {r : Ring} (h : checkBellRing a = some (m, r)) :
    r.source = .manual := by
  simp only [checkBellRing, Option.bind_eq_bind, Option.bind_eq_some_iff] at h
  obtain ⟨_, -, _, -, _, -, same⟩ := h
  cases same
  rfl

theorem checkSettingsPut_ranges {a : SettingsPutArgs} {set : Settings} {f : Frequency} {src : Source} {trim : Int}
    (h : checkSettingsPut a = some (set, f, src, trim)) : (1 ≤ set.burstBudget ∧ set.burstBudget ≤ 4)
      ∧ (set.nightStart ≤ 1439 ∧ set.nightEnd ≤ 1439) ∧ (-999 ≤ trim ∧ trim ≤ 999) := by
  simp only [checkSettingsPut, Option.bind_eq_bind, Option.bind_eq_some_iff] at h
  obtain ⟨_, -, _, -, _, -, _, -, h⟩ := h
  split at h
  · next range =>
    cases h
    obtain ⟨-, -, -, budget1, budget4, -, night1, night2, trim1, trim2⟩ := range
    exact ⟨⟨budget1, budget4⟩, ⟨night1, night2⟩, trim1, trim2⟩
  · cases h

theorem actSettingsPut_effect (a : SettingsPutArgs) : CommandEffect s (actSettingsPut s a).state := by
  refine .withChecked fun ⟨set, f, src, trim⟩ ranges => ?_
  obtain ⟨budget, night, range⟩ := checkSettingsPut_ranges ranges
  exact .putSettings budget night range

theorem actReset_effect : CommandEffect s (actReset s ()).state := by
  unfold actReset done
  dsimp only
  exact CommandEffect.reset

/-- R176: the work of every management command is one of the effects. -/
theorem commandWork_effect (s : State) (c : Instr) : CommandEffect s (commandWork s c).state := by
  cases c with
  | setTime p => exact .withFields fun _ => .withChecked fun _ range => .setTime (checkSetTime_le range)
  | stationPut p => exact .withFields actStationPut_effect
  | stationGet p => exact .withFields fun _ => .withChecked fun _ _ => .nothing
  | stationResume p => exact .withFields actStationResume_effect
  | display p => exact .withFields actDisplay_effect
  | badgePut p => exact .withFields actBadgePut_effect
  | badgeDrop p => exact .withFields actBadgeDrop_effect
  | badgeGet p => exact .withFields actBadgeGet_effect
  | presenceSet p => exact .withFields actPresenceSet_effect
  | conflictRead p => exact .withFields fun _ => .clearConflicts
  | inputPut p => exact .withFields fun _ => .withChecked fun ⟨_, _, _⟩ _ => .putInput
  | inputGet p => exact .withFields fun _ => .withChecked fun _ _ => .nothing
  | doorPut p => exact .withFields actDoorPut_effect
  | doorGet p => exact .withFields fun _ => .withChecked fun _ _ => .nothing
  | schedulePut p => exact .withFields fun _ => .withChecked fun ⟨_, _⟩ _ => .putSchedule
  | scheduleGet p => exact .withFields fun _ => .withChecked fun _ _ => .nothing
  | doorCommandLockdown p => exact .withFields fun _ => doorCommand_effect _ _ fun _ => .overrideDoors
  | doorCommandHoldFree p => exact .withFields fun _ => doorCommand_effect _ _ fun _ => .overrideDoors
  | doorCommandNormal p => exact .withFields fun _ => doorCommand_effect _ _ fun _ => .overrideDoors
  | releaseOnce p => exact .withFields fun _ => doorCommand_effect _ _ fun _ => .pressButtons
  | alarmClear p => exact .withFields fun _ => .clearAlarm
  | shiftPut p => exact .withFields actShiftPut_effect
  | shiftGet p => exact .withFields fun _ => .withChecked fun _ _ => .nothing
  | rotaPut p => exact .withFields actRotaPut_effect
  | rotaGet p => exact .withFields fun _ => .withChecked fun _ _ => .nothing
  | holidayPut p => exact .withFields actHolidayPut_effect
  | holidayDrop p => exact .withFields actHolidayDrop_effect
  | holidayList p => exact .withFields fun _ => .nothing
  | payclassPut p => exact .withFields actPayclassPut_effect
  | payclassGet p => exact .withFields fun _ => .withChecked fun _ _ => .nothing
  | closeRecord p => exact .withFields actCloseRecord_effect
  | closePeriod p => exact .withFields fun _ => actClosePeriod_effect
  | totalsGet p => exact .withFields actTotalsGet_effect
  | releaseClosed p => exact .withFields fun _ => actReleaseClosed_effect
  | bellPut p => exact .withFields fun _ => .withChecked fun ⟨_, _⟩ _ => .putEntry
  | bellGet p => exact .withFields fun _ => .withChecked fun _ _ => .nothing
  | bellDrop p => exact .withFields actBellDrop_effect
  | patternPut p => exact .withFields fun _ => .withChecked fun ⟨_, _⟩ _ => .putPattern
  | patternGet p => exact .withFields fun _ => .withChecked fun _ _ => .nothing
  | bellRing p => exact .withFields fun _ => .withChecked fun ⟨_, _⟩ range => .ring (checkBellRing_source range)
  | bellStop p => exact .withFields fun _ => .withChecked fun _ _ => .stopOutputs
  | pause p => exact .withFields fun _ => .setPause
  | resume p => exact .withFields fun _ => .setPause
  | settingsPut p => exact .withFields actSettingsPut_effect
  | settingsGet p => exact .withFields fun _ => .nothing
  | status p => exact .withFields fun _ => .nothing
  | ident p => exact .withFields fun _ => .nothing
  | reset p => exact .withFields fun _ => actReset_effect
  | _ => exact .nothing

end CommandEffects

/-! ### The effects of the events -/

/-- What an event makes of the state, with the conditions under which it comes (log 6). -/
inductive EventEffect (s : State) : State → Prop
  | nothing : EventEffect s s
  | secondEnds {n : Nat} (running : s.tbu.running = true) (driver : s.tbu.secondEnd = .onTick n) :
      EventEffect s s.secondBoundary.settle
  | cycle (running : s.tbu.running = true) : EventEffect s (s.withTbu s.tbu.cycle)
  | cycleEndsSecond (running : s.tbu.running = true) (last : s.tbu.cycle.cycleEndsSecond = true) :
      EventEffect s (s.withTbu s.tbu.cycle).secondBoundary.settle
  | mainsLoss (running : s.tbu.running = true) (present : s.tbu.mainsWatch = .present) :
      EventEffect s s.mainsLoss.settle
  | batterySample {asserted : Bool} (battery : s.tbu.supply = .battery) :
      EventEffect s (s.withTbu (s.tbu.sampleBattery asserted))
  | lowBattery {asserted : Bool} (battery : s.tbu.supply = .battery) :
      EventEffect s (s.withTbu (s.tbu.sampleBattery asserted)).enterLow.settle
  | attention {pulled : Bool} : EventEffect s (s.withGlc { s.glc with attention := pulled }).settle
  | round {answered : BitVec 15} (line : s.glc.line = .round) (notLow : s.tbu.supply ≠ .low) :
      EventEffect s (s.withGlc (s.glc.roundResult answered s.olc.settings.burstBudget)).settle
  | restEnds (notLow : s.tbu.supply ≠ .low) : EventEffect s (s.withGlc { s.glc with restTimer := none }).settle
  | punch {gr : Grant} {c : StationConfig} {badge age : Nat} {more : Bool} (idle : s.glc.sending = none)
      (notLow : s.tbu.supply ≠ .low) (grant : s.glc.grant = some gr) (config : s.stationConfig gr.station = some c) :
      EventEffect s (s.punchUnderGrant gr c badge age more).settle
  | status {gr : Grant} {c : StationConfig} {tamper fault : Bool} (idle : s.glc.sending = none)
      (notLow : s.tbu.supply ≠ .low) (grant : s.glc.grant = some gr) (config : s.stationConfig gr.station = some c) :
      EventEffect s (s.statusUnderGrant gr c tamper fault).settle
  | probeAnswer {id : StationId} {tamper fault : Bool} (idle : s.glc.sending = none) (notLow : s.tbu.supply ≠ .low)
      (noGrant : s.glc.grant = none) (probed : s.glc.probed = some id) :
      EventEffect s (s.probeAnswer id tamper fault).settle
  | grantTimeout {gr : Grant} (grant : s.glc.grant = some gr) (timer : gr.timer.isSome = true)
      (notLow : s.tbu.supply ≠ .low) : EventEffect s (s.grantTimeout gr).settle
  | probeTimer {id : StationId} (timer : (s.glc.stations.get id).probeTimer.isSome = true)
      (notLow : s.tbu.supply ≠ .low) :
      EventEffect s (s.withGlc { s.glc with
        stations := s.glc.stations.set id { s.glc.stations.get id with probeTimer := some Config.probeTime }
        pendingProbes := addTo s.glc.pendingProbes id }).settle
  | probeWaitEnds (line : s.glc.line = .probeWait) (notLow : s.tbu.supply ≠ .low) :
      EventEffect s (s.withGlc s.glc.endProbeWait).settle
  | frameSent {f : GateFrame} (sending : s.glc.sending = some f) : EventEffect s (s.withGlc (s.glc.frameSent f)).settle
  | wire {i : InputId} {closed : Bool} : EventEffect s (s.wireLevel i closed)
  | filterEnds {i : InputId} (mains : s.tbu.supply = .mains) (change : (s.drc.inputs.get i).change.isSome = true) :
      EventEffect s (s.acceptInput i).settle
  | sampleInputs (battery : s.tbu.supply = .battery) :
      EventEffect s (s.sampleAll.withDrc { s.sampleAll.drc with sampleTimer := some Config.samplePeriod }).settle
  | releaseEnds {d : DoorId} {r : Door} (door : s.drc.doors.get d = some r) (released : r.state = .released)
      (notLow : s.tbu.supply ≠ .low) : EventEffect s (s.releaseRunsOut d r).settle
  | heldEnds {d : DoorId} {r : Door} (door : s.drc.doors.get d = some r) (opened : r.state = .opened)
      (notLow : s.tbu.supply ≠ .low) :
      EventEffect s (s.doorAlarm d { r with state := .held, heldTimer := none } .held).settle
  | pulseEnds (notLow : s.tbu.supply ≠ .low) :
      EventEffect s (s.withDrc { s.drc with alarm := .off, pulseTimer := none })
  | phaseEnds {o : OutputId} (notLow : s.tbu.supply ≠ .low) :
      EventEffect s (s.withBlc { s.blc with outputs := s.blc.outputs.modify o (BellOutput.phaseEnd s.blc.patterns) })
  | ready {asserted : Bool} : EventEffect s (s.withOlc { s.olc with ready := asserted }).settle
  | reportSent (transmitter : s.olc.transmitter = .report) (notLow : s.tbu.supply ≠ .low) :
      EventEffect s (s.withOlc { s.olc with transmitter := .idle }).depart.settle
  | replySent (transmitter : s.olc.transmitter = .reply) (notLow : s.tbu.supply ≠ .low) : EventEffect s s.replySent
  | backupLost : EventEffect s (s.losePower.withTbu { s.losePower.tbu with backupIntact := false, running := false })
  | powerReturns (running : s.tbu.running = true) (notLow : s.tbu.supply ≠ .low) : EventEffect s s.losePower.outlast
  | restarts (stopped : s.tbu.running = false) :
      EventEffect s (((s.losePower.withTbu (s.losePower.tbu.restartLost s.losePower.draws)).reportSource
        s.losePower.tbu.timeSource).withDraws (s.losePower.draws + 1))

section EventEffects

variable {s t : State}

/-- An event answers a state, and that state is one of the effects. -/
def EventAnswers (s : State) (r : Result) : Prop := ∃ t, r = .next t ∧ EventEffect s t

theorem EventAnswers.of_effect (h : EventEffect s t) : EventAnswers s (.next t) := ⟨t, rfl, h⟩

theorem EventAnswers.nothing : EventAnswers s (.next s) := .of_effect .nothing

theorem execCrystalSecondEnd_effect : EventAnswers s (execCrystalSecondEnd s) := by
  unfold execCrystalSecondEnd
  split
  · next running driver => exact .of_effect (.secondEnds running driver)
  · exact .nothing

theorem execMainsCycle_effect : EventAnswers s (execMainsCycle s) := by
  unfold execMainsCycle
  split
  · next running =>
    dsimp only
    split
    · next last => exact .of_effect (.cycleEndsSecond running last)
    · exact .of_effect (.cycle running)
  · exact .nothing

theorem execMainsLoss_effect : EventAnswers s (execMainsLoss s) := by
  unfold execMainsLoss
  split
  · next h => exact .of_effect (.mainsLoss h.1 h.2)
  · exact .nothing

theorem execLowBatterySample_effect (asserted : Bool) : EventAnswers s (execLowBatterySample asserted s) := by
  unfold execLowBatterySample
  split
  · next battery =>
    dsimp only
    split
    · exact .of_effect (.lowBattery battery)
    · exact .of_effect (.batterySample battery)
  · exact .nothing

theorem execRoundResult_effect (answered : BitVec 15) : EventAnswers s (execRoundResult answered s) := by
  unfold execRoundResult
  split
  · next h => exact .of_effect (.round h.1 (s.isLow_eq_false_iff.mp h.2))
  · exact .nothing

theorem execRestTimerExpiry_effect : EventAnswers s (execRestTimerExpiry s) := by
  unfold execRestTimerExpiry
  split
  · next h => exact .of_effect (.restEnds (s.isLow_eq_false_iff.mp h.2))
  · exact .nothing

/-- R22, R23, R38: the part receives while it sends nothing, outside LOW. -/
theorem State.receiving_iff (s : State) : s.receiving = true ↔ s.glc.sending = none ∧ s.tbu.supply ≠ .low := by
  simp [State.receiving, State.isLow]

theorem execPunchFrame_effect (badge age : Nat) (more : Bool) : EventAnswers s (execPunchFrame badge age more s) := by
  unfold execPunchFrame
  split
  · next gr receiving grant =>
    obtain ⟨idle, notLow⟩ := s.receiving_iff.mp receiving
    split
    · next c config => exact .of_effect (.punch idle notLow grant config)
    · exact .nothing
  · exact .nothing

theorem execStatusFrame_effect (tamper fault : Bool) : EventAnswers s (execStatusFrame tamper fault s) := by
  unfold execStatusFrame
  split
  · next receiving =>
    obtain ⟨idle, notLow⟩ := s.receiving_iff.mp receiving
    split
    · next gr _ grant =>
      split
      · next c config => exact .of_effect (.status idle notLow grant config)
      · exact .nothing
    · next id noGrant probed => exact .of_effect (.probeAnswer idle notLow noGrant probed)
    · exact .nothing
  · exact .nothing

theorem execGrantTimeout_effect : EventAnswers s (execGrantTimeout s) := by
  unfold execGrantTimeout
  split
  · exact .nothing
  · next gr grant =>
    split
    · next h => exact .of_effect (.grantTimeout grant h.1 (s.isLow_eq_false_iff.mp h.2))
    · exact .nothing

theorem execProbeTimerExpiry_effect (id : StationId) : EventAnswers s (execProbeTimerExpiry id s) := by
  unfold execProbeTimerExpiry
  dsimp only
  split
  · next h => exact .of_effect (.probeTimer h.1 (s.isLow_eq_false_iff.mp h.2))
  · exact .nothing

theorem execProbeWaitExpiry_effect : EventAnswers s (execProbeWaitExpiry s) := by
  unfold execProbeWaitExpiry
  split
  · next h => exact .of_effect (.probeWaitEnds h.1 (s.isLow_eq_false_iff.mp h.2))
  · exact .nothing

theorem execGateFrameSent_effect : EventAnswers s (execGateFrameSent s) := by
  unfold execGateFrameSent
  split
  · exact .nothing
  · next f sending => exact .of_effect (.frameSent sending)

theorem execFilterTimeExpiry_effect (i : InputId) : EventAnswers s (execFilterTimeExpiry i s) := by
  unfold execFilterTimeExpiry
  split
  · next h => exact .of_effect (.filterEnds h.1 h.2)
  · exact .nothing

theorem execInputSample_effect : EventAnswers s (execInputSample s) := by
  unfold execInputSample
  split
  · next battery => exact .of_effect (.sampleInputs battery)
  · exact .nothing

theorem execReleaseTimerExpiry_effect (d : DoorId) : EventAnswers s (execReleaseTimerExpiry d s) := by
  unfold execReleaseTimerExpiry
  split
  · exact .nothing
  · next r door =>
    split
    · next h => exact .of_effect (.releaseEnds door h.2.1 (s.isLow_eq_false_iff.mp h.2.2))
    · exact .nothing

theorem execHeldTimerExpiry_effect (d : DoorId) : EventAnswers s (execHeldTimerExpiry d s) := by
  unfold execHeldTimerExpiry
  split
  · exact .nothing
  · next r door =>
    split
    · next h => exact .of_effect (.heldEnds door h.2.1 (s.isLow_eq_false_iff.mp h.2.2))
    · exact .nothing

theorem execPulseTimerExpiry_effect : EventAnswers s (execPulseTimerExpiry s) := by
  unfold execPulseTimerExpiry
  split
  · next h => exact .of_effect (.pulseEnds (s.isLow_eq_false_iff.mp h.2))
  · exact .nothing

theorem execPhaseTimerExpiry_effect (o : OutputId) : EventAnswers s (execPhaseTimerExpiry o s) := by
  unfold execPhaseTimerExpiry
  split
  · exact .nothing
  · next h => exact .of_effect (.phaseEnds (by rwa [State.isLow_iff] at h))

theorem execReportFrameSent_effect : EventAnswers s (execReportFrameSent s) := by
  unfold execReportFrameSent
  split
  · next h => exact .of_effect (.reportSent h.1 (s.isLow_eq_false_iff.mp h.2))
  · exact .nothing

theorem execReplyFrameSent_effect : EventAnswers s (execReplyFrameSent s) := by
  unfold execReplyFrameSent
  split
  · next h => exact .of_effect (.replySent h.1 (s.isLow_eq_false_iff.mp h.2))
  · exact .nothing

theorem execPowerReturn_effect : EventAnswers s (execPowerReturn s) := by
  unfold execPowerReturn
  split
  · next running =>
    split
    · exact .nothing
    · next notLow => exact .of_effect (.powerReturns running (by rwa [State.isLow_iff] at notLow))
  · next stopped => exact .of_effect (.restarts (by simpa using stopped))

/-- Every event but COMMAND_TAKEN_FROM_ASSEMBLY has one of the effects. -/
theorem exec_event {c : Instr} (event : commandKind c = none) (other : c ≠ .commandTakenFromAssembly) (s : State) :
    EventAnswers s (exec c s) := by
  cases c with
  | crystalSecondEnd => exact execCrystalSecondEnd_effect
  | mainsCycle => exact execMainsCycle_effect
  | mainsLoss => exact execMainsLoss_effect
  | lowBatterySample asserted => exact execLowBatterySample_effect asserted
  | attentionWireChange pulled => exact .of_effect .attention
  | roundResult answered => exact execRoundResult_effect answered
  | restTimerExpiry => exact execRestTimerExpiry_effect
  | gateFrameDiscarded => exact .nothing
  | punchFrame badge age more => exact execPunchFrame_effect badge age more
  | statusFrame tamper fault => exact execStatusFrame_effect tamper fault
  | grantTimeout => exact execGrantTimeout_effect
  | probeTimerExpiry station => exact execProbeTimerExpiry_effect station
  | probeWaitExpiry => exact execProbeWaitExpiry_effect
  | gateFrameSent => exact execGateFrameSent_effect
  | inputLevelChange input closed => exact .of_effect .wire
  | filterTimeExpiry input => exact execFilterTimeExpiry_effect input
  | inputSample => exact execInputSample_effect
  | releaseTimerExpiry door => exact execReleaseTimerExpiry_effect door
  | heldTimerExpiry door => exact execHeldTimerExpiry_effect door
  | pulseTimerExpiry => exact execPulseTimerExpiry_effect
  | phaseTimerExpiry output => exact execPhaseTimerExpiry_effect output
  | readyWireChange asserted => exact .of_effect .ready
  | reportFrameSent => exact execReportFrameSent_effect
  | replyFrameSent => exact execReplyFrameSent_effect
  | commandTakenFromAssembly => exact absurd rfl other
  | officeFrameDiscarded => exact .nothing
  | backupDomainLost => exact .of_effect .backupLost
  | powerReturn => exact execPowerReturn_effect
  | _ => cases event

end EventEffects

/-! ### The effects of a step -/

/-- R176, R177: the reply of a command is placed in the slot of the state its work leaves, and both lines go on. -/
def State.answer (u : State) (r : Reply) : State := (u.withOlc { u.olc with slot := some r }).settle

theorem Answered.reply_eq_answer (a : Answered) (kind : Nat) :
    a.reply kind = a.state.answer ⟨kind, a.status, a.result⟩ := rfl

/-- The state with its assembly emptied: the command that waited there is being taken. -/
def State.emptyAssembly (s : State) : State := s.withOlc { s.olc with assembly := none }

/-- What a command, an event or a tick makes of the state. -/
inductive StepEffect (s : State) : State → Prop
  | event {t : State} (effect : EventEffect s t) : StepEffect s t
  | tick : StepEffect s s.tick
  /-- R176: the command waits in the assembly. -/
  | waits {c : Instr} (command : (commandKind c).isSome = true) (notLow : s.tbu.supply ≠ .low)
      (empty : s.olc.assembly = none) (full : s.olc.slot.isSome = true) :
      StepEffect s (s.withOlc { s.olc with assembly := some c })
  /-- R176: the command is taken at the instant it is complete. -/
  | taken {u : State} {r : Reply} (takes : s.takes) (work : CommandEffect s u) : StepEffect s (u.answer r)
  /-- R176: the command that waited is taken. -/
  | takenLater {u : State} {r : Reply} (takes : s.emptyAssembly.takes) (waited : s.olc.assembly.isSome = true)
      (work : CommandEffect s.emptyAssembly u) : StepEffect s (u.answer r)
  /-- What waits in the assembly is no command (no run reaches it). -/
  | noCommand {c : Instr} (waited : s.olc.assembly = some c) (event : commandKind c = none)
      (notLow : s.tbu.supply ≠ .low) : StepEffect s s.emptyAssembly

section StepEffects

variable {s t : State}

theorem receive_effect {c : Instr} {kind : Nat} (command : commandKind c = some kind) :
    StepEffect s (s.receive c ((commandWork s c).reply kind)) := by
  rw [State.receive_cases]
  split
  · exact .event .nothing
  · next notLow =>
    split
    · exact .event .nothing
    · next empty =>
      rw [Option.not_isSome_iff_eq_none] at empty
      split
      · next full => exact .waits (by rw [command]; rfl) notLow empty full
      · next free =>
        exact .taken ⟨notLow, empty, Option.not_isSome_iff_eq_none.mp free⟩ (commandWork_effect s c)

theorem execCommandTakenFromAssembly_effect :
    ∃ t, execCommandTakenFromAssembly s = .next t ∧ StepEffect s t := by
  unfold execCommandTakenFromAssembly
  split
  · exact ⟨s, rfl, .event .nothing⟩
  · next c waited =>
    split
    · next h =>
      obtain ⟨slot, notLow⟩ := h
      rw [State.isLow_eq_false_iff] at notLow
      refine ⟨_, rfl, ?_⟩
      change StepEffect s (s.emptyAssembly.takeCommand c)
      cases kind : commandKind c with
      | none => rw [takeCommand_of_event kind]; exact .noCommand waited kind notLow
      | some k =>
        rw [takeCommand_eq_reply kind]
        exact .takenLater ⟨notLow, rfl, Option.isNone_iff_eq_none.mp slot⟩ (by rw [waited]; rfl)
          (commandWork_effect _ c)
    · exact ⟨s, rfl, .event .nothing⟩

/-- Every command and event answers a state, which is one of the effects. -/
theorem exec_effect (c : Instr) (s : State) : ∃ t, exec c s = .next t ∧ StepEffect s t := by
  cases kind : commandKind c with
  | some k => exact ⟨_, exec_eq_receive kind s, receive_effect kind⟩
  | none =>
    by_cases taken : c = .commandTakenFromAssembly
    · subst taken
      exact execCommandTakenFromAssembly_effect
    · obtain ⟨t, next, effect⟩ := exec_event kind taken s
      exact ⟨t, next, .event effect⟩

theorem StepEffect.of_exec {c : Instr} (h : exec c s = .next t) : StepEffect s t := by
  obtain ⟨t', next, effect⟩ := exec_effect c s
  rw [next] at h
  cases h
  exact effect

/-- A step is one of the effects, on the state with the front command taken off its queue. -/
theorem StepEffect.of_step (h : step s = .next t) : ∃ q, StepEffect (s.withPending q) t := by
  unfold step at h
  split at h
  · refine ⟨s.pending, ?_⟩
    change StepEffect s t
    unfold State.idle at h
    split at h
    · cases h; exact .tick
    · exact .of_exec h
  · next c rest _ => exact ⟨rest, .of_exec h⟩

/-- A condition that does not read the queue, and that every effect keeps, is kept by every step. -/
theorem step_keeps {P : State → Prop} (queue : ∀ s q, P s → P (s.withPending q))
    (effect : ∀ s t, P s → StepEffect s t → P t) (h : P s) (next : step s = .next t) : P t := by
  obtain ⟨q, found⟩ := StepEffect.of_step next
  exact effect _ _ (queue s q h) found

end StepEffects

end Sys2Proof.Machine
end

section
/-!
PROOFS. What the shared operations leave alone: reports touch the Report Store; door and input events the plant side (doors,
inputs, passages, badges, bells, reports); and what the changes of supply and the restarts make of the Time Base Unit and of
the gate line.
-/

namespace Sys2Proof.Machine

open Sys2Proof

/-! ### Reports -/

/-- `t` is `s` but for the report store. -/
def TouchesStore (s t : State) : Prop := ∃ r, t = s.withRps r

theorem TouchesStore.refl (s : State) : TouchesStore s s := ⟨s.rps, rfl⟩

theorem TouchesStore.trans {s t u : State} (h : TouchesStore s t) (h' : TouchesStore t u) : TouchesStore s u := by
  obtain ⟨_, rfl⟩ := h
  obtain ⟨r, rfl⟩ := h'
  exact ⟨r, rfl⟩

theorem TouchesStore.badges {s t : State} (h : TouchesStore s t) : TouchesBadges s t := by
  obtain ⟨r, rfl⟩ := h
  exact ⟨s.btb.entries, r, rfl⟩

theorem TouchesStore.store (s : State) (o : Bool) (b : ReportBody) : TouchesStore s (s.store o b) := ⟨_, rfl⟩
theorem TouchesStore.nonPunch (s : State) (src : ReportSource) (b : ReportBody) :
    TouchesStore s (s.nonPunch src b) := s.nonPunch_touches src b
theorem TouchesStore.supplyReport (s : State) (event : SupplyEvent) (before : Option TimeSource) :
    TouchesStore s (s.supplyReport event before) := s.nonPunch_touches _ _
theorem TouchesStore.stationReport (s : State) (id : StationId) (event : StationEvent) :
    TouchesStore s (s.stationReport id event) := s.nonPunch_touches _ _
theorem TouchesStore.doorReport (s : State) (d : DoorId) (r : Door) (event : DoorEvent) (ended : Option DoorEvent) :
    TouchesStore s (s.doorReport d r event ended) := s.nonPunch_touches _ _
theorem TouchesStore.reportSource (s : State) (before : TimeSource) : TouchesStore s (s.reportSource before) :=
  s.reportSource_touches before
theorem TouchesStore.timeReport (s : State) (r : Option TimeReport) : TouchesStore s (s.timeReport r) :=
  s.timeReport_touches r
theorem TouchesStore.emitOwed (s : State) : TouchesStore s s.emitOwed := s.emitOwed_touches
theorem TouchesStore.depart (s : State) : TouchesStore s s.depart := s.depart_touches

section Fields

variable {s t : State}

theorem TouchesStore.tbu (h : TouchesStore s t) : t.tbu = s.tbu := by obtain ⟨_, rfl⟩ := h; rfl
theorem TouchesStore.glc (h : TouchesStore s t) : t.glc = s.glc := by obtain ⟨_, rfl⟩ := h; rfl
theorem TouchesStore.pev (h : TouchesStore s t) : t.pev = s.pev := by obtain ⟨_, rfl⟩ := h; rfl
theorem TouchesStore.btb (h : TouchesStore s t) : t.btb = s.btb := by obtain ⟨_, rfl⟩ := h; rfl
theorem TouchesStore.sps (h : TouchesStore s t) : t.sps = s.sps := by obtain ⟨_, rfl⟩ := h; rfl
theorem TouchesStore.drc (h : TouchesStore s t) : t.drc = s.drc := by obtain ⟨_, rfl⟩ := h; rfl
theorem TouchesStore.blc (h : TouchesStore s t) : t.blc = s.blc := by obtain ⟨_, rfl⟩ := h; rfl
theorem TouchesStore.olc (h : TouchesStore s t) : t.olc = s.olc := by obtain ⟨_, rfl⟩ := h; rfl
theorem TouchesStore.pending (h : TouchesStore s t) : t.pending = s.pending := by obtain ⟨_, rfl⟩ := h; rfl
theorem TouchesStore.draws (h : TouchesStore s t) : t.draws = s.draws := by obtain ⟨_, rfl⟩ := h; rfl

/-! ### Closes, commits, cancels and resolutions -/

theorem TouchesDoors.tbu (h : TouchesDoors s t) : t.tbu = s.tbu := by obtain ⟨_, _, _, _, rfl⟩ := h; rfl
theorem TouchesDoors.glc (h : TouchesDoors s t) : t.glc = s.glc := by obtain ⟨_, _, _, _, rfl⟩ := h; rfl
theorem TouchesDoors.blc (h : TouchesDoors s t) : t.blc = s.blc := by obtain ⟨_, _, _, _, rfl⟩ := h; rfl
theorem TouchesDoors.olc (h : TouchesDoors s t) : t.olc = s.olc := by obtain ⟨_, _, _, _, rfl⟩ := h; rfl
theorem TouchesDoors.pending (h : TouchesDoors s t) : t.pending = s.pending := by obtain ⟨_, _, _, _, rfl⟩ := h; rfl
theorem TouchesDoors.draws (h : TouchesDoors s t) : t.draws = s.draws := by obtain ⟨_, _, _, _, rfl⟩ := h; rfl
theorem TouchesDoors.inputs (h : TouchesDoors s t) : t.drc.inputs = s.drc.inputs := by
  obtain ⟨_, _, _, _, rfl⟩ := h; rfl
theorem TouchesDoors.schedules (h : TouchesDoors s t) : t.drc.schedules = s.drc.schedules := by
  obtain ⟨_, _, _, _, rfl⟩ := h; rfl
theorem TouchesDoors.alarm (h : TouchesDoors s t) : t.drc.alarm = s.drc.alarm := by
  obtain ⟨_, _, _, _, rfl⟩ := h; rfl
theorem TouchesDoors.pulseTimer (h : TouchesDoors s t) : t.drc.pulseTimer = s.drc.pulseTimer := by
  obtain ⟨_, _, _, _, rfl⟩ := h; rfl
theorem TouchesDoors.conflictSet (h : TouchesDoors s t) : t.pev.conflictSet = s.pev.conflictSet := by
  obtain ⟨_, _, _, _, rfl⟩ := h; rfl
theorem TouchesDoors.closedBlock (h : TouchesDoors s t) : t.btb.closedBlock = s.btb.closedBlock := by
  obtain ⟨_, _, _, _, rfl⟩ := h; rfl
theorem TouchesDoors.period (h : TouchesDoors s t) : t.btb.period = s.btb.period := by
  obtain ⟨_, _, _, _, rfl⟩ := h; rfl

theorem TouchesPassages.drc (h : TouchesPassages s t) : t.drc = s.drc := by obtain ⟨_, _, _, rfl⟩ := h; rfl
theorem TouchesBadges.pev (h : TouchesBadges s t) : t.pev = s.pev := by obtain ⟨_, _, rfl⟩ := h; rfl
theorem TouchesBadges.drc (h : TouchesBadges s t) : t.drc = s.drc := h.passages.drc
theorem TouchesBadges.doors (h : TouchesBadges s t) : TouchesDoors s t := h.passages.doors

/-! ### Door and input events -/

/-- `t` is `s` but for the doors, inputs, alarm and bells, the passages, the badge entries and the report store. -/
structure TouchesPlant (s t : State) : Prop where
  tbu : t.tbu = s.tbu
  glc : t.glc = s.glc
  sps : t.sps = s.sps
  olc : t.olc = s.olc
  pending : t.pending = s.pending
  draws : t.draws = s.draws
  conflictSet : t.pev.conflictSet = s.pev.conflictSet
  closedBlock : t.btb.closedBlock = s.btb.closedBlock
  period : t.btb.period = s.btb.period

theorem TouchesPlant.refl (s : State) : TouchesPlant s s := ⟨rfl, rfl, rfl, rfl, rfl, rfl, rfl, rfl, rfl⟩

theorem TouchesPlant.trans {u : State} (h : TouchesPlant s t) (h' : TouchesPlant t u) : TouchesPlant s u :=
  ⟨h'.tbu.trans h.tbu, h'.glc.trans h.glc, h'.sps.trans h.sps, h'.olc.trans h.olc, h'.pending.trans h.pending,
    h'.draws.trans h.draws, h'.conflictSet.trans h.conflictSet, h'.closedBlock.trans h.closedBlock,
    h'.period.trans h.period⟩

theorem TouchesDoors.plant (h : TouchesDoors s t) : TouchesPlant s t :=
  ⟨h.tbu, h.glc, h.sps, h.olc, h.pending, h.draws, h.conflictSet, h.closedBlock, h.period⟩

theorem TouchesStore.plant (h : TouchesStore s t) : TouchesPlant s t := h.badges.doors.plant

theorem TouchesPlant.withDrc (s : State) (d : Drc) : TouchesPlant s (s.withDrc d) :=
  ⟨rfl, rfl, rfl, rfl, rfl, rfl, rfl, rfl, rfl⟩
theorem TouchesPlant.withBlc (s : State) (b : Blc) : TouchesPlant s (s.withBlc b) :=
  ⟨rfl, rfl, rfl, rfl, rfl, rfl, rfl, rfl, rfl⟩
theorem TouchesPlant.setDoor (s : State) (d : DoorId) (r : Option Door) : TouchesPlant s (s.setDoor d r) :=
  .withDrc _ _
theorem TouchesPlant.setInput (s : State) (i : InputId) (r : Input) : TouchesPlant s (s.setInput i r) := .withDrc _ _

/-- An act on one element after another touches no more than the act. -/
theorem TouchesPlant.foldl {α : Type} (act : State → α → State) (each : ∀ s a, TouchesPlant s (act s a)) (l : List α)
    (s : State) : TouchesPlant s (l.foldl act s) := by
  induction l generalizing s with
  | nil => exact .refl s
  | cons a rest ih => exact (each s a).trans (ih _)

theorem TouchesPlant.resolveDoor (s : State) (d : DoorId) : TouchesPlant s (s.resolveDoor d) :=
  (TouchesDoors.resolveDoor s d).plant
theorem TouchesPlant.resolveAll (s : State) : TouchesPlant s s.resolveAll := (TouchesDoors.resolveAll s).plant
theorem TouchesPlant.commitPassage (s : State) (d : DoorId) (free : Bool) : TouchesPlant s (s.commitPassage d free) :=
  (TouchesPassages.commitPassage s d free).doors.plant
theorem TouchesPlant.cancelPassage (s : State) (d : DoorId) : TouchesPlant s (s.cancelPassage d) :=
  (TouchesPassages.cancelPassage s d).doors.plant
theorem TouchesPlant.cancelAll (s : State) : TouchesPlant s s.cancelAll := .foldl _ TouchesPlant.cancelPassage _ _

/-- R98: firing the alarm output touches the alarm and its timer alone. -/
theorem State.fireAlarm_touches (s : State) : ∃ a p, s.fireAlarm = s.withDrc { s.drc with alarm := a, pulseTimer := p } := by
  unfold State.fireAlarm
  split
  · exact ⟨_, _, rfl⟩
  · split
    · exact ⟨s.drc.alarm, s.drc.pulseTimer, rfl⟩
    · exact ⟨_, _, rfl⟩

theorem TouchesPlant.fireAlarm (s : State) : TouchesPlant s s.fireAlarm := by
  obtain ⟨_, _, h⟩ := s.fireAlarm_touches
  rw [h]
  exact .withDrc _ _

theorem TouchesPlant.doorBell (s : State) (d : DoorId) (r : Door) : TouchesPlant s (s.doorBell d r) := by
  unfold State.doorBell
  split
  · exact .refl s
  · exact .withBlc _ _

theorem TouchesPlant.doorAlarm (s : State) (d : DoorId) (r : Door) (event : DoorEvent) :
    TouchesPlant s (s.doorAlarm d r event) :=
  (((TouchesPlant.setDoor _ _ _).trans (TouchesStore.doorReport _ _ _ _ _).plant).trans (.fireAlarm _)).trans
    (.doorBell _ _ _)

theorem TouchesPlant.releaseDoor (s : State) (d : DoorId) : TouchesPlant s (s.releaseDoor d) := by
  unfold State.releaseDoor
  split
  · exact .refl s
  · exact .setDoor _ _ _

theorem TouchesPlant.pressButton (s : State) (d : DoorId) : TouchesPlant s (s.pressButton d) := by
  unfold State.pressButton
  split
  · exact .refl s
  · split
    · exact .refl s
    · split
      · exact .releaseDoor _ _
      · exact .refl s

theorem TouchesPlant.contactOpens (s : State) (d : DoorId) (r : Door) : TouchesPlant s (s.contactOpens d r) := by
  unfold State.contactOpens
  split
  · exact (TouchesPlant.setDoor _ _ _).trans (.commitPassage _ _ _)
  · exact .doorAlarm _ _ _ _
  · exact .refl s

theorem TouchesPlant.contactCloses (s : State) (d : DoorId) (r : Door) : TouchesPlant s (s.contactCloses d r) := by
  unfold State.contactCloses
  dsimp only
  split
  · exact .setDoor _ _ _
  · exact (TouchesPlant.setDoor _ _ _).trans (TouchesStore.doorReport _ _ _ _ _).plant
  · exact (TouchesPlant.setDoor _ _ _).trans (TouchesStore.doorReport _ _ _ _ _).plant
  · exact .refl s

theorem TouchesPlant.rotationPulse (s : State) (d : DoorId) (r : Door) : TouchesPlant s (s.rotationPulse d r) := by
  unfold State.rotationPulse
  split
  · exact (TouchesPlant.setDoor _ _ _).trans (.commitPassage _ _ _)
  · exact .doorAlarm _ _ _ _
  · exact .refl s

theorem TouchesPlant.contactEdge (s : State) (d : DoorId) (active : Bool) : TouchesPlant s (s.contactEdge d active) := by
  unfold State.contactEdge
  split
  · exact .refl s
  · split
    · exact .contactOpens _ _ _
    · exact .contactCloses _ _ _
    · exact .rotationPulse _ _ _
    · exact .refl s

theorem TouchesPlant.doorEdge (i : InputId) (active : Bool) (s : State) (d : DoorId) :
    TouchesPlant s (s.doorEdge i active d) := by
  unfold State.doorEdge
  split
  · split
    · exact .contactEdge _ _ _
    · split
      · exact .pressButton _ _
      · exact .refl s
  · exact .refl s

theorem TouchesPlant.evacuationEdge (s : State) (active : Bool) : TouchesPlant s (s.evacuationEdge active) := by
  unfold State.evacuationEdge
  dsimp only
  split
  · exact (TouchesPlant.resolveAll s).trans (.withBlc _ _)
  · exact (TouchesPlant.resolveAll s).trans (.withBlc _ _)

/-- R80: an input event. -/
theorem TouchesPlant.inputEvent (s : State) (i : InputId) (active : Bool) : TouchesPlant s (s.inputEvent i active) := by
  unfold State.inputEvent
  split
  · exact .evacuationEdge _ _
  · exact .foldl _ (TouchesPlant.doorEdge i active) _ _

theorem TouchesPlant.acceptInput (s : State) (i : InputId) : TouchesPlant s (s.acceptInput i) :=
  (TouchesPlant.setInput _ _ _).trans (.inputEvent _ _ _)

theorem TouchesPlant.sampleInput (s : State) (i : InputId) : TouchesPlant s (s.sampleInput i) := by
  unfold State.sampleInput
  dsimp only
  split
  · exact (TouchesPlant.setInput _ _ _).trans (.inputEvent _ _ _)
  · exact .setInput _ _ _

theorem TouchesPlant.sampleAll (s : State) : TouchesPlant s s.sampleAll := .foldl _ TouchesPlant.sampleInput _ _

theorem TouchesPlant.wireLevel (s : State) (i : InputId) (closed : Bool) : TouchesPlant s (s.wireLevel i closed) :=
  .setInput _ _ _

theorem TouchesPlant.putInput (s : State) (i : InputId) (level : ActiveLevel) (filter : Nat) :
    TouchesPlant s (s.putInput i level filter) := by
  unfold State.putInput
  dsimp only
  split
  · split
    · exact (TouchesPlant.setInput _ _ _).trans (.acceptInput _ _)
    · exact .setInput _ _ _
  · exact .setInput _ _ _

theorem TouchesPlant.releaseRunsOut (s : State) (d : DoorId) (r : Door) : TouchesPlant s (s.releaseRunsOut d r) :=
  (TouchesPlant.setDoor _ _ _).trans (.cancelPassage _ _)

theorem TouchesPlant.putDoor (s : State) (d : DoorId) (c : DoorConfig) : TouchesPlant s (s.putDoor d c) :=
  .setDoor _ _ _

theorem TouchesPlant.putSchedule (s : State) (k : ScheduleId) (windows : List Window) :
    TouchesPlant s (s.putSchedule k windows) :=
  (TouchesPlant.withDrc _ _).trans (.foldl _ TouchesPlant.resolveDoor _ _)

theorem TouchesPlant.setOverride (o : Override) (s : State) (d : DoorId) : TouchesPlant s (s.setOverride o d) := by
  unfold State.setOverride
  split
  · exact .refl s
  · exact (TouchesPlant.setDoor _ _ _).trans (.resolveDoor _ _)

theorem TouchesPlant.autoClose (s : State) (now : Nat) : TouchesPlant s (s.autoClose now) :=
  (TouchesBadges.autoClose s now).doors.plant

theorem TouchesPlant.bellMinute (s : State) (e : MinuteEvent) : TouchesPlant s (s.bellMinute e) := by
  unfold State.bellMinute
  split
  · exact .withBlc _ _
  · exact .refl s

theorem TouchesPlant.closeThenResolve (s : State) (now : Nat) : TouchesPlant s (s.closeThenResolve now) :=
  (TouchesPlant.autoClose s now).trans (.resolveAll _)

theorem TouchesPlant.resolveThenClose (s : State) (now : Nat) : TouchesPlant s (s.resolveThenClose now) :=
  (TouchesPlant.resolveAll s).trans (.autoClose _ _)

end Fields

/-! ### Minute boundary events -/

/-- The free choice of log 9 is drawn, or not; then the walk and the resolutions follow in one order or the other. -/
theorem State.payAndDoors_cases (s : State) (now : Nat) : ∃ n,
    s.payAndDoors now = (s.withDraws n).closeThenResolve now
      ∨ s.payAndDoors now = (s.withDraws n).resolveThenClose now := by
  unfold State.payAndDoors
  split
  · exact ⟨s.draws, .inl rfl⟩
  · split
    · exact ⟨_, .inl rfl⟩
    · exact ⟨_, .inr rfl⟩

/-- But for the draws, the walk and the resolutions touch the plant alone. -/
theorem State.payAndDoors_touches (s : State) (now : Nat) : ∃ n, TouchesPlant (s.withDraws n) (s.payAndDoors now) := by
  obtain ⟨n, h | h⟩ := s.payAndDoors_cases now
  · exact ⟨n, by rw [h]; exact .closeThenResolve _ _⟩
  · exact ⟨n, by rw [h]; exact .resolveThenClose _ _⟩

@[simp] theorem State.payAndDoors_tbu (s : State) (now : Nat) : (s.payAndDoors now).tbu = s.tbu := by
  obtain ⟨_, h⟩ := s.payAndDoors_touches now; exact h.tbu
@[simp] theorem State.payAndDoors_glc (s : State) (now : Nat) : (s.payAndDoors now).glc = s.glc := by
  obtain ⟨_, h⟩ := s.payAndDoors_touches now; exact h.glc
@[simp] theorem State.payAndDoors_olc (s : State) (now : Nat) : (s.payAndDoors now).olc = s.olc := by
  obtain ⟨_, h⟩ := s.payAndDoors_touches now; exact h.olc
@[simp] theorem State.payAndDoors_pending (s : State) (now : Nat) : (s.payAndDoors now).pending = s.pending := by
  obtain ⟨_, h⟩ := s.payAndDoors_touches now; exact h.pending

theorem State.minuteEvent_of_low {s : State} (low : s.tbu.supply = .low) (e : MinuteEvent) :
    s.minuteEvent e = s.withTbu (s.tbu.minuteEvent e) := by
  unfold State.minuteEvent
  dsimp only
  rw [if_pos ((State.isLow_iff (s.withTbu (s.tbu.minuteEvent e))).mpr low)]

theorem State.minuteEvent_of_not_low {s : State} (notLow : s.tbu.supply ≠ .low) (e : MinuteEvent) :
    s.minuteEvent e =
      ((((s.withTbu (s.tbu.minuteEvent e)).bellMinute e).payAndDoors e.minute).withGlc s.glc.minuteEvent) := by
  unfold State.minuteEvent
  dsimp only
  rw [if_neg (mt (State.isLow_iff (s.withTbu (s.tbu.minuteEvent e))).mp notLow)]
  simp [(TouchesPlant.bellMinute (s.withTbu (s.tbu.minuteEvent e)) e).glc]

@[simp] theorem State.minuteEvent_tbu (s : State) (e : MinuteEvent) : (s.minuteEvent e).tbu = s.tbu.minuteEvent e := by
  by_cases low : s.tbu.supply = .low
  · rw [State.minuteEvent_of_low low]; rfl
  · rw [State.minuteEvent_of_not_low low]
    simp [(TouchesPlant.bellMinute (s.withTbu (s.tbu.minuteEvent e)) e).tbu]

@[simp] theorem State.minuteEvent_olc (s : State) (e : MinuteEvent) : (s.minuteEvent e).olc = s.olc := by
  by_cases low : s.tbu.supply = .low
  · rw [State.minuteEvent_of_low low]; rfl
  · rw [State.minuteEvent_of_not_low low]
    simp [(TouchesPlant.bellMinute (s.withTbu (s.tbu.minuteEvent e)) e).olc]

@[simp] theorem State.minuteEvent_pending (s : State) (e : MinuteEvent) : (s.minuteEvent e).pending = s.pending := by
  by_cases low : s.tbu.supply = .low
  · rw [State.minuteEvent_of_low low]; rfl
  · rw [State.minuteEvent_of_not_low low]
    simp [(TouchesPlant.bellMinute (s.withTbu (s.tbu.minuteEvent e)) e).pending]

theorem State.minuteEvent_glc (s : State) (e : MinuteEvent) :
    (s.minuteEvent e).glc = if s.tbu.supply = .low then s.glc else s.glc.minuteEvent := by
  split
  · next low => rw [State.minuteEvent_of_low low]; rfl
  · next notLow => rw [State.minuteEvent_of_not_low notLow]; rfl

@[simp] theorem Tbu.minuteEvent_supply (t : Tbu) (e : MinuteEvent) : (t.minuteEvent e).supply = t.supply := rfl

/-! ### Changes of the supply state -/

@[simp] theorem State.supplyReport_tbu (s : State) (event : SupplyEvent) (before : Option TimeSource) :
    (s.supplyReport event before).tbu = s.tbu := (TouchesStore.supplyReport s event before).tbu

/-- R14: the Time Base Unit on entry to BATTERY. -/
def Tbu.toBattery (t : Tbu) : Tbu :=
  { t with supply := .battery, lowBatterySamples := [], lowBatteryTimer := some Config.samplePeriod }.refreshSource

/-- R14: the Time Base Unit at mains return in BATTERY. -/
def Tbu.toMains (t : Tbu) : Tbu :=
  { t with supply := .mains, lowBatterySamples := [], lowBatteryTimer := none }.refreshSource

/-- R15: the Time Base Unit on entry to LOW. -/
def Tbu.toLow (t : Tbu) : Tbu := { t with supply := .low, pendingTime := none, lowBatteryTimer := none }

/-- R4, R14: the reports of a mains loss. -/
def State.lossReports (s : State) : State :=
  ((s.withTbu s.tbu.toBattery).supplyReport .mainsLost none).reportSource s.tbu.timeSource

/-- R14: the reports of a mains return. -/
def State.returnReports (s : State) : State :=
  ((s.withTbu s.tbu.toMains).supplyReport .mainsRestored none).reportSource s.tbu.timeSource

theorem State.lossReports_touches (s : State) : TouchesStore (s.withTbu s.tbu.toBattery) s.lossReports :=
  (TouchesStore.supplyReport _ _ _).trans (.reportSource _ _)

theorem State.returnReports_touches (s : State) : TouchesStore (s.withTbu s.tbu.toMains) s.returnReports :=
  (TouchesStore.supplyReport _ _ _).trans (.reportSource _ _)

/-- R14: entry to BATTERY, block by block. -/
theorem State.enterBattery_eq (s : State) : s.enterBattery =
    (((s.lossReports.withDrc s.lossReports.drc.startSampling).resolveAll).withBlc
      ((s.lossReports.withDrc s.lossReports.drc.startSampling).resolveAll).blc.suppress) := rfl

/-- R14: mains return, block by block. -/
theorem State.restoreMains_eq (s : State) :
    s.restoreMains = (s.returnReports.withDrc s.returnReports.drc.startWatching).resolveAll := rfl

theorem State.enterBattery_touches (s : State) : TouchesPlant (s.withTbu s.tbu.toBattery) s.enterBattery :=
  ((s.lossReports_touches.plant.trans (.withDrc _ _)).trans (.resolveAll _)).trans (.withBlc _ _)

theorem State.restoreMains_touches (s : State) : TouchesPlant (s.withTbu s.tbu.toMains) s.restoreMains :=
  (s.returnReports_touches.plant.trans (.withDrc _ _)).trans (.resolveAll _)

theorem State.enterLow_eq (s : State) : s.enterLow = ((s.withTbu s.tbu.toLow).supplyReport .lowBattery none).quiesce := rfl

@[simp] theorem State.enterBattery_tbu (s : State) : s.enterBattery.tbu = s.tbu.toBattery := s.enterBattery_touches.tbu
@[simp] theorem State.restoreMains_tbu (s : State) : s.restoreMains.tbu = s.tbu.toMains := s.restoreMains_touches.tbu
@[simp] theorem State.enterLow_tbu (s : State) : s.enterLow.tbu = s.tbu.toLow := by simp [State.enterLow_eq]

@[simp] theorem State.refreshSource_tbu (s : State) : s.refreshSource.tbu = s.tbu.refreshSource := by
  simp [State.refreshSource]

theorem State.refreshSource_touches (s : State) : TouchesStore (s.withTbu s.tbu.refreshSource) s.refreshSource :=
  .reportSource _ _

/-! ### Restarts -/

/-- What a warm start makes of the blocks but the TBU touches neither it nor the badges, the plan, the queue and the draws. -/
@[simp] theorem State.warmBells_tbu (s : State) : s.warmBells.tbu = s.tbu := by
  unfold State.warmBells; split <;> rfl
@[simp] theorem State.warmBells_glc (s : State) : s.warmBells.glc = s.glc := by
  unfold State.warmBells; split <;> rfl
@[simp] theorem State.warmBells_pev (s : State) : s.warmBells.pev = s.pev := by
  unfold State.warmBells; split <;> rfl
@[simp] theorem State.warmBells_btb (s : State) : s.warmBells.btb = s.btb := by
  unfold State.warmBells; split <;> rfl
@[simp] theorem State.warmBells_drc (s : State) : s.warmBells.drc = s.drc := by
  unfold State.warmBells; split <;> rfl
@[simp] theorem State.warmBells_rps (s : State) : s.warmBells.rps = s.rps := by
  unfold State.warmBells; split <;> rfl
@[simp] theorem State.warmBells_olc (s : State) : s.warmBells.olc = s.olc := by
  unfold State.warmBells; split <;> rfl
@[simp] theorem State.warmBells_pending (s : State) : s.warmBells.pending = s.pending := by
  unfold State.warmBells; split <;> rfl
@[simp] theorem State.warmBells_draws (s : State) : s.warmBells.draws = s.draws := by
  unfold State.warmBells; split <;> rfl

@[simp] theorem State.warmBlocks_tbu (s : State) : s.warmBlocks.tbu = s.tbu := State.warmBells_tbu _
@[simp] theorem State.warmBlocks_glc (s : State) : s.warmBlocks.glc = s.glc.warm := State.warmBells_glc _
@[simp] theorem State.warmBlocks_pev (s : State) : s.warmBlocks.pev = s.pev := State.warmBells_pev _
@[simp] theorem State.warmBlocks_btb (s : State) : s.warmBlocks.btb = s.btb := State.warmBells_btb _
@[simp] theorem State.warmBlocks_rps (s : State) : s.warmBlocks.rps = { s.rps with pause := false } := by
  simp [State.warmBlocks, State.warmOffice, State.freshDoors]
@[simp] theorem State.warmBlocks_olc (s : State) : s.warmBlocks.olc = { s.olc with assembly := none } := by
  simp [State.warmBlocks, State.warmOffice, State.freshDoors]
@[simp] theorem State.warmBlocks_pending (s : State) : s.warmBlocks.pending = s.pending := State.warmBells_pending _
@[simp] theorem State.warmBlocks_draws (s : State) : s.warmBlocks.draws = s.draws := State.warmBells_draws _

/-- R18, R77: the passages cancelled and the conflict set emptied. -/
def State.abandon (s : State) : State := s.cancelAll.clearConflicts

@[simp] theorem State.abandon_tbu (s : State) : s.abandon.tbu = s.tbu := by
  simp [State.abandon, State.clearConflicts, (TouchesPlant.cancelAll s).tbu]
@[simp] theorem State.abandon_glc (s : State) : s.abandon.glc = s.glc := by
  simp [State.abandon, State.clearConflicts, (TouchesPlant.cancelAll s).glc]
@[simp] theorem State.abandon_olc (s : State) : s.abandon.olc = s.olc := by
  simp [State.abandon, State.clearConflicts, (TouchesPlant.cancelAll s).olc]
@[simp] theorem State.abandon_pending (s : State) : s.abandon.pending = s.pending := by
  simp [State.abandon, State.clearConflicts, (TouchesPlant.cancelAll s).pending]

/-- R16: the reports of the warm start that ends LOW. -/
def State.wakeReports (s : State) : State :=
  ((s.abandon.withTbu s.tbu.warmFromLow).supplyReport .warmStart none).reportSource s.tbu.timeSource

theorem State.wakeReports_touches (s : State) :
    TouchesStore (s.abandon.withTbu s.tbu.warmFromLow) s.wakeReports :=
  (TouchesStore.supplyReport _ _ _).trans (.reportSource _ _)

/-- R182: a RESET, block by block. -/
theorem State.warmStart_eq (s : State) :
    s.warmStart = (s.abandon.supplyReport .warmStart none).warmBlocks.restartEvent := rfl

/-- R16: the warm start that ends LOW, block by block. -/
theorem State.warmStartFromLow_eq (s : State) : s.warmStartFromLow = s.wakeReports.warmBlocks.restartEvent := by
  unfold State.warmStartFromLow State.wakeReports
  rw [← s.abandon_tbu]
  rfl

/-- R12, R18: the RESTART event of the plant minute. -/
def Tbu.restartEvent (t : Tbu) : Tbu := t.minuteEvent ⟨.restart, plantMinute t.calendar, none⟩

@[simp] theorem State.restartEvent_tbu (s : State) : s.restartEvent.tbu = s.tbu.restartEvent := s.minuteEvent_tbu _
@[simp] theorem State.restartEvent_olc (s : State) : s.restartEvent.olc = s.olc := s.minuteEvent_olc _
@[simp] theorem State.restartEvent_pending (s : State) : s.restartEvent.pending = s.pending := s.minuteEvent_pending _

@[simp] theorem State.warmStart_tbu (s : State) : s.warmStart.tbu = s.tbu.restartEvent := by simp [State.warmStart_eq]
@[simp] theorem State.warmStart_olc (s : State) : s.warmStart.olc = { s.olc with assembly := none } := by
  simp [State.warmStart_eq, (TouchesStore.supplyReport s.abandon .warmStart none).olc]
@[simp] theorem State.warmStart_pending (s : State) : s.warmStart.pending = s.pending := by
  simp [State.warmStart_eq, (TouchesStore.supplyReport s.abandon .warmStart none).pending]

@[simp] theorem State.warmStartFromLow_tbu (s : State) :
    s.warmStartFromLow.tbu = s.tbu.warmFromLow.restartEvent := by
  simp [State.warmStartFromLow_eq, s.wakeReports_touches.tbu]
@[simp] theorem State.warmStartFromLow_olc (s : State) : s.warmStartFromLow.olc = { s.olc with assembly := none } := by
  simp [State.warmStartFromLow_eq, s.wakeReports_touches.olc]
@[simp] theorem State.warmStartFromLow_pending (s : State) : s.warmStartFromLow.pending = s.pending := by
  simp [State.warmStartFromLow_eq, s.wakeReports_touches.pending]

theorem State.warmStartFromLow_glc (s : State) : s.warmStartFromLow.glc = s.glc.warm.minuteEvent := by
  rw [State.warmStartFromLow_eq, State.restartEvent, State.minuteEvent_glc]
  simp [s.wakeReports_touches.tbu, s.wakeReports_touches.glc, Tbu.warmFromLow, Tbu.refreshSource]

theorem State.warmStart_glc (s : State) : s.warmStart.glc =
    if s.tbu.supply = .low then s.glc.warm else s.glc.warm.minuteEvent := by
  rw [State.warmStart_eq, State.restartEvent, State.minuteEvent_glc]
  simp [(TouchesStore.supplyReport s.abandon .warmStart none).glc]

/-- R17: the Time Base Unit of a cold start. -/
@[simp] theorem State.coldStart_tbu (s : State) :
    s.coldStart.tbu = { Tbu.cold with lowBatteryInput := s.tbu.lowBatteryInput } := State.warmBells_tbu _
@[simp] theorem State.coldStart_glc (s : State) : s.coldStart.glc = { Glc.cold with attention := s.glc.attention } :=
  State.warmBells_glc _
@[simp] theorem State.coldStart_pev (s : State) : s.coldStart.pev = Pev.cold := State.warmBells_pev _
@[simp] theorem State.coldStart_btb (s : State) : s.coldStart.btb = Btb.cold := State.warmBells_btb _
@[simp] theorem State.coldStart_drc (s : State) : s.coldStart.drc =
    { Drc.cold with inputs := s.drc.inputs.map fun (i : Input) => Input.cold i.closed } := State.warmBells_drc _
@[simp] theorem State.coldStart_rps (s : State) : s.coldStart.rps = Rps.cold := State.warmBells_rps _
@[simp] theorem State.coldStart_olc (s : State) : s.coldStart.olc = { Olc.cold with ready := s.olc.ready } :=
  State.warmBells_olc _
@[simp] theorem State.coldStart_pending (s : State) : s.coldStart.pending = s.pending := State.warmBells_pending _

/-! ### Both lines -/

@[simp] theorem State.weighGate_tbu (s : State) : s.weighGate.tbu = s.tbu := by unfold State.weighGate; split <;> rfl
@[simp] theorem State.weighGate_olc (s : State) : s.weighGate.olc = s.olc := by unfold State.weighGate; split <;> rfl
@[simp] theorem State.weighGate_pev (s : State) : s.weighGate.pev = s.pev := by unfold State.weighGate; split <;> rfl
@[simp] theorem State.weighGate_btb (s : State) : s.weighGate.btb = s.btb := by unfold State.weighGate; split <;> rfl
@[simp] theorem State.weighGate_sps (s : State) : s.weighGate.sps = s.sps := by unfold State.weighGate; split <;> rfl
@[simp] theorem State.weighGate_drc (s : State) : s.weighGate.drc = s.drc := by unfold State.weighGate; split <;> rfl
@[simp] theorem State.weighGate_blc (s : State) : s.weighGate.blc = s.blc := by unfold State.weighGate; split <;> rfl
@[simp] theorem State.weighGate_rps (s : State) : s.weighGate.rps = s.rps := by unfold State.weighGate; split <;> rfl
@[simp] theorem State.weighGate_pending (s : State) : s.weighGate.pending = s.pending := by
  unfold State.weighGate; split <;> rfl
@[simp] theorem State.weighGate_draws (s : State) : s.weighGate.draws = s.draws := by
  unfold State.weighGate; split <;> rfl

/-- What the office link goes on with is its transmitter alone. -/
theorem State.weighOffice_touches (s : State) :
    ∃ tr, s.weighOffice = s.withOlc { s.olc with transmitter := tr } := by
  rw [State.weighOffice_eq]
  split
  · exact ⟨s.olc.transmitter, rfl⟩
  · exact ⟨_, rfl⟩

/-- `settle` touches the gate line and the transmitter alone. -/
theorem State.settle_touches (s : State) :
    ∃ tr, s.settle = (s.withGlc s.weighGate.glc).withOlc { s.olc with transmitter := tr } := by
  obtain ⟨tr, h⟩ := s.weighGate.weighOffice_touches
  refine ⟨tr, ?_⟩
  unfold State.settle
  rw [h, State.weighGate_olc]
  unfold State.weighGate
  split <;> rfl

@[simp] theorem State.settle_tbu (s : State) : s.settle.tbu = s.tbu := by
  obtain ⟨_, h⟩ := s.settle_touches; rw [h]; rfl
@[simp] theorem State.settle_glc (s : State) : s.settle.glc = s.weighGate.glc := by
  obtain ⟨_, h⟩ := s.settle_touches; rw [h]; rfl
@[simp] theorem State.settle_pev (s : State) : s.settle.pev = s.pev := by
  obtain ⟨_, h⟩ := s.settle_touches; rw [h]; rfl
@[simp] theorem State.settle_btb (s : State) : s.settle.btb = s.btb := by
  obtain ⟨_, h⟩ := s.settle_touches; rw [h]; rfl
@[simp] theorem State.settle_sps (s : State) : s.settle.sps = s.sps := by
  obtain ⟨_, h⟩ := s.settle_touches; rw [h]; rfl
@[simp] theorem State.settle_drc (s : State) : s.settle.drc = s.drc := by
  obtain ⟨_, h⟩ := s.settle_touches; rw [h]; rfl
@[simp] theorem State.settle_blc (s : State) : s.settle.blc = s.blc := by
  obtain ⟨_, h⟩ := s.settle_touches; rw [h]; rfl
@[simp] theorem State.settle_rps (s : State) : s.settle.rps = s.rps := by
  obtain ⟨_, h⟩ := s.settle_touches; rw [h]; rfl
@[simp] theorem State.settle_settings (s : State) : s.settle.olc.settings = s.olc.settings := by
  obtain ⟨_, h⟩ := s.settle_touches; rw [h]; rfl
@[simp] theorem State.settle_pending (s : State) : s.settle.pending = s.pending := by
  obtain ⟨_, h⟩ := s.settle_touches; rw [h]; rfl
@[simp] theorem State.settle_draws (s : State) : s.settle.draws = s.draws := by
  obtain ⟨_, h⟩ := s.settle_touches; rw [h]; rfl

@[simp] theorem State.answer_tbu (u : State) (r : Reply) : (u.answer r).tbu = u.tbu := State.settle_tbu _
@[simp] theorem State.answer_pev (u : State) (r : Reply) : (u.answer r).pev = u.pev := State.settle_pev _
@[simp] theorem State.answer_btb (u : State) (r : Reply) : (u.answer r).btb = u.btb := State.settle_btb _
@[simp] theorem State.answer_sps (u : State) (r : Reply) : (u.answer r).sps = u.sps := State.settle_sps _
@[simp] theorem State.answer_drc (u : State) (r : Reply) : (u.answer r).drc = u.drc := State.settle_drc _
@[simp] theorem State.answer_blc (u : State) (r : Reply) : (u.answer r).blc = u.blc := State.settle_blc _
@[simp] theorem State.answer_rps (u : State) (r : Reply) : (u.answer r).rps = u.rps := State.settle_rps _
@[simp] theorem State.answer_settings (u : State) (r : Reply) : (u.answer r).olc.settings = u.olc.settings :=
  State.settle_settings _
@[simp] theorem State.answer_pending (u : State) (r : Reply) : (u.answer r).pending = u.pending :=
  State.settle_pending _

/-! ### Judging -/

/-- What judging a punch can come to (R59 to R67), with the checks that it has passed. -/
inductive Judged (s : State) (p : Punch) : Verdict → Prop
  | silent {code : ReplyCode} {release : Bool} : Judged s p ⟨code, release, s⟩
  | refused {dir : Option Direction} {code : ReplyCode} (room : 4 ≤ s.sparePlaces) :
      Judged s p (refused s p dir code)
  | conflict {dir : Direction} {l : LastPunch} (room : 4 ≤ s.sparePlaces) :
      Judged s p ⟨.conflict, false, s.refuseConflict p dir l⟩
  | atOnce {b : Badge} {dir : Direction} {door : Option (DoorId × Door)} (room : 4 ≤ s.sparePlaces)
      (found : s.findBadge p.badge = some b) (free : s.passageOf b.number = none) :
      Judged s p ⟨.ok, false, s.commitAtOnce p b dir (s.capture b dir p.time) door⟩
  | pending {b : Badge} {dir : Direction} {d : DoorId} {r : Door} (room : 4 ≤ s.sparePlaces)
      (found : s.findBadge p.badge = some b) (free : s.passageOf b.number = none) (door : s.drc.doors.get d = some r)
      (notFree : r.mode ≠ .free) (notLockdown : r.mode ≠ .lockdown) (notBusy : s.doorBusy d r = false) :
      Judged s p ⟨.ok, true, s.createPassage p b dir (s.capture b dir p.time) d⟩

theorem State.stationDoor_some {s : State} {c : StationConfig} {d : DoorId} {r : Door}
    (h : s.stationDoor c = some (d, r)) : c.door = some d ∧ s.drc.doors.get d = some r := by
  unfold State.stationDoor at h
  split at h
  · cases h
  · next door =>
    obtain ⟨r', found, same⟩ := Option.map_eq_some_iff.mp h
    cases same
    exact ⟨door, found⟩

/-- R66, R67: checks 11 and 12. -/
theorem State.accept_judged {s : State} {p : Punch} {b : Badge} {dir : Direction} {door : Option (DoorId × Door)}
    (room : 4 ≤ s.sparePlaces) (found : s.findBadge p.badge = some b) (isDoor : s.stationDoor p.config = door)
    (allows : doorRefusal b dir door = none) : Judged s p (s.accept p b dir (s.capture b dir p.time) door) := by
  unfold State.accept
  split
  · next d r =>
    obtain ⟨-, configured⟩ := State.stationDoor_some isDoor
    split
    · next releases =>
      split
      · exact .silent
      · next notBusy =>
        split
        · exact .refused room
        · next free =>
          refine .pending room found (by simpa using free) configured ?_ ?_ (by simpa using notBusy)
          · intro isFree; simp [wouldRelease, isFree] at releases
          · intro isLockdown; cases permitted : inSet b.doors d <;> simp [doorRefusal, isLockdown, permitted] at allows
    · split
      · exact .refused room
      · next free => exact .atOnce room found (by simpa using free)
  · split
    · exact .refused room
    · next free => exact .atOnce room found (by simpa using free)

theorem State.judge_judged (s : State) (p : Punch) : Judged s p (s.judge p) := by
  unfold State.judge
  split
  · exact .silent
  · split
    · exact .silent
    · next room =>
      have room : 4 ≤ s.sparePlaces := by omega
      split
      · exact .refused room
      · next b found =>
        unfold State.checkBadge
        dsimp only
        split
        · exact .refused room
        · split
          · exact .silent
          · split
            · exact .conflict room
            · unfold State.checkDoorOn
              dsimp only
              split
              · exact .refused room
              · next allows =>
                split
                · exact .refused room
                · split
                  · exact .refused room
                  · exact State.accept_judged room found rfl allows

/-- Judging a punch touches neither the TBU, the lines, the plan, the bells nor the queue. -/
structure TouchesStaff (s t : State) : Prop where
  tbu : t.tbu = s.tbu
  glc : t.glc = s.glc
  sps : t.sps = s.sps
  blc : t.blc = s.blc
  olc : t.olc = s.olc
  pending : t.pending = s.pending
  draws : t.draws = s.draws

theorem TouchesStaff.trans {s t u : State} (h : TouchesStaff s t) (h' : TouchesStaff t u) : TouchesStaff s u :=
  ⟨h'.tbu.trans h.tbu, h'.glc.trans h.glc, h'.sps.trans h.sps, h'.blc.trans h.blc, h'.olc.trans h.olc,
    h'.pending.trans h.pending, h'.draws.trans h.draws⟩

theorem TouchesDoors.staff {s t : State} (h : TouchesDoors s t) : TouchesStaff s t :=
  ⟨h.tbu, h.glc, h.sps, h.blc, h.olc, h.pending, h.draws⟩

theorem TouchesStaff.withPev (s : State) (x : Pev) : TouchesStaff s (s.withPev x) := ⟨rfl, rfl, rfl, rfl, rfl, rfl, rfl⟩
theorem TouchesStaff.updateBadge (s : State) (n : Nat) (f : Badge → Badge) : TouchesStaff s (s.updateBadge n f) :=
  ⟨rfl, rfl, rfl, rfl, rfl, rfl, rfl⟩

theorem TouchesStaff.fireAlarm (s : State) : TouchesStaff s s.fireAlarm := by
  obtain ⟨_, _, h⟩ := s.fireAlarm_touches
  rw [h]
  exact ⟨rfl, rfl, rfl, rfl, rfl, rfl, rfl⟩

theorem TouchesStaff.refuseConflict (s : State) (p : Punch) (dir : Direction) (l : LastPunch) :
    TouchesStaff s (s.refuseConflict p dir l) := by
  have joined : TouchesStaff s ((s.refuse p (some dir) .conflict).joinConflicts p.station l.station) :=
    (TouchesBadges.store _ _ _).doors.staff.trans (.withPev _ _)
  unfold State.refuseConflict
  dsimp only
  split
  · exact (joined.trans (TouchesStore.nonPunch _ _ _).badges.doors.staff).trans (.fireAlarm _)
  · exact joined

theorem TouchesStaff.releaseDoor (s : State) (d : DoorId) : TouchesStaff s (s.releaseDoor d) := by
  unfold State.releaseDoor
  split
  · exact (TouchesDoors.refl s).staff
  · exact (TouchesDoors.setDoor _ _ _).staff

theorem Judged.staff {s : State} {p : Punch} {v : Verdict} (h : Judged s p v) : TouchesStaff s v.state := by
  cases h with
  | silent => exact (TouchesDoors.refl s).staff
  | refused _ => exact (TouchesBadges.store _ _ _).doors.staff
  | conflict _ => exact .refuseConflict _ _ _ _
  | atOnce _ _ _ => exact (TouchesStaff.updateBadge _ _ _).trans (TouchesBadges.commitWork _ _).doors.staff
  | pending _ _ _ _ _ _ _ => exact ((TouchesStaff.withPev _ _).trans (.updateBadge _ _ _)).trans (.releaseDoor _ _)

theorem TouchesStaff.judge (s : State) (p : Punch) : TouchesStaff s (s.judge p).state := (s.judge_judged p).staff

/-! ### Releases and conflicts -/

/-- R88: a release touches its door alone. -/
theorem State.releaseDoor_touches (s : State) (d : DoorId) : ∃ r, s.releaseDoor d = s.setDoor d r := by
  unfold State.releaseDoor
  split
  · next unconfigured =>
    refine ⟨none, ?_⟩
    unfold State.setDoor State.withDrc
    have same : s.drc.doors.set d none = s.drc.doors := Table.ext_get _ _ fun i => by
      rw [Table.get_set]
      split
      · next h => rw [← h, unconfigured]
      · rfl
    rw [same]
  · exact ⟨_, rfl⟩

theorem State.releaseDoor_pev (s : State) (d : DoorId) : (s.releaseDoor d).pev = s.pev := by
  obtain ⟨_, h⟩ := s.releaseDoor_touches d; rw [h]; rfl
theorem State.releaseDoor_btb (s : State) (d : DoorId) : (s.releaseDoor d).btb = s.btb := by
  obtain ⟨_, h⟩ := s.releaseDoor_touches d; rw [h]; rfl
theorem State.releaseDoor_rps (s : State) (d : DoorId) : (s.releaseDoor d).rps = s.rps := by
  obtain ⟨_, h⟩ := s.releaseDoor_touches d; rw [h]; rfl

/-- R51: the two station ids join the conflict set; a CONFLICT report and the alarm output follow where it was empty. -/
theorem State.refuseConflict_touches (s : State) (p : Punch) (dir : Direction) (l : LastPunch) : ∃ r a t,
    s.refuseConflict p dir l = (((s.refuse p (some dir) .conflict).joinConflicts p.station l.station).withRps r).withDrc
      { s.drc with alarm := a, pulseTimer := t } := by
  unfold State.refuseConflict
  dsimp only
  split
  · obtain ⟨r, reported⟩ := ((s.refuse p (some dir) .conflict).joinConflicts p.station l.station).nonPunch_touches
      .conflict (.conflict ⟨p.badge, p.station, l.station, p.config.zone, p.time, l.time, s.tbu.calendar⟩)
    rw [reported]
    obtain ⟨a, t, fired⟩ := (((s.refuse p (some dir) .conflict).joinConflicts p.station l.station).withRps
      r).fireAlarm_touches
    exact ⟨r, a, t, fired⟩
  · exact ⟨_, s.drc.alarm, s.drc.pulseTimer, rfl⟩

theorem State.refuseConflict_btb (s : State) (p : Punch) (dir : Direction) (l : LastPunch) :
    (s.refuseConflict p dir l).btb = s.btb := by
  obtain ⟨_, _, _, h⟩ := s.refuseConflict_touches p dir l; rw [h]; rfl
theorem State.refuseConflict_passages (s : State) (p : Punch) (dir : Direction) (l : LastPunch) :
    (s.refuseConflict p dir l).pev.passages = s.pev.passages := by
  obtain ⟨_, _, _, h⟩ := s.refuseConflict_touches p dir l; rw [h]; rfl

/-! ### Gate line events -/

/-- A punch under a grant: the frame is taken, the punch judged, and the reply sent. -/
@[simp] theorem State.punchUnderGrant_tbu (s : State) (gr : Grant) (c : StationConfig) (badge age : Nat) (more : Bool) :
    (s.punchUnderGrant gr c badge age more).tbu = s.tbu := (TouchesStaff.judge _ _).tbu
@[simp] theorem State.punchUnderGrant_olc (s : State) (gr : Grant) (c : StationConfig) (badge age : Nat) (more : Bool) :
    (s.punchUnderGrant gr c badge age more).olc = s.olc := (TouchesStaff.judge _ _).olc
@[simp] theorem State.punchUnderGrant_blc (s : State) (gr : Grant) (c : StationConfig) (badge age : Nat) (more : Bool) :
    (s.punchUnderGrant gr c badge age more).blc = s.blc := (TouchesStaff.judge _ _).blc
@[simp] theorem State.punchUnderGrant_pending (s : State) (gr : Grant) (c : StationConfig) (badge age : Nat)
    (more : Bool) : (s.punchUnderGrant gr c badge age more).pending = s.pending := (TouchesStaff.judge _ _).pending

/-- `t` is `s` but for the gate line and the report store. -/
def TouchesGate (s t : State) : Prop := ∃ g r, t = (s.withGlc g).withRps r

theorem TouchesGate.trans {s t u : State} (h : TouchesGate s t) (h' : TouchesGate t u) : TouchesGate s u := by
  obtain ⟨_, _, rfl⟩ := h
  obtain ⟨g, r, rfl⟩ := h'
  exact ⟨g, r, rfl⟩

theorem TouchesGate.refl (s : State) : TouchesGate s s := ⟨s.glc, s.rps, rfl⟩
theorem TouchesGate.withGlc (s : State) (g : Glc) : TouchesGate s (s.withGlc g) := ⟨g, s.rps, rfl⟩
theorem TouchesStore.gate {s t : State} (h : TouchesStore s t) : TouchesGate s t := by
  obtain ⟨r, rfl⟩ := h
  exact ⟨s.glc, r, rfl⟩

section Gate

variable {s t : State}

theorem TouchesGate.tbu (h : TouchesGate s t) : t.tbu = s.tbu := by obtain ⟨_, _, rfl⟩ := h; rfl
theorem TouchesGate.pev (h : TouchesGate s t) : t.pev = s.pev := by obtain ⟨_, _, rfl⟩ := h; rfl
theorem TouchesGate.btb (h : TouchesGate s t) : t.btb = s.btb := by obtain ⟨_, _, rfl⟩ := h; rfl
theorem TouchesGate.sps (h : TouchesGate s t) : t.sps = s.sps := by obtain ⟨_, _, rfl⟩ := h; rfl
theorem TouchesGate.drc (h : TouchesGate s t) : t.drc = s.drc := by obtain ⟨_, _, rfl⟩ := h; rfl
theorem TouchesGate.blc (h : TouchesGate s t) : t.blc = s.blc := by obtain ⟨_, _, rfl⟩ := h; rfl
theorem TouchesGate.olc (h : TouchesGate s t) : t.olc = s.olc := by obtain ⟨_, _, rfl⟩ := h; rfl
theorem TouchesGate.pending (h : TouchesGate s t) : t.pending = s.pending := by obtain ⟨_, _, rfl⟩ := h; rfl

end Gate

theorem TouchesStore.statusReports (s : State) (id : StationId) (tamper fault : Bool) :
    TouchesStore s (s.statusReports id tamper fault) := by
  have first : TouchesStore s (if tamper then s.stationReport id .tamper else s) := by
    split
    · exact .stationReport _ _ _
    · exact .refl s
  unfold State.statusReports
  dsimp only
  split
  · exact first.trans (.stationReport _ _ _)
  · exact first

theorem TouchesGate.statusUnderGrant (s : State) (gr : Grant) (c : StationConfig) (tamper fault : Bool) :
    TouchesGate s (s.statusUnderGrant gr c tamper fault) :=
  ((TouchesGate.withGlc _ _).trans (TouchesStore.statusReports _ _ _ _).gate).trans (.withGlc _ _)

theorem TouchesGate.restoreStation (s : State) (id : StationId) : TouchesGate s (s.restoreStation id) := by
  unfold State.restoreStation
  dsimp only
  split
  · exact (TouchesGate.withGlc _ _).trans (TouchesStore.stationReport _ _ _).gate
  · exact .refl s

theorem TouchesGate.probeAnswer (s : State) (id : StationId) (tamper fault : Bool) :
    TouchesGate s (s.probeAnswer id tamper fault) :=
  ((TouchesGate.restoreStation _ _).trans (TouchesStore.statusReports _ _ _ _).gate).trans (.withGlc _ _)

theorem TouchesGate.grantTimeout (s : State) (gr : Grant) : TouchesGate s (s.grantTimeout gr) := by
  unfold State.grantTimeout
  dsimp only
  split
  · exact ((TouchesGate.withGlc s _).trans (.withGlc _ _)).trans (TouchesStore.stationReport _ _ _).gate
  · exact (TouchesGate.withGlc s _).trans (.withGlc _ _)

theorem TouchesGate.resumeStation (s : State) (id : StationId) (r : Station) : TouchesGate s (s.resumeStation id r) :=
  ((TouchesGate.withGlc s _).trans (.withGlc _ _)).trans (TouchesStore.stationReport _ _ _).gate

/-! ### The office link and the clock -/

/-- R173, log 9: with a reply sent, both lines go on, at once or when the waiting command is taken; a free choice may have
been drawn. -/
theorem State.replySent_cases (s : State) : ∃ n,
    s.replySent = ((s.withOlc { s.olc with transmitter := .idle, slot := none }).withDraws n).settle
      ∨ (s.olc.assembly.isSome = true
        ∧ s.replySent = (s.withOlc { s.olc with transmitter := .idle, slot := none }).withDraws n) := by
  unfold State.replySent
  dsimp only
  split
  · exact ⟨s.draws, .inl rfl⟩
  · next waits =>
    split
    · exact ⟨_, .inl rfl⟩
    · exact ⟨_, .inr ⟨by simpa [Option.isSome_iff_ne_none] using waits, rfl⟩⟩

@[simp] theorem State.replySent_tbu (s : State) : s.replySent.tbu = s.tbu := by
  obtain ⟨n, h | ⟨-, h⟩⟩ := s.replySent_cases
  · rw [h, State.settle_tbu]; rfl
  · rw [h]; rfl
@[simp] theorem State.replySent_pev (s : State) : s.replySent.pev = s.pev := by
  obtain ⟨n, h | ⟨-, h⟩⟩ := s.replySent_cases
  · rw [h, State.settle_pev]; rfl
  · rw [h]; rfl
@[simp] theorem State.replySent_btb (s : State) : s.replySent.btb = s.btb := by
  obtain ⟨n, h | ⟨-, h⟩⟩ := s.replySent_cases
  · rw [h, State.settle_btb]; rfl
  · rw [h]; rfl
@[simp] theorem State.replySent_sps (s : State) : s.replySent.sps = s.sps := by
  obtain ⟨n, h | ⟨-, h⟩⟩ := s.replySent_cases
  · rw [h, State.settle_sps]; rfl
  · rw [h]; rfl
@[simp] theorem State.replySent_drc (s : State) : s.replySent.drc = s.drc := by
  obtain ⟨n, h | ⟨-, h⟩⟩ := s.replySent_cases
  · rw [h, State.settle_drc]; rfl
  · rw [h]; rfl
@[simp] theorem State.replySent_blc (s : State) : s.replySent.blc = s.blc := by
  obtain ⟨n, h | ⟨-, h⟩⟩ := s.replySent_cases
  · rw [h, State.settle_blc]; rfl
  · rw [h]; rfl
@[simp] theorem State.replySent_rps (s : State) : s.replySent.rps = s.rps := by
  obtain ⟨n, h | ⟨-, h⟩⟩ := s.replySent_cases
  · rw [h, State.settle_rps]; rfl
  · rw [h]; rfl
@[simp] theorem State.replySent_settings (s : State) : s.replySent.olc.settings = s.olc.settings := by
  obtain ⟨n, h | ⟨-, h⟩⟩ := s.replySent_cases
  · rw [h, State.settle_settings]; rfl
  · rw [h]; rfl
@[simp] theorem State.replySent_pending (s : State) : s.replySent.pending = s.pending := by
  obtain ⟨n, h | ⟨-, h⟩⟩ := s.replySent_cases
  · rw [h, State.settle_pending]; rfl
  · rw [h]; rfl

theorem State.tick_tbu (s : State) : s.tick.tbu = if s.tbu.running then s.tbu.tick else s.tbu := by
  unfold State.tick
  split
  · dsimp only; split <;> rfl
  · rfl
@[simp] theorem State.tick_pev (s : State) : s.tick.pev = s.pev := by
  unfold State.tick
  split
  · dsimp only; split <;> rfl
  · rfl
@[simp] theorem State.tick_btb (s : State) : s.tick.btb = s.btb := by
  unfold State.tick
  split
  · dsimp only; split <;> rfl
  · rfl
@[simp] theorem State.tick_sps (s : State) : s.tick.sps = s.sps := by
  unfold State.tick
  split
  · dsimp only; split <;> rfl
  · rfl
@[simp] theorem State.tick_rps (s : State) : s.tick.rps = s.rps := by
  unfold State.tick
  split
  · dsimp only; split <;> rfl
  · rfl
@[simp] theorem State.tick_olc (s : State) : s.tick.olc = s.olc := by
  unfold State.tick
  split
  · dsimp only; split <;> rfl
  · rfl
@[simp] theorem State.tick_pending (s : State) : s.tick.pending = s.pending := by
  unfold State.tick
  split
  · dsimp only; split <;> rfl
  · rfl
@[simp] theorem State.tick_supply (s : State) : s.tick.tbu.supply = s.tbu.supply := by
  rw [State.tick_tbu]; split <;> rfl

end Sys2Proof.Machine
end

section
/-!
PROOFS. The condition on the Time Base Unit (chapter 1): what every change of the supply and every second boundary makes of
it, and the obligation O56.
-/

namespace Sys2Proof.Machine

open Sys2Proof

/-! ### The calendar and the minute boundary event of a boundary -/

/-- R12: the Time Base Unit with the minute boundary event of a boundary taken, if there is one. -/
def Tbu.takeEvent (t : Tbu) (e : Option MinuteEvent) : Tbu := (e.map t.minuteEvent).getD t

@[simp] theorem State.minuteEvent?_tbu (s : State) (e : Option MinuteEvent) :
    (s.minuteEvent? e).tbu = s.tbu.takeEvent e := by
  cases e with
  | none => rfl
  | some m => exact s.minuteEvent_tbu m

/-- R8 to R12: the calendar of a boundary stays in its range and keeps no pending time, and where its minute changes the
boundary raises the event of the new one. -/
structure CalendarKept (t : Tbu) (work : CalendarWork) : Prop where
  range : work.tbu.calendar ≤ Config.lastReading
  pendingTime : work.tbu.pendingTime = none
  noEvent : work.event = none → plantMinute work.tbu.calendar = plantMinute t.calendar
    ∧ work.tbu.calendarValid = t.calendarValid
  event : ∀ e, work.event = some e → e.minute = plantMinute work.tbu.calendar

theorem Tbu.advance_kept {t : Tbu}
    (pending : ∀ p, t.pendingTime = some p → p ≤ Config.lastReading) : CalendarKept t t.advance := by
  unfold Tbu.advance
  split
  · next new held =>
    exact ⟨pending new held, rfl, fun none => Option.noConfusion rfl (heq_of_eq none), fun e same => by cases same; rfl⟩
  · next held =>
    split
    · exact ⟨Nat.zero_le _, held, fun none => Option.noConfusion rfl (heq_of_eq none),
        fun e same => by cases same; exact (Nat.zero_div 60).symm⟩
    · next before =>
      refine ⟨by dsimp only; omega, held, fun none => ⟨?_, rfl⟩, fun e same => ?_⟩
      · dsimp only at none ⊢
        split at none
        · cases none
        · unfold plantMinute; omega
      · dsimp only at same
        split at same
        · cases same; rfl
        · cases same

/-- The boundary takes over from the calendar's work everything but the fields that R5 and R7 give. -/
theorem Tbu.advance_frame (t : Tbu) : ∃ c v p, t.advance.tbu = { t with calendar := c, calendarValid := v, pendingTime := p } := by
  unfold Tbu.advance
  split
  · exact ⟨_, _, _, rfl⟩
  · split
    · exact ⟨_, _, t.pendingTime, rfl⟩
    · exact ⟨_, t.calendarValid, t.pendingTime, rfl⟩

/-- R5, R7, R8: a boundary, field by field, on the calendar that the advance gives. -/
theorem Tbu.boundary_eq (t : Tbu) : t.boundary = { t with
    calendar := t.advance.tbu.calendar
    calendarValid := t.advance.tbu.calendarValid
    pendingTime := t.advance.tbu.pendingTime
    prescaler := 0
    cycleCounter := 0
    sourceInEffect := t.sourceSetting
    frequencyInEffect := t.frequencySetting
    qualification := t.countAfter
    mainsWatch := if t.qualifies then .present else t.mainsWatch
    gapTime := if t.qualifies then 0 else t.gapTime } := by
  obtain ⟨c, v, p, h⟩ := t.advance_frame
  unfold Tbu.boundary
  rw [h]

/-- R5: the count stays below 30. -/
theorem Tbu.countAfter_lt {t : Tbu} (h : t.qualification < 30) : t.countAfter < 30 := by
  unfold Tbu.countAfter Tbu.qualifies
  cases judged : t.judged
  · simpa using h
  · cases good : t.good
    · simp
    · simp
      split <;> omega

/-! ### Between two seconds -/

/-- The conditions on the Time Base Unit that do not depend on what drives the second in progress. -/
structure Tbu.Between (t : Tbu) : Prop where
  calendar : t.calendar ≤ Config.lastReading
  minute : t.lastMinute = plantMinute t.calendar
  accumulator : -Config.trimDivisor < t.trimAccumulator ∧ t.trimAccumulator < Config.trimDivisor
  trims : -999 ≤ t.trimSetting ∧ t.trimSetting ≤ 999 ∧ -999 ≤ t.trimInEffect ∧ t.trimInEffect ≤ 999
  qualification : t.qualification < 30
  supply : t.supply = .mains ↔ t.mainsWatch = .present
  source : t.timeSource = timeSourceOf t.sourceInEffect t.mainsWatch
  sampling : t.lowBatteryTimer.isSome = true ↔ t.supply = .battery
  samples : t.lowBatterySamples.length ≤ 2
  pendingTime : ∀ p, t.pendingTime = some p → p ≤ Config.lastReading ∧ t.supply ≠ .low
  backup : t.running = false ∨ t.backupIntact = false → t.supply = .low

theorem TimeOk.between {s : State} (h : TimeOk s) : s.tbu.Between :=
  ⟨h.calendar, h.minute, h.accumulator, h.trims, h.qualification, h.supply, h.source, h.sampling, h.samples,
    h.pendingTime, h.backup⟩

/-- R12: the event of a minute boundary keeps the conditions once it is noted for the plant minute. -/
theorem Tbu.Between.minuteEvent {t : Tbu} {e : MinuteEvent} (minute : e.minute = plantMinute t.calendar)
    (h : { t with lastMinute := plantMinute t.calendar }.Between) : (t.minuteEvent e).Between := by
  obtain ⟨trim1, trim2, -, -⟩ := h.trims
  exact ⟨h.calendar, minute, h.accumulator, ⟨trim1, trim2, trim1, trim2⟩, h.qualification, h.supply, h.source, h.sampling,
    h.samples, h.pendingTime, h.backup⟩

/-- R1, R3, R5: the next second begins. -/
theorem TimeOk.startSecond {s t : State} (h : t.tbu.Between) (same : s.tbu = t.tbu.startSecond) : TimeOk s := by
  have start : TimeOk (t.withTbu t.tbu.startSecond) := by
    unfold Tbu.startSecond
    dsimp only
    by_cases locked : t.tbu.timeSource = .mainsLocked
    · rw [if_pos locked]
      exact {
        calendar := h.calendar, minute := h.minute, accumulator := h.accumulator, trims := h.trims
        qualification := h.qualification, supply := h.supply, source := h.source
        driver := ⟨fun _ => rfl, fun _ => locked⟩
        second := fun _ e => SecondEnd.noConfusion e
        sampling := h.sampling, samples := h.samples, pendingTime := h.pendingTime, backup := h.backup
        judged := fun e => by simpa using e }
    · rw [if_neg locked]
      obtain ⟨low, high, n, second, short, long⟩ := Tbu.accumulate_bounds
        { t.tbu with secondBeganAbsent := decide (t.tbu.mainsWatch = .absent) }
        h.accumulator.1 h.accumulator.2 h.trims.2.2.1 h.trims.2.2.2
      exact {
        calendar := h.calendar, minute := h.minute, accumulator := ⟨low, high⟩, trims := h.trims
        qualification := h.qualification, supply := h.supply, source := h.source
        driver := ⟨fun e => absurd e locked, fun e => SecondEnd.noConfusion (second.symm.trans e)⟩
        second := fun m e => by
          cases second.symm.trans e
          exact ⟨short, long⟩
        sampling := h.sampling, samples := h.samples, pendingTime := h.pendingTime, backup := h.backup
        judged := fun e => by simpa [Tbu.accumulate] using e }
  exact start.congr same

/-! ### A second boundary -/

/-- R14, R16: the Time Base Unit after the qualification of a boundary is followed, before the next second begins. -/
def Tbu.followReturn (t b : Tbu) (e : Option MinuteEvent) : Tbu :=
  if t.qualifies then
    match t.supply with
    | .battery => b.toMains.takeEvent e
    | .low => if t.backupIntact then b.warmFromLow.restartEvent
      else { Tbu.cold with lowBatteryInput := t.lowBatteryInput }
    | .mains => b.refreshSource.takeEvent e
  else b.refreshSource.takeEvent e

/-- R8: a second boundary in the Time Base Unit. -/
theorem State.secondBoundary_tbu (s : State) :
    s.secondBoundary.tbu = (s.tbu.followReturn s.tbu.boundary s.tbu.advance.event).startSecond := by
  unfold State.secondBoundary Tbu.followReturn
  dsimp only
  rw [State.withTbu_tbu]
  congr 1
  split
  · unfold State.mainsReturn
    have boundary := s.tbu.boundary_eq
    simp only [State.timeReport_tbu, State.withTbu_tbu]
    rw [show s.tbu.boundary.supply = s.tbu.supply by rw [boundary],
      show s.tbu.boundary.backupIntact = s.tbu.backupIntact by rw [boundary]]
    cases s.tbu.supply with
    | mains => simp
    | battery => simp
    | low =>
      dsimp only
      split
      · simp
      · simp [show s.tbu.boundary.lowBatteryInput = s.tbu.lowBatteryInput by rw [boundary]]
  · simp

theorem Tbu.cold_between (input : Bool) : { Tbu.cold with lowBatteryInput := input }.Between where
  calendar := (by decide : Tbu.cold.calendar ≤ Config.lastReading)
  minute := (by decide : Tbu.cold.lastMinute = plantMinute Tbu.cold.calendar)
  accumulator := (by decide : -Config.trimDivisor < Tbu.cold.trimAccumulator
    ∧ Tbu.cold.trimAccumulator < Config.trimDivisor)
  trims := (by decide : -999 ≤ Tbu.cold.trimSetting ∧ Tbu.cold.trimSetting ≤ 999 ∧ -999 ≤ Tbu.cold.trimInEffect
    ∧ Tbu.cold.trimInEffect ≤ 999)
  qualification := (by decide : Tbu.cold.qualification < 30)
  supply := ⟨fun _ => rfl, fun _ => rfl⟩
  source := rfl
  sampling := ⟨fun e => Bool.noConfusion e, fun e => Supply.noConfusion e⟩
  samples := Nat.zero_le 2
  pendingTime := fun _ e => Option.noConfusion rfl (heq_of_eq e)
  backup := fun e => by rcases e with e | e <;> cases e

/-- R5, R8: the conditions on the calendar and the count after a boundary, whatever the supply becomes. -/
structure Tbu.Advanced (t : Tbu) : Prop where
  calendar : t.calendar ≤ Config.lastReading
  accumulator : -Config.trimDivisor < t.trimAccumulator ∧ t.trimAccumulator < Config.trimDivisor
  trims : -999 ≤ t.trimSetting ∧ t.trimSetting ≤ 999 ∧ -999 ≤ t.trimInEffect ∧ t.trimInEffect ≤ 999
  qualification : t.qualification < 30
  samples : t.lowBatterySamples.length ≤ 2
  pendingTime : t.pendingTime = none

theorem Tbu.Between.boundary {t : Tbu} (h : t.Between) : t.boundary.Advanced := by
  have kept := Tbu.advance_kept fun p held => (h.pendingTime p held).1
  rw [t.boundary_eq]
  exact ⟨kept.range, h.accumulator, h.trims, Tbu.countAfter_lt h.qualification, h.samples, kept.pendingTime⟩

/-- R12: with the event of the boundary taken, the last minute is the plant minute. -/
theorem Tbu.Between.takeEvent {t b : Tbu} (h : t.Between) (calendar : b.calendar = t.boundary.calendar)
    (lastMinute : b.lastMinute = t.lastMinute) (ok : { b with lastMinute := plantMinute b.calendar }.Between) :
    (b.takeEvent t.advance.event).Between := by
  have kept := Tbu.advance_kept fun p held => (h.pendingTime p held).1
  rw [t.boundary_eq] at calendar
  unfold Tbu.takeEvent
  cases event : t.advance.event with
  | none =>
    have same : b.lastMinute = plantMinute b.calendar := by
      rw [lastMinute, calendar, (kept.noEvent event).1, h.minute]
    have : b = { b with lastMinute := plantMinute b.calendar } := by rw [← same]
    exact this ▸ ok
  | some e => exact .minuteEvent (by rw [kept.event e event, calendar]) ok

/-- R14, R16: what follows a boundary keeps the conditions. -/
theorem Tbu.Between.followReturn {t : Tbu} (h : t.Between) (running : t.running = true) :
    (t.followReturn t.boundary t.advance.event).Between := by
  have adv := h.boundary
  have backup : t.supply ≠ .low → ∀ P : Prop, t.running = false ∨ t.backupIntact = false → P :=
    fun notLow _ e => absurd (h.backup e) notLow
  have noPending : ∀ p, t.boundary.pendingTime ≠ some p := by simp [adv.pendingTime]
  have frame := t.boundary_eq
  have supplyKept : t.boundary.supply = t.supply := by rw [frame]
  unfold Tbu.followReturn
  by_cases qualified : t.qualifies = true
  · rw [if_pos qualified]
    have present : t.boundary.mainsWatch = .present := by rw [frame]; simp [qualified]
    cases supply : t.supply with
    | mains =>
      refine h.takeEvent rfl (by rw [frame]; rfl) ⟨adv.calendar, rfl, adv.accumulator, adv.trims, adv.qualification,
        ⟨fun _ => present, fun _ => supplyKept.trans supply⟩, rfl, ?_, adv.samples, fun p e => absurd e (noPending p), ?_⟩
      · have := h.sampling
        rw [frame]; exact this
      · rw [frame]; exact backup (by rw [supply]; decide) _
    | battery =>
      refine h.takeEvent rfl (by rw [frame]; rfl) ⟨adv.calendar, rfl, adv.accumulator, adv.trims, adv.qualification,
        ⟨fun _ => present, fun _ => rfl⟩, rfl, ⟨fun e => Bool.noConfusion e, fun e => Supply.noConfusion e⟩,
        Nat.zero_le 2, fun p e => absurd e (noPending p), ?_⟩
      rw [frame]; exact backup (by rw [supply]; decide) _
    | low =>
      dsimp only
      split
      · next intact =>
        obtain ⟨trim1, trim2, -, -⟩ := adv.trims
        exact .minuteEvent rfl ⟨adv.calendar, rfl, adv.accumulator, ⟨trim1, trim2, trim1, trim2⟩, adv.qualification,
          ⟨fun _ => present, fun _ => rfl⟩, rfl, ⟨fun e => Bool.noConfusion e, fun e => Supply.noConfusion e⟩,
          Nat.zero_le 2, fun p e => absurd e (noPending p), by rw [frame]; simp [Tbu.warmFromLow, Tbu.refreshSource,
            running, intact]⟩
      · exact Tbu.cold_between _
  · rw [if_neg qualified]
    refine h.takeEvent rfl (by rw [frame]; rfl) ⟨adv.calendar, rfl, adv.accumulator, adv.trims, adv.qualification, ?_, rfl,
      ?_, adv.samples, fun p e => absurd e (noPending p), ?_⟩
    · have := h.supply
      rw [frame]; simpa [qualified, Tbu.refreshSource] using this
    · have := h.sampling
      rw [frame]; exact this
    · have := h.backup
      rw [frame]; exact this

/-- R8: a second boundary of a running Time Base Unit keeps its condition. -/
theorem TimeOk.secondBoundary {s : State} (h : TimeOk s) (running : s.tbu.running = true) : TimeOk s.secondBoundary :=
  TimeOk.startSecond (t := s.withTbu (s.tbu.followReturn s.tbu.boundary s.tbu.advance.event))
    (h.between.followReturn running) s.secondBoundary_tbu

@[simp] theorem Tbu.startSecond_running (t : Tbu) : t.startSecond.running = t.running := by
  unfold Tbu.startSecond; dsimp only; split <;> rfl

@[simp] theorem Tbu.takeEvent_running (t : Tbu) (e : Option MinuteEvent) : (t.takeEvent e).running = t.running := by
  cases e <;> rfl

theorem State.secondBoundary_running {s : State} (running : s.tbu.running = true) :
    s.secondBoundary.tbu.running = true := by
  have boundary : s.tbu.boundary.running = true := by rw [Tbu.boundary_eq]; exact running
  rw [State.secondBoundary_tbu, Tbu.startSecond_running]
  unfold Tbu.followReturn
  split
  · split
    · rw [Tbu.takeEvent_running]; exact boundary
    · split
      · exact boundary
      · rfl
    · rw [Tbu.takeEvent_running]; exact boundary
  · rw [Tbu.takeEvent_running]; exact boundary

theorem TimeOk.secondBoundaries (n : Nat) {s : State} (h : TimeOk s) (running : s.tbu.running = true) :
    TimeOk (s.secondBoundaries n) := by
  induction n generalizing s with
  | zero => exact h
  | succ n ih => exact ih (h.secondBoundary running) (State.secondBoundary_running running)

/-! ### Losses and returns -/

theorem TimeOk.withTbu_of_eq {s : State} {x : Tbu} (h : TimeOk (s.withTbu x)) {t : State} (same : t.tbu = x) : TimeOk t :=
  h.congr same

/-- R4, R14: a mains loss in MAINS, before a boundary that it may bring. -/
theorem TimeOk.loseInMains {s : State} (h : TimeOk s) (supply : s.tbu.supply = .mains) :
    TimeOk (s.withTbu s.tbu.lose).enterBattery := by
  refine TimeOk.withTbu_of_eq (s := s) ?_ (State.enterBattery_tbu _)
  exact {
    calendar := h.calendar, minute := h.minute, accumulator := h.accumulator, trims := h.trims
    qualification := Nat.zero_lt_succ 29
    supply := ⟨fun e => Supply.noConfusion e, fun e => MainsWatch.noConfusion e⟩
    source := rfl
    driver := by
      refine ⟨fun e => absurd e (timeSourceOf_absent _), fun e => ?_⟩
      simp only [State.withTbu_tbu, Tbu.toBattery, Tbu.lose, Tbu.refreshSource] at e
      split at e
      · cases e
      · next notLocked => exact absurd (h.driver.mpr e) notLocked
    second := fun n e => by
      simp only [State.withTbu_tbu, Tbu.toBattery, Tbu.lose, Tbu.refreshSource] at e
      split at e
      · cases e; decide
      · exact h.second n e
    sampling := ⟨fun _ => rfl, fun _ => rfl⟩
    samples := Nat.zero_le 2
    pendingTime := fun p e => ⟨(h.pendingTime p e).1, Supply.noConfusion⟩
    backup := fun e => by cases supply.symm.trans (h.backup e)
    judged := fun _ => rfl }

/-- R4, R14: the declaration of a mains loss. -/
theorem TimeOk.mainsLoss {s : State} (h : TimeOk s) (running : s.tbu.running = true)
    (present : s.tbu.mainsWatch = .present) : TimeOk s.mainsLoss := by
  have supply : s.tbu.supply = .mains := h.supply.mpr present
  have battery := h.loseInMains supply
  have stillRuns : (s.withTbu s.tbu.lose).enterBattery.tbu.running = true := by
    rw [State.enterBattery_tbu]; exact running
  unfold State.mainsLoss
  dsimp only
  rw [if_pos supply]
  split
  · exact battery.secondBoundary stillRuns
  · exact battery

/-- R15: a sample in BATTERY. -/
theorem TimeOk.sampleBattery {s : State} (h : TimeOk s) (battery : s.tbu.supply = .battery) (asserted : Bool) :
    TimeOk (s.withTbu (s.tbu.sampleBattery asserted)) :=
  { h with
    sampling := ⟨fun _ => battery, fun _ => rfl⟩
    samples := List.length_take_le 2 _ }

/-- R15: entry to LOW from BATTERY. -/
theorem TimeOk.enterLow {s : State} (h : TimeOk s) (battery : s.tbu.supply = .battery) : TimeOk s.enterLow := by
  refine TimeOk.withTbu_of_eq (s := s) ?_ s.enterLow_tbu
  exact { h with
    supply := ⟨fun e => Supply.noConfusion e, fun e => by cases battery.symm.trans (h.supply.mpr e)⟩
    sampling := ⟨fun e => Bool.noConfusion e, fun e => Supply.noConfusion e⟩
    pendingTime := fun _ e => Option.noConfusion rfl (heq_of_eq e)
    backup := fun _ => rfl }

/-- R16: the Time Base Unit after the loss of its backup domain counts on the crystal again. -/
theorem Tbu.Between.restartLost {t : Tbu} (h : t.Between) (low : t.supply = .low) (n : Nat) :
    { t with
      running := true
      frequencySetting := if Config.freeFrequencyIs60 n then .hz60 else .hz50
      frequencyInEffect := if Config.freeFrequencyIs60 n then .hz60 else .hz50
      trimSetting := inRange 999 1999 (Config.freeTrim n)
      trimInEffect := inRange 999 1999 (Config.freeTrim n)
      trimAccumulator := openAccumulator n
      prescaler := 0
      cycleCounter := 0
      mainsWatch := .absent
      qualification := 0 }.refreshSource.Between := by
  obtain ⟨trim1, trim2⟩ := inRange_bounds 999 1999 (Config.freeTrim n) (by decide)
  have trim3 : inRange 999 1999 (Config.freeTrim n) ≤ 999 := by omega
  obtain ⟨acc1, acc2⟩ := inRange_bounds 9999999 19999999 (Config.freeAccumulator n) (by decide)
  refine ⟨h.calendar, h.minute, ?_, ⟨trim1, trim3, trim1, trim3⟩, Nat.zero_lt_succ 29, ?_, rfl, h.sampling, h.samples,
    h.pendingTime, fun _ => low⟩
  · unfold Tbu.refreshSource openAccumulator Config.trimDivisor
    constructor <;> dsimp only <;> omega
  · show t.supply = .mains ↔ MainsWatch.absent = .present
    simp [low]

theorem TimeOk.restartLost {s : State} (h : TimeOk s) (low : s.tbu.supply = .low) (n : Nat) :
    TimeOk (s.withTbu (s.tbu.restartLost n)) :=
  TimeOk.startSecond (t := s.withTbu _) (h.between.restartLost low n) rfl

theorem TimeOk.atOpenTick {s : State} (h : TimeOk s) (n : Nat) : TimeOk (s.withTbu (s.tbu.atOpenTick n)) := by
  unfold Tbu.atOpenTick
  split
  · exact h
  · exact { h with }

/-- R16: an outage of open length. -/
theorem TimeOk.outlast {s : State} (h : TimeOk s) (running : s.tbu.running = true) : TimeOk s.outlast :=
  ((h.secondBoundaries _ running).atOpenTick _).congr rfl

/-! ### Every step -/

/-- What a command does to the Time Base Unit. -/
theorem TimeOk.command {s u : State} (h : TimeOk s) (notLow : s.tbu.supply ≠ .low) (work : CommandEffect s u) : TimeOk u := by
  have plant : ∀ {t : State}, TouchesPlant s t → TimeOk t := fun touches => h.congr touches.tbu
  cases work with
  | nothing => exact h
  | setTime range =>
    exact { h with pendingTime := fun p held => by cases held; exact ⟨range, notLow⟩ }
  | putStation _ => exact h.congr rfl
  | resumeStation _ _ => exact h.congr (TouchesStore.stationReport _ _ _).tbu
  | display _ => exact h.congr rfl
  | replaceBadge _ _ => exact h.congr rfl
  | insertBadge _ _ _ => exact h.congr rfl
  | removeBadge _ _ => exact h.congr rfl
  | setPresence _ _ _ => exact h.congr rfl
  | clearConflicts => exact h.congr rfl
  | putInput => exact plant (.putInput _ _ _ _)
  | removeDoor _ => exact plant (.setDoor _ _ _)
  | putDoor _ _ _ _ => exact plant (.putDoor _ _ _)
  | putSchedule => exact plant (.putSchedule _ _ _)
  | overrideDoors => exact plant (.foldl _ (TouchesPlant.setOverride _) _ _)
  | pressButtons => exact plant (.foldl _ TouchesPlant.pressButton _ _)
  | clearAlarm => exact plant (.withDrc _ _)
  | putPlan _ => exact h.congr rfl
  | closeRecord _ _ _ _ => exact plant (TouchesBadges.closeRecord _ _ _ _ _).doors.plant
  | closePeriod => exact h.congr rfl
  | releaseClosed => exact h.congr rfl
  | putEntry => exact plant (.withBlc _ _)
  | putPattern => exact plant (.withBlc _ _)
  | ring _ => exact plant (.withBlc _ _)
  | stopOutputs => exact plant (.withBlc _ _)
  | setPause => exact h.congr rfl
  | putSettings _ _ range =>
    obtain ⟨-, -, trim3, trim4⟩ := h.trims
    exact { h with trims := ⟨range.1, range.2, trim3, trim4⟩ }
  | reset =>
    obtain ⟨trim1, trim2, -, -⟩ := h.trims
    have event : TimeOk (s.withTbu s.tbu.restartEvent) := { h with minute := rfl, trims := ⟨trim1, trim2, trim1, trim2⟩ }
    exact event.congr s.warmStart_tbu

/-- What an event does to the Time Base Unit. -/
theorem TimeOk.event {s t : State} (h : TimeOk s) (effect : EventEffect s t) : TimeOk t := by
  have plant : ∀ {u : State}, TouchesPlant s u → TimeOk u.settle := fun touches =>
    h.congr ((State.settle_tbu _).trans touches.tbu)
  have gate : ∀ {g : Glc}, TimeOk (s.withGlc g).settle := fun {g} => h.congr (State.settle_tbu _)
  have settled : ∀ {u : State}, TimeOk u → TimeOk u.settle := fun hu => hu.congr (State.settle_tbu _)
  cases effect with
  | nothing => exact h
  | secondEnds running _ => exact settled (h.secondBoundary running)
  | cycle _ => exact { h with }
  | cycleEndsSecond running _ =>
    exact settled (TimeOk.secondBoundary (s := s.withTbu s.tbu.cycle) { h with } running)
  | mainsLoss running present => exact settled (h.mainsLoss running present)
  | batterySample battery => exact h.sampleBattery battery _
  | lowBattery battery => exact settled ((h.sampleBattery battery _).enterLow battery)
  | attention => exact gate
  | round _ _ => exact gate
  | restEnds _ => exact gate
  | punch _ _ _ _ => exact settled (h.congr (State.punchUnderGrant_tbu _ _ _ _ _ _))
  | status _ _ _ _ => exact settled (h.congr (TouchesGate.statusUnderGrant _ _ _ _ _).tbu)
  | probeAnswer _ _ _ _ => exact settled (h.congr (TouchesGate.probeAnswer _ _ _ _).tbu)
  | grantTimeout _ _ _ => exact settled (h.congr (TouchesGate.grantTimeout _ _).tbu)
  | probeTimer _ _ => exact gate
  | probeWaitEnds _ _ => exact gate
  | frameSent _ => exact gate
  | wire => exact h.congr rfl
  | filterEnds _ _ => exact plant (.acceptInput _ _)
  | sampleInputs _ => exact plant ((TouchesPlant.sampleAll s).trans (.withDrc _ _))
  | releaseEnds _ _ _ => exact plant (.releaseRunsOut _ _ _)
  | heldEnds _ _ _ => exact plant (.doorAlarm _ _ _ _)
  | pulseEnds _ => exact h.congr rfl
  | phaseEnds _ => exact h.congr rfl
  | ready => exact settled (h.congr rfl)
  | reportSent _ _ => exact settled (h.congr (TouchesStore.depart _).tbu)
  | replySent _ _ => exact h.congr s.replySent_tbu
  | backupLost =>
    exact { h.losePower with backup := fun _ => s.losePower_supply }
  | powerReturns running notLow =>
    exact h.losePower.outlast (by rw [s.losePower_tbu notLow]; exact running)
  | restarts _ => exact (h.losePower.restartLost s.losePower_supply _).congr (State.reportSource_tbu _ _)

/-- One crystal tick. -/
theorem TimeOk.tick {s : State} (h : TimeOk s) : TimeOk s.tick := by
  refine TimeOk.congr (s := s.withTbu (if s.tbu.running then s.tbu.tick else s.tbu)) ?_ s.tick_tbu
  split
  · exact { h with sampling := by simpa [Tbu.tick, tickTimer] using h.sampling }
  · exact h

theorem TimeOk.stepEffect {s t : State} (h : TimeOk s) (effect : StepEffect s t) : TimeOk t := by
  cases effect with
  | event effect => exact h.event effect
  | tick => exact h.tick
  | waits _ _ _ _ => exact h.congr rfl
  | taken takes work => exact (h.command takes.1 work).congr (State.answer_tbu _ _)
  | takenLater takes _ work =>
    exact (TimeOk.command (s := s.emptyAssembly) (h.congr rfl) takes.1 work).congr (State.answer_tbu _ _)
  | noCommand _ _ _ => exact h.congr rfl

/-- Settles O56: the conditions between two seconds through every boundary, and what each other effect makes of the unit. -/
theorem everyStepKeepsTheTimeBase : Obligations.EveryStepKeepsTheTimeBase := by
  unfold Obligations.EveryStepKeepsTheTimeBase
  exact fun _ _ => step_keeps (fun _ _ h => h.congr rfl) fun _ _ h => h.stepEffect

end Sys2Proof.Machine
end

section
/-!
PROOFS. An induction packaged once: a condition that reads only the report store, the passages, the badge table, the plan
and the settings is kept by every event once it is kept by the few operations that change those. The conditions on the
report store, the badge table and the plan tables are proved from it.
-/

namespace Sys2Proof.Machine

open Sys2Proof

/-- A condition on the books of the part: it reads the report store, the passages, the badge table, the plan and the
settings alone, and each operation that changes one of these keeps it. -/
structure BooksKept (P : State → Prop) : Prop where
  congr : ∀ {s t : State}, P s → t.rps.records = s.rps.records → t.rps.nextSequence = s.rps.nextSequence →
    t.rps.owed = s.rps.owed → t.pev = s.pev → t.btb = s.btb → t.sps = s.sps → t.olc.settings = s.olc.settings → P t
  nonPunch : ∀ {s : State} (src : ReportSource) {b : ReportBody}, b.nonPunch → P s → P (s.nonPunch src b)
  closeRecord : ∀ {s : State} (b : Badge) (r : OpenRecord) (cause : CloseCause) (form : CloseForm),
    1 ≤ s.sparePlaces → P s → P (s.closeRecord b r cause form)
  commitPassage : ∀ {s : State} (d : DoorId) (free : Bool), P s → P (s.commitPassage d free)
  cancelPassage : ∀ {s : State} (d : DoorId), P s → P (s.cancelPassage d)
  conflictSet : ∀ {s : State} (m : StationSet), P s → P (s.withPev { s.pev with conflictSet := m })
  judge : ∀ {s : State} {p : Punch} {v : Verdict}, Judged s p v → P s → P v.state
  coldStart : ∀ {s : State}, P s → P s.coldStart

/-- What each act on a state keeps, acts one after another keep. -/
theorem foldl_keeps {P : State → Prop} {α : Type} {act : State → α → State}
    (each : ∀ {s : State} (a : α), P s → P (act s a)) (l : List α) {s : State} (h : P s) : P (l.foldl act s) := by
  induction l generalizing s with
  | nil => exact h
  | cons a rest ih => exact ih (each a h)

section Resolutions

variable {P : State → Prop} (setDoor : ∀ {s : State} (d : DoorId) (r : Option Door), P s → P (s.setDoor d r))
  (commit : ∀ {s : State} (d : DoorId) (free : Bool), P s → P (s.commitPassage d free))
  (cancel : ∀ {s : State} (d : DoorId), P s → P (s.cancelPassage d)) {s : State}

include setDoor commit cancel

/-- R95 to R97: a change of mode changes the door, and ends the passage at it or not. -/
theorem State.changeMode_keeps (d : DoorId) (r : Door) (mode : DoorMode) (h : P s) : P (s.changeMode d r mode) := by
  unfold State.changeMode
  split
  · exact commit _ _ (setDoor _ _ h)
  · dsimp only
    generalize (if r.mode = .free then r.leaveFree mode (s.accepted r.config.contact) else { r with mode := mode }) = left
    split
    · split
      · exact cancel _ (setDoor _ _ h)
      · exact setDoor _ _ h
    · exact setDoor _ _ h

theorem State.resolveDoor_keeps (d : DoorId) (h : P s) : P (s.resolveDoor d) := by
  unfold State.resolveDoor
  split
  · exact h
  · dsimp only
    split
    · exact h
    · exact State.changeMode_keeps setDoor commit cancel _ _ _ h

end Resolutions

namespace BooksKept

variable {P : State → Prop} (K : BooksKept P) {s t : State}

include K

theorem withTbu (x : Tbu) (h : P s) : P (s.withTbu x) := K.congr h rfl rfl rfl rfl rfl rfl rfl
theorem withGlc (x : Glc) (h : P s) : P (s.withGlc x) := K.congr h rfl rfl rfl rfl rfl rfl rfl
theorem withDrc (x : Drc) (h : P s) : P (s.withDrc x) := K.congr h rfl rfl rfl rfl rfl rfl rfl
theorem withBlc (x : Blc) (h : P s) : P (s.withBlc x) := K.congr h rfl rfl rfl rfl rfl rfl rfl
theorem withDraws (n : Nat) (h : P s) : P (s.withDraws n) := K.congr h rfl rfl rfl rfl rfl rfl rfl
theorem withPending (q : List Instr) (h : P s) : P (s.withPending q) := K.congr h rfl rfl rfl rfl rfl rfl rfl
theorem withPause (p : Bool) (h : P s) : P (s.withPause p) := K.congr h rfl rfl rfl rfl rfl rfl rfl
theorem withOlc {x : Olc} (settings : x.settings = s.olc.settings) (h : P s) : P (s.withOlc x) :=
  K.congr h rfl rfl rfl rfl rfl rfl settings
theorem setDoor (d : DoorId) (r : Option Door) (h : P s) : P (s.setDoor d r) := K.withDrc _ h
theorem setInput (i : InputId) (r : Input) (h : P s) : P (s.setInput i r) := K.withDrc _ h

theorem settle (h : P s) : P s.settle :=
  K.congr h (by simp) (by simp) (by simp) (by simp) (by simp) (by simp) (by simp)

/-! ### Reports -/

theorem supplyReport (event : SupplyEvent) (before : Option TimeSource) (h : P s) : P (s.supplyReport event before) :=
  K.nonPunch _ trivial h
theorem stationReport (id : StationId) (event : StationEvent) (h : P s) : P (s.stationReport id event) :=
  K.nonPunch _ trivial h
theorem doorReport (d : DoorId) (r : Door) (event : DoorEvent) (ended : Option DoorEvent) (h : P s) :
    P (s.doorReport d r event ended) := K.nonPunch _ trivial h

theorem reportSource (before : TimeSource) (h : P s) : P (s.reportSource before) := by
  unfold State.reportSource
  split
  · exact h
  · exact K.supplyReport _ _ h

theorem timeReport (r : Option TimeReport) (h : P s) : P (s.timeReport r) := by
  cases r with
  | none => exact h
  | some t => exact K.nonPunch _ trivial h

theorem statusReports (id : StationId) (tamper fault : Bool) (h : P s) : P (s.statusReports id tamper fault) := by
  have first : P (if tamper then s.stationReport id .tamper else s) := by
    split
    · exact K.stationReport _ _ h
    · exact h
  unfold State.statusReports
  dsimp only
  split
  · exact K.stationReport _ _ first
  · exact first

/-! ### Doors and inputs -/

theorem changeMode (d : DoorId) (r : Door) (mode : DoorMode) (h : P s) : P (s.changeMode d r mode) :=
  State.changeMode_keeps K.setDoor K.commitPassage K.cancelPassage d r mode h

theorem resolveDoor (d : DoorId) (h : P s) : P (s.resolveDoor d) :=
  State.resolveDoor_keeps K.setDoor K.commitPassage K.cancelPassage d h

theorem resolveAll (h : P s) : P s.resolveAll := foldl_keeps K.resolveDoor _ h

theorem fireAlarm (h : P s) : P s.fireAlarm := by
  obtain ⟨_, _, same⟩ := s.fireAlarm_touches
  rw [same]
  exact K.withDrc _ h

theorem doorBell (d : DoorId) (r : Door) (h : P s) : P (s.doorBell d r) := by
  unfold State.doorBell
  split
  · exact h
  · exact K.withBlc _ h

theorem doorAlarm (d : DoorId) (r : Door) (event : DoorEvent) (h : P s) : P (s.doorAlarm d r event) :=
  K.doorBell _ _ (K.fireAlarm (K.doorReport _ _ _ _ (K.setDoor _ _ h)))

theorem releaseDoor (d : DoorId) (h : P s) : P (s.releaseDoor d) := by
  unfold State.releaseDoor
  split
  · exact h
  · exact K.setDoor _ _ h

theorem pressButton (d : DoorId) (h : P s) : P (s.pressButton d) := by
  unfold State.pressButton
  split
  · exact h
  · split
    · exact h
    · split
      · exact K.releaseDoor _ h
      · exact h

theorem contactEdge (d : DoorId) (active : Bool) (h : P s) : P (s.contactEdge d active) := by
  unfold State.contactEdge
  split
  · exact h
  · next r _ =>
    split
    · unfold State.contactOpens
      split
      · exact K.commitPassage _ _ (K.setDoor _ _ h)
      · exact K.doorAlarm _ _ _ h
      · exact h
    · unfold State.contactCloses
      dsimp only
      split
      · exact K.setDoor _ _ h
      · exact K.doorReport _ _ _ _ (K.setDoor _ _ h)
      · exact K.doorReport _ _ _ _ (K.setDoor _ _ h)
      · exact h
    · unfold State.rotationPulse
      split
      · exact K.commitPassage _ _ (K.setDoor _ _ h)
      · exact K.doorAlarm _ _ _ h
      · exact h
    · exact h

theorem doorEdge (i : InputId) (active : Bool) (d : DoorId) (h : P s) : P (s.doorEdge i active d) := by
  unfold State.doorEdge
  split
  · split
    · exact K.contactEdge _ _ h
    · split
      · exact K.pressButton _ h
      · exact h
  · exact h

theorem inputEvent (i : InputId) (active : Bool) (h : P s) : P (s.inputEvent i active) := by
  unfold State.inputEvent
  split
  · unfold State.evacuationEdge
    dsimp only
    split
    · exact K.withBlc _ (K.resolveAll h)
    · exact K.withBlc _ (K.resolveAll h)
  · exact foldl_keeps (fun d => K.doorEdge i active d) _ h

theorem acceptInput (i : InputId) (h : P s) : P (s.acceptInput i) := K.inputEvent _ _ (K.setInput _ _ h)

theorem sampleInput (i : InputId) (h : P s) : P (s.sampleInput i) := by
  unfold State.sampleInput
  dsimp only
  split
  · exact K.inputEvent _ _ (K.setInput _ _ h)
  · exact K.setInput _ _ h

theorem sampleAll (h : P s) : P s.sampleAll := foldl_keeps K.sampleInput _ h

theorem putInput (i : InputId) (level : ActiveLevel) (filter : Nat) (h : P s) : P (s.putInput i level filter) := by
  unfold State.putInput
  dsimp only
  split
  · split
    · exact K.acceptInput _ (K.setInput _ _ h)
    · exact K.setInput _ _ h
  · exact K.setInput _ _ h

theorem setOverride (o : Override) (d : DoorId) (h : P s) : P (s.setOverride o d) := by
  unfold State.setOverride
  split
  · exact h
  · exact K.resolveDoor _ (K.setDoor _ _ h)

/-! ### Minute boundary events, supply and restarts -/

theorem autoCloseFrom (now : Nat) (l : List Badge) (h : P s) : P (autoCloseFrom now l s) := by
  induction l generalizing s with
  | nil => exact h
  | cons b rest ih =>
    unfold Machine.autoCloseFrom
    split
    · exact ih h
    · split
      · exact ih h
      · split
        · exact ih h
        · split
          · exact h
          · next room => exact ih (K.closeRecord _ _ _ _ (Nat.le_of_not_lt room) h)

theorem payAndDoors (now : Nat) (h : P s) : P (s.payAndDoors now) := by
  obtain ⟨n, same | same⟩ := s.payAndDoors_cases now
  · rw [same]
    exact K.resolveAll (K.autoCloseFrom _ _ (K.withDraws n h))
  · rw [same]
    exact K.autoCloseFrom _ _ (K.resolveAll (K.withDraws n h))

theorem minuteEvent (e : MinuteEvent) (h : P s) : P (s.minuteEvent e) := by
  by_cases low : s.tbu.supply = .low
  · rw [State.minuteEvent_of_low low]
    exact K.withTbu _ h
  · rw [State.minuteEvent_of_not_low low]
    have bells : P ((s.withTbu (s.tbu.minuteEvent e)).bellMinute e) := by
      unfold State.bellMinute
      split
      · exact K.withBlc _ (K.withTbu _ h)
      · exact K.withTbu _ h
    exact K.withGlc _ (K.payAndDoors _ bells)

theorem minuteEvent? (e : Option MinuteEvent) (h : P s) : P (s.minuteEvent? e) := by
  cases e with
  | none => exact h
  | some m => exact K.minuteEvent m h

theorem enterBattery (h : P s) : P s.enterBattery := by
  rw [State.enterBattery_eq]
  exact K.withBlc _ (K.resolveAll (K.withDrc _ (K.reportSource _ (K.supplyReport _ _ (K.withTbu _ h)))))

theorem restoreMains (h : P s) : P s.restoreMains := by
  rw [State.restoreMains_eq]
  exact K.resolveAll (K.withDrc _ (K.reportSource _ (K.supplyReport _ _ (K.withTbu _ h))))

theorem quiesce (h : P s) : P s.quiesce := K.withOlc rfl (K.withBlc _ (K.withDrc _ (K.withGlc _ h)))

theorem enterLow (h : P s) : P s.enterLow := K.quiesce (K.supplyReport _ _ (K.withTbu _ h))

theorem refreshSource (h : P s) : P s.refreshSource := K.reportSource _ (K.withTbu _ h)

theorem abandon (h : P s) : P s.abandon := K.conflictSet 0 (foldl_keeps K.cancelPassage _ h)

theorem warmBlocks (h : P s) : P s.warmBlocks :=
  K.congr h (by simp) (by simp) (by simp) (by simp) (by simp) (by simp) (by simp)

theorem warmStart (h : P s) : P s.warmStart := by
  rw [State.warmStart_eq]
  exact K.minuteEvent _ (K.warmBlocks (K.supplyReport _ _ (K.abandon h)))

theorem warmStartFromLow (h : P s) : P s.warmStartFromLow := by
  rw [State.warmStartFromLow_eq]
  exact K.minuteEvent _ (K.warmBlocks (K.reportSource _ (K.supplyReport _ _ (K.withTbu _ (K.abandon h)))))

theorem mainsReturn (e : Option MinuteEvent) (h : P s) : P (s.mainsReturn e) := by
  unfold State.mainsReturn
  split
  · exact K.minuteEvent? e (K.restoreMains h)
  · split
    · exact K.warmStartFromLow h
    · exact K.coldStart h
  · exact K.minuteEvent? e (K.refreshSource h)

theorem secondBoundary (h : P s) : P s.secondBoundary := by
  have reported := K.timeReport s.tbu.advance.report (K.withTbu s.tbu.boundary h)
  unfold State.secondBoundary
  dsimp only
  split
  · exact K.withTbu _ (K.mainsReturn _ reported)
  · exact K.withTbu _ (K.minuteEvent? _ (K.refreshSource reported))

theorem mainsLoss (h : P s) : P s.mainsLoss := by
  have lost : P (if s.tbu.supply = .mains then (s.withTbu s.tbu.lose).enterBattery
      else (s.withTbu s.tbu.lose).refreshSource) := by
    split
    · exact K.enterBattery (K.withTbu _ h)
    · exact K.refreshSource (K.withTbu _ h)
  unfold State.mainsLoss
  dsimp only
  split
  · exact K.secondBoundary lost
  · exact lost

theorem losePower (h : P s) : P s.losePower := by
  unfold State.losePower
  split
  · exact h
  · exact K.quiesce (K.reportSource _ (K.withTbu _ h))

theorem secondBoundaries (n : Nat) (h : P s) : P (s.secondBoundaries n) := by
  induction n generalizing s with
  | zero => exact h
  | succ n ih => exact ih (K.secondBoundary h)

theorem outlast (h : P s) : P s.outlast := K.withDraws _ (K.withTbu _ (K.secondBoundaries _ h))

/-! ### Gate line events -/

theorem punchUnderGrant (gr : Grant) (c : StationConfig) (badge age : Nat) (more : Bool) (h : P s) :
    P (s.punchUnderGrant gr c badge age more) :=
  K.withGlc _ (K.judge (State.judge_judged _ _) (K.withGlc _ h))

theorem restoreStation (id : StationId) (h : P s) : P (s.restoreStation id) := by
  unfold State.restoreStation
  dsimp only
  split
  · exact K.stationReport _ _ (K.withGlc _ h)
  · exact h

theorem grantTimeout (gr : Grant) (h : P s) : P (s.grantTimeout gr) := by
  unfold State.grantTimeout
  dsimp only
  split
  · exact K.stationReport _ _ (K.withGlc _ (K.withGlc _ h))
  · exact K.withGlc _ (K.withGlc _ h)

/-! ### Every event and every step -/

/-- Every event keeps the condition, but perhaps the last byte of a REPORT frame, with which the head record leaves. -/
theorem event_or_reportSent (h : P s) (effect : EventEffect s t) : P t ∨ (s.olc.transmitter = .report
    ∧ t = (s.withOlc { s.olc with transmitter := .idle }).depart.settle) := by
  cases effect with
  | nothing => exact .inl h
  | secondEnds _ _ => exact .inl (K.settle (K.secondBoundary h))
  | cycle _ => exact .inl (K.withTbu _ h)
  | cycleEndsSecond _ _ => exact .inl (K.settle (K.secondBoundary (K.withTbu _ h)))
  | mainsLoss _ _ => exact .inl (K.settle (K.mainsLoss h))
  | batterySample _ => exact .inl (K.withTbu _ h)
  | lowBattery _ => exact .inl (K.settle (K.enterLow (K.withTbu _ h)))
  | attention => exact .inl (K.settle (K.withGlc _ h))
  | round _ _ => exact .inl (K.settle (K.withGlc _ h))
  | restEnds _ => exact .inl (K.settle (K.withGlc _ h))
  | punch _ _ _ _ => exact .inl (K.settle (K.punchUnderGrant _ _ _ _ _ h))
  | status _ _ _ _ => exact .inl (K.settle (K.withGlc _ (K.statusReports _ _ _ (K.withGlc _ h))))
  | probeAnswer _ _ _ _ => exact .inl (K.settle (K.withGlc _ (K.statusReports _ _ _ (K.restoreStation _ h))))
  | grantTimeout _ _ _ => exact .inl (K.settle (K.grantTimeout _ h))
  | probeTimer _ _ => exact .inl (K.settle (K.withGlc _ h))
  | probeWaitEnds _ _ => exact .inl (K.settle (K.withGlc _ h))
  | frameSent _ => exact .inl (K.settle (K.withGlc _ h))
  | wire => exact .inl (K.setInput _ _ h)
  | filterEnds _ _ => exact .inl (K.settle (K.acceptInput _ h))
  | sampleInputs _ => exact .inl (K.settle (K.withDrc _ (K.sampleAll h)))
  | releaseEnds _ _ _ => exact .inl (K.settle (K.cancelPassage _ (K.setDoor _ _ h)))
  | heldEnds _ _ _ => exact .inl (K.settle (K.doorAlarm _ _ _ h))
  | pulseEnds _ => exact .inl (K.withDrc _ h)
  | phaseEnds _ => exact .inl (K.withBlc _ h)
  | ready => exact .inl (K.settle (K.withOlc rfl h))
  | reportSent transmitter _ => exact .inr ⟨transmitter, rfl⟩
  | replySent _ _ =>
    exact .inl (K.congr h (by simp) (by simp) (by simp) (by simp) (by simp) (by simp) (by simp))
  | backupLost => exact .inl (K.withTbu _ (K.losePower h))
  | powerReturns _ _ => exact .inl (K.outlast (K.losePower h))
  | restarts _ =>
    have lost : P (s.losePower.withTbu (s.losePower.tbu.restartLost s.losePower.draws)) := K.withTbu _ (K.losePower h)
    exact .inl (K.withDraws _ (K.reportSource _ lost))

/-- A condition kept when the head record leaves is kept by every event. -/
theorem event (depart : ∀ {s : State}, P s → P s.depart) (h : P s) (effect : EventEffect s t) : P t := by
  rcases K.event_or_reportSent h effect with kept | ⟨-, departs⟩
  · exact kept
  · rw [departs]
    exact K.settle (depart (K.withOlc rfl h))

/-- A condition on the books that the commands keep too is kept by every step. -/
theorem step_keeps (depart : ∀ {s : State}, P s → P s.depart)
    (command : ∀ {s u : State}, P s → CommandEffect s u → P u) (h : P s) (next : step s = .next t) :
    P t := by
  refine Machine.step_keeps (P := P) (fun _ q => K.withPending q) (fun s t h effect => ?_) h next
  cases effect with
  | event effect => exact K.event depart h effect
  | tick => exact K.congr h (by simp) (by simp) (by simp) (by simp) (by simp) (by simp) (by simp)
  | waits _ _ _ _ => exact K.withOlc rfl h
  | taken _ work => exact K.settle (K.withOlc rfl (command h work))
  | takenLater _ _ work =>
    exact K.settle (K.withOlc rfl (command (s := s.emptyAssembly) (K.withOlc rfl h) work))
  | noCommand _ _ _ => exact K.withOlc rfl h

/-- What the commands outside the badge table and the plan make of a condition on the books. -/
theorem command (h : P s)
    (replaceBadge : ∀ {c : BadgeConfig} {b : Badge}, s.findBadge c.number = some b → s.replaceBusy b c = false →
      P (s.updateBadge c.number fun e => e.reconfigure c))
    (insertBadge : ∀ {c : BadgeConfig}, s.findBadge c.number = none → s.btb.entries.length < Config.badgeCapacity →
      1 ≤ c.number ∧ c.number ≤ Config.maxBadgeNumber → P (s.withBtb { s.btb with
        entries := Machine.insertBadge (newBadge c s.btb.closedBlock.isSome) s.btb.entries }))
    (removeBadge : ∀ {n : Nat} {b : Badge}, s.findBadge n = some b → P (s.removeBadge n))
    (setPresence : ∀ {n : Nat} {b : Badge} {p : Presence}, s.findBadge n = some b → s.tied b = false →
      ¬(p = .inside ∧ b.flags.noPay = false) → P (s.updateBadge n fun e => { e with presence := p }))
    (closePeriod : P s.closePeriod) (releaseClosed : P s.releaseClosed)
    (plan : ∀ {p : Sps}, PlanPut s.sps p → P (s.withSps p))
    (settings : ∀ {set : Settings} {f : Frequency} {src : Source} {trim : Int},
      1 ≤ set.burstBudget ∧ set.burstBudget ≤ 4 → set.nightStart ≤ 1439 ∧ set.nightEnd ≤ 1439 →
      P (s.putSettings set f src trim)) {u : State} (work : CommandEffect s u) : P u := by
  cases work with
  | nothing => exact h
  | setTime _ => exact K.withTbu _ h
  | putStation _ => exact K.withGlc _ h
  | resumeStation _ _ => exact K.stationReport _ _ (K.withGlc _ (K.withGlc _ h))
  | display _ => exact K.withGlc _ h
  | replaceBadge found free => exact replaceBadge found free
  | insertBadge absent room range => exact insertBadge absent room range
  | removeBadge found _ => exact removeBadge found
  | setPresence found free allowed => exact setPresence found free allowed
  | clearConflicts => exact K.conflictSet 0 h
  | putInput => exact K.putInput _ _ _ h
  | removeDoor _ => exact K.setDoor _ _ h
  | putDoor _ _ _ _ => exact K.setDoor _ _ h
  | putSchedule => exact foldl_keeps K.resolveDoor _ (K.withDrc _ h)
  | overrideDoors => exact foldl_keeps (fun d => K.setOverride _ d) _ h
  | pressButtons => exact foldl_keeps K.pressButton _ h
  | clearAlarm => exact K.withDrc _ h
  | putPlan put => exact plan put
  | closeRecord _ _ _ room => exact K.closeRecord _ _ _ _ room h
  | closePeriod => exact closePeriod
  | releaseClosed => exact releaseClosed
  | putEntry => exact K.withBlc _ h
  | putPattern => exact K.withBlc _ h
  | ring _ => exact K.withBlc _ h
  | stopOutputs => exact K.withBlc _ h
  | setPause => exact K.withPause _ h
  | putSettings budget night _ => exact settings budget night
  | reset => exact K.warmStart h

end BooksKept

end Sys2Proof.Machine
end

section
/-!
PROOFS. The condition on the badge table (chapter 3, with the totals of chapter 8), and the obligation O54.
-/

namespace Sys2Proof.Machine

open Sys2Proof

/-! ### The condition, entry by entry -/

/-- What the condition on the badge table says of one entry; `block` is whether the closed block is present. -/
structure Badge.Ok (block : Bool) (b : Badge) : Prop where
  number : 1 ≤ b.number ∧ b.number ≤ Config.maxBadgeNumber
  carry : b.carry < Config.unitsPerCent
  totals : b.current.inRange ∧ ∀ t, b.closed = some t → t.inRange
  closed : b.closed.isSome = block
  record : b.record.isSome = (!b.flags.noPay && decide (b.presence = .inside))

theorem badgesOk_iff (s : State) : BadgesOk s ↔
    (s.btb.entries.Pairwise fun a b : Badge => a.number < b.number) ∧ s.btb.entries.length ≤ Config.badgeCapacity
      ∧ (∀ b ∈ s.btb.entries, b.Ok s.btb.closedBlock.isSome) ∧ s.btb.period < 65536 := by
  have order : everyTwo (fun a b : Badge => decide (a.number < b.number)) s.btb.entries = true
      ↔ s.btb.entries.Pairwise fun a b : Badge => a.number < b.number := by
    rw [everyTwo_iff_isChain]
    simp only [decide_eq_true_eq]
    have : Trans (fun a b : Badge => a.number < b.number) (fun a b : Badge => a.number < b.number)
      (fun a b : Badge => a.number < b.number) := ⟨Nat.lt_trans⟩
    exact List.isChain_iff_pairwise
  constructor
  · intro h
    exact ⟨order.mp h.ascending, h.capacity, fun b mem => ⟨h.numbers b mem, h.carries b mem, h.totals b mem,
      h.closed b mem, h.records b mem⟩, h.period⟩
  · rintro ⟨ascending, capacity, each, period⟩
    exact ⟨order.mpr ascending, capacity, fun b mem => (each b mem).number, fun b mem => (each b mem).carry,
      fun b mem => (each b mem).totals, fun b mem => (each b mem).closed, fun b mem => (each b mem).record, period⟩

theorem BadgesOk.pairwise {s : State} (h : BadgesOk s) : s.btb.entries.Pairwise fun a b : Badge => a.number < b.number :=
  ((badgesOk_iff s).mp h).1

theorem BadgesOk.each {s : State} (h : BadgesOk s) {b : Badge} (mem : b ∈ s.btb.entries) :
    b.Ok s.btb.closedBlock.isSome := ((badgesOk_iff s).mp h).2.2.1 b mem

/-- In an ascending table no number stands twice. -/
theorem eq_of_number_eq {l : List Badge} (ascending : l.Pairwise fun a b => a.number < b.number) {a b : Badge}
    (ha : a ∈ l) (hb : b ∈ l) (same : a.number = b.number) : a = b := by
  induction ascending with
  | nil => cases ha
  | cons above _ ih =>
    rcases List.mem_cons.mp ha with rfl | laterA <;> rcases List.mem_cons.mp hb with rfl | laterB
    · rfl
    · exact absurd same (Nat.ne_of_lt (above b laterB))
    · exact absurd same (Nat.ne_of_gt (above a laterA))
    · exact ih laterA laterB

/-- R41: the entry found is the only one with its number. -/
theorem BadgesOk.eq_of_found {s : State} (h : BadgesOk s) {n : Nat} {b e : Badge} (found : s.findBadge n = some b)
    (mem : e ∈ s.btb.entries) (number : e.number = n) : e = b := by
  obtain ⟨inTable, same⟩ := State.findBadge_some found
  exact eq_of_number_eq h.pairwise mem inTable (number.trans same.symm)

/-! ### Changing entries -/

/-- A map of the table that keeps the numbers keeps their order. -/
theorem pairwise_map_number {l : List Badge} (ascending : l.Pairwise fun a b => a.number < b.number)
    {f : Badge → Badge} (number : ∀ b, (f b).number = b.number) :
    (l.map f).Pairwise fun a b => a.number < b.number := by
  rw [List.pairwise_map]
  simpa only [number] using ascending

theorem BadgesOk.mapEntries {s t : State} (h : BadgesOk s) {f : Badge → Badge} (entries : t.btb.entries = s.btb.entries.map f)
    (period : t.btb.period < 65536) (number : ∀ b, (f b).number = b.number)
    (each : ∀ b ∈ s.btb.entries, b.Ok s.btb.closedBlock.isSome → (f b).Ok t.btb.closedBlock.isSome) : BadgesOk t := by
  rw [badgesOk_iff, entries]
  refine ⟨pairwise_map_number h.pairwise number, by rw [List.length_map]; exact h.capacity, fun b mem => ?_, period⟩
  obtain ⟨a, inTable, rfl⟩ := List.mem_map.mp mem
  exact each a inTable (h.each inTable)

theorem BadgesOk.updateBadge {s : State} (h : BadgesOk s) {n : Nat} {f : Badge → Badge}
    (number : ∀ b, (f b).number = b.number)
    (each : ∀ b ∈ s.btb.entries, b.number = n → b.Ok s.btb.closedBlock.isSome → (f b).Ok s.btb.closedBlock.isSome) :
    BadgesOk (s.updateBadge n f) := by
  refine h.mapEntries rfl h.period (fun b => ?_) fun b mem ok => ?_
  · split
    · exact number b
    · rfl
  · split
    · next same => exact each b mem same ok
    · exact ok

/-- A change of the last punches alone keeps the condition. -/
theorem Badge.Ok.withPunches {block : Bool} {b : Badge} (h : b.Ok block) (last : Option LastPunch)
    (saved : Option (Option LastPunch)) : { b with lastPunch := last, savedPunch := saved }.Ok block :=
  { h with }

/-! ### Closes and commits -/

theorem saturate_le (limit total added : Nat) : saturate limit total added ≤ limit := Nat.min_le_right _ _

/-- R135: totals stay in their ranges. -/
theorem addClose_inRange (t : Totals) (c : ClosedRecord) (missed : Nat) : (addClose t c missed).inRange :=
  ⟨saturate_le _ _ _, saturate_le _ _ _, saturate_le _ _ _, saturate_le _ _ _, saturate_le _ _ _, saturate_le _ _ _,
    saturate_le _ _ _⟩

theorem Badge.Ok.afterClose {block : Bool} {b : Badge} (h : b.Ok block) (n carry : Nat) (r : OpenRecord)
    (form : CloseForm) (cause : CloseCause) : (b.afterClose (computeClose n carry r form) cause).Ok block where
  number := h.number
  carry := Nat.mod_lt _ (by decide)
  totals := ⟨addClose_inRange _ _ _, h.totals.2⟩
  closed := h.closed
  record := by cases cause <;> simp [Badge.afterClose, CloseCause.presence]

theorem BadgesOk.closeRecord {s : State} (h : BadgesOk s) (b : Badge) (r : OpenRecord) (cause : CloseCause)
    (form : CloseForm) : BadgesOk (s.closeRecord b r cause form) :=
  BadgesOk.congr (s := s.updateBadge b.number fun e => e.afterClose (computeClose b.number b.carry r form) cause)
    (h.updateBadge (fun _ => rfl) fun _ _ _ ok => ok.afterClose _ _ _ _ _) rfl

theorem Badge.Ok.afterEntry {block : Bool} {b : Badge} (h : b.Ok block) (a : Accepted) (rates : PayClass)
    (set : Settings) : (b.afterEntry a rates set).Ok block :=
  { h with
    record := by
      have record := h.record
      cases noPay : b.flags.noPay <;> cases held : b.record <;> simp_all [Badge.afterEntry] }

theorem BadgesOk.commitWork {s : State} (h : BadgesOk s) (a : Accepted) : BadgesOk (s.commitWork a) := by
  unfold State.commitWork
  split
  · exact h.congr rfl
  · next b found =>
    split
    · exact BadgesOk.congr (s := s.updateBadge b.number fun e => e.afterEntry a (s.sps.payClasses.get e.payClass)
        s.olc.settings) (h.updateBadge (fun _ => rfl) fun _ _ _ ok => ok.afterEntry _ _ _) rfl
    · unfold State.commitExit
      split
      · exact BadgesOk.closeRecord (s := s.store false _) (h.congr rfl) _ _ _ _
      · next noRecord =>
        refine BadgesOk.congr (s := s.updateBadge b.number fun e => { e with presence := .outside })
          (h.updateBadge (fun _ => rfl) fun e mem number ok => ?_) rfl
        obtain rfl := eq_of_number_eq h.pairwise mem (State.findBadge_some found).1 number
        exact { ok with record := by simp [noRecord] }
    · exact h.congr rfl

theorem BadgesOk.commitPassage {s : State} (h : BadgesOk s) (d : DoorId) (free : Bool) :
    BadgesOk (s.commitPassage d free) := by
  unfold State.commitPassage
  split
  · exact h
  · have removed : BadgesOk (s.removePassage d) := h.congr rfl
    have cleared := removed.updateBadge (n := ‹Passage›.badge) (f := fun b => { b with savedPunch := none })
      (fun _ => rfl) fun _ _ _ ok => ok.withPunches _ _
    exact (cleared.commitWork _).congr (TouchesStore.emitOwed _).btb

theorem BadgesOk.cancelPassage {s : State} (h : BadgesOk s) (d : DoorId) : BadgesOk (s.cancelPassage d) := by
  unfold State.cancelPassage
  split
  · exact h
  · have removed : BadgesOk (s.removePassage d) := h.congr rfl
    have restored := removed.updateBadge (n := ‹Passage›.badge) (f := Badge.afterCancel) (fun _ => rfl)
      fun _ _ _ ok => ok.withPunches _ _
    exact restored.congr (TouchesStore.emitOwed _).btb

theorem BadgesOk.judge {s : State} {p : Punch} {v : Verdict} (judged : Judged s p v) (h : BadgesOk s) :
    BadgesOk v.state := by
  cases judged with
  | silent => exact h
  | refused _ => exact h.congr rfl
  | conflict _ => exact h.congr (s.refuseConflict_btb _ _ _)
  | atOnce _ _ _ =>
    exact BadgesOk.commitWork (s := State.updateBadge _ _ _) (h.updateBadge (f := fun e =>
      e.acceptAtOnce ⟨p.station, p.time⟩) (fun _ => rfl) fun b _ _ ok => ok.withPunches _ b.savedPunch) _
  | @pending b _ _ _ _ _ _ _ _ _ _ =>
    exact BadgesOk.congr (s := s.updateBadge b.number fun e => e.acceptPending ⟨p.station, p.time⟩)
      (h.updateBadge (fun _ => rfl) fun b _ _ ok => ok.withPunches _ _) (State.releaseDoor_btb _ _)

/-- The condition on the badge table is one on the books. -/
theorem badgesOk_kept : BooksKept BadgesOk where
  congr h _ _ _ _ btb _ _ := h.congr btb
  nonPunch src _ _ h := h.congr (TouchesStore.nonPunch _ src _).btb
  closeRecord b r cause form _ h := h.closeRecord b r cause form
  commitPassage d free h := h.commitPassage d free
  cancelPassage d h := h.cancelPassage d
  conflictSet _ h := h.congr rfl
  judge judged h := h.judge judged
  coldStart {s} _ := by
    rw [badgesOk_iff, s.coldStart_btb]
    exact ⟨.nil, Nat.zero_le _, fun _ mem => absurd mem List.not_mem_nil, by decide⟩

/-! ### The commands of the badge table -/

/-- R43: the configuration fields of an entry that is not busy are replaced. -/
theorem Badge.Ok.reconfigure {block : Bool} {s : State} {b : Badge} {c : BadgeConfig} (h : b.Ok block)
    (free : s.replaceBusy b c = false) : (b.reconfigure c).Ok block :=
  { h with
    record := by
      have record := h.record
      simp only [State.replaceBusy, State.tied, Badge.changesPay] at free
      cases old : b.flags.noPay <;> cases new : c.flags.noPay <;> cases held : b.record <;>
        simp_all [Badge.reconfigure] }

theorem insertBadge_eq {e : Badge} {l : List Badge} (ascending : l.Pairwise fun a b => a.number < b.number)
    (absent : ∀ b ∈ l, b.number ≠ e.number) :
    insertBadge e l = l.filter (fun b => decide (b.number < e.number)) ++ e :: l.filter
      (fun b => decide (e.number < b.number)) := by
  induction l with
  | nil => rfl
  | cons b rest ih =>
    obtain ⟨above, ascendingRest⟩ := List.pairwise_cons.mp ascending
    have differs := absent b List.mem_cons_self
    unfold insertBadge
    by_cases first : e.number < b.number
    · have noneBelow : rest.filter (fun b => decide (b.number < e.number)) = [] :=
        List.filter_eq_nil_iff.mpr fun a mem => by
          have := above a mem
          rw [decide_eq_true_eq]; omega
      have allAbove : rest.filter (fun b => decide (e.number < b.number)) = rest :=
        List.filter_eq_self.mpr fun a mem => by
          have := above a mem
          rw [decide_eq_true_eq]; omega
      simp [first, Nat.le_of_lt first, noneBelow, allAbove]
    · have after : b.number < e.number := by omega
      simp [first, after, ih ascendingRest fun a mem => absent a (List.mem_cons_of_mem b mem)]

theorem pairwise_insertBadge {e : Badge} {l : List Badge} (ascending : l.Pairwise fun a b => a.number < b.number)
    (absent : ∀ b ∈ l, b.number ≠ e.number) : (insertBadge e l).Pairwise fun a b => a.number < b.number := by
  rw [insertBadge_eq ascending absent, List.pairwise_append, List.pairwise_cons]
  refine ⟨ascending.filter _, ⟨fun b mem => ?_, ascending.filter _⟩, fun a low b high => ?_⟩
  · simpa using (List.mem_filter.mp mem).2
  · have lower : a.number < e.number := by simpa using (List.mem_filter.mp low).2
    rcases List.mem_cons.mp high with rfl | above
    · exact lower
    · exact Nat.lt_trans lower (by simpa using (List.mem_filter.mp above).2)

theorem length_insertBadge (e : Badge) (l : List Badge) : (insertBadge e l).length = l.length + 1 := by
  induction l with
  | nil => rfl
  | cons b rest ih =>
    unfold insertBadge
    split
    · rfl
    · simp [ih]

theorem Totals.zero_inRange : Totals.zero.inRange := by
  unfold Totals.inRange
  decide

theorem newBadge_ok {c : BadgeConfig} (range : 1 ≤ c.number ∧ c.number ≤ Config.maxBadgeNumber) (block : Bool) :
    (newBadge c block).Ok block where
  number := range
  carry := (by decide : 0 < Config.unitsPerCent)
  totals := ⟨Totals.zero_inRange, fun t held => by
    cases block <;> cases held
    exact Totals.zero_inRange⟩
  closed := by cases block <;> rfl
  record := by simp [newBadge]

/-- What a command makes of the badge table. -/
theorem BadgesOk.command {s u : State} (h : BadgesOk s) (work : CommandEffect s u) : BadgesOk u := by
  refine badgesOk_kept.command h ?_ ?_ ?_ ?_ ?_ ?_ (fun _ => h.congr rfl) (fun _ _ => h.congr rfl) work
  · intro c b found free
    refine h.updateBadge (fun _ => rfl) fun e mem number ok => ?_
    obtain rfl := h.eq_of_found found mem number
    exact ok.reconfigure free
  · intro c absent room range
    refine (badgesOk_iff _).mpr ⟨pairwise_insertBadge h.pairwise (State.findBadge_none.mp absent), ?_, ?_, h.period⟩
    · show (Machine.insertBadge _ _).length ≤ _
      rw [length_insertBadge]
      exact room
    · intro b mem
      rcases (mem_insertBadge _ _ _).mp mem with rfl | old
      · exact newBadge_ok range _
      · exact h.each old
  · intro n b _
    refine (badgesOk_iff _).mpr ⟨h.pairwise.filter _, (List.length_filter_le _ _).trans h.capacity, fun e mem => ?_, h.period⟩
    exact h.each (List.mem_filter.mp mem).1
  · intro n b p found free allowed
    refine h.updateBadge (fun _ => rfl) fun e mem number ok => ?_
    obtain rfl := h.eq_of_found found mem number
    refine { ok with record := ?_ }
    have noRecord : e.record = none := by simpa [State.tied] using (Bool.or_eq_false_iff.mp free).1
    cases noPay : e.flags.noPay <;> simp_all
  · refine h.mapEntries (f := Badge.closePeriod) rfl (Nat.mod_lt _ (by decide)) (fun _ => rfl) fun b _ ok => ?_
    exact { ok with
      totals := ⟨Totals.zero_inRange, fun t held => by cases held; exact ok.totals.1⟩
      closed := rfl }
  · refine h.mapEntries (f := fun b => { b with closed := none }) rfl h.period (fun _ => rfl) fun b _ ok => ?_
    exact { ok with
      totals := ⟨ok.totals.1, fun t held => by cases held⟩
      closed := rfl }

/-- Settles O54: every operation that changes entries keeps each of them and their order. -/
theorem everyStepKeepsTheBadgeTable : Obligations.EveryStepKeepsTheBadgeTable := by
  unfold Obligations.EveryStepKeepsTheBadgeTable
  exact fun _ _ => badgesOk_kept.step_keeps (fun h => h.congr (TouchesStore.depart _).btb) BadgesOk.command

end Sys2Proof.Machine
end

section
/-!
PROOFS. The condition on the plan tables and the copies made of them (chapters 6 and 7), and the obligation O60.
-/

namespace Sys2Proof.Machine

open Sys2Proof

/-! ### The copies of a definition -/

/-- R103, R106: the breaks of a definition in range stay apart as absolute intervals. -/
theorem absBreaks_apart (start : Nat) {breaks : List Break}
    (order : everyTwo (fun a b => decide (a.offset < b.offset ∧ a.offset + a.length ≤ b.offset)) breaks = true) :
    breaksApart (absBreaks start breaks) := by
  refine ⟨fun b mem => ?_, ?_⟩
  · obtain ⟨⟨a, k⟩, -, rfl⟩ := List.mem_map.mp mem
    exact Nat.le_add_right _ _
  · rw [everyTwo_iff_isChain, List.isChain_iff_getElem] at *
    intro i h
    rw [absBreaks_length] at h
    have apart := order i h
    simp only [decide_eq_true_eq] at apart
    simp [absBreaks]
    omega

/-- R106: the shift on a day copied from a definition in range. -/
theorem instanceOf_fits (crew : CrewId) (id : ShiftId) {d : ShiftDef} (range : d.InRange) (day : Nat) (holiday : Bool) :
    (instanceOf crew id d day holiday).Fits :=
  ⟨absBreaks_apart _ range.order, range.unit⟩

/-- R110: what a match gives is copied from a definition in range. -/
theorem matchShift_fits {s : State} (h : PlanOk s) {crew : CrewId} {t : Nat} {i : ShiftInstance}
    (found : s.sps.matchShift crew t = some i) : i.Fits := by
  obtain ⟨member, -⟩ := nearest_spec found
  obtain ⟨day, -, onDay⟩ := List.mem_filterMap.mp (List.mem_filter.mp member).1
  obtain ⟨-, id, d, -, defined, rfl⟩ := (Sps.crewInstance_eq_some_iff _ _ _ _).mp onDay
  exact instanceOf_fits _ _ (h.shifts id d defined) _ _

/-- The shift that a punch captured, if it captured one, fits. -/
def Captured.Fits (c : Captured) : Prop := ∀ i, c = .shift i → i.Fits

theorem capture_fits {s : State} (h : PlanOk s) (b : Badge) (dir : Direction) (time : Nat) :
    (s.capture b dir time).Fits := by
  intro i captured
  unfold State.capture at captured
  split at captured
  · split at captured
    · next found => cases captured; exact matchShift_fits h found
    · cases captured
  · cases captured

/-- R117, R118: the record of a commit fits where its captured shift, its rates and the night settings do. -/
theorem buildRecord_fits {c : Captured} (captured : c.Fits) (time : Nat) {rates : PayClass} (range : rates.InRange)
    {set : Settings} (night : set.nightStart ≤ 1439 ∧ set.nightEnd ≤ 1439) : (buildRecord c time rates set).Fits := by
  cases c with
  | shift i =>
    have fits := captured i rfl
    exact ⟨fits.breaks, fits.unit, night, range, fun none => Option.noConfusion rfl (heq_of_eq none)⟩
  | unscheduled => exact ⟨⟨nofun, rfl⟩, (by decide : 15 ∈ [1, 5, 6, 10, 15, 30]), night, range, fun _ => ⟨rfl, rfl, rfl⟩⟩
  | none => exact ⟨⟨nofun, rfl⟩, (by decide : 15 ∈ [1, 5, 6, 10, 15, 30]), night, range, fun _ => ⟨rfl, rfl, rfl⟩⟩

/-! ### Changing entries and passages -/

/-- What the condition says of the record of one entry. -/
def Badge.RecordFits (b : Badge) : Prop := ∀ r, b.record = some r → r.Fits

theorem PlanOk.ofBooks {s t : State} (h : PlanOk s) (sps : t.sps = s.sps) (settings : t.olc.settings = s.olc.settings)
    (passages : ∀ p ∈ t.pev.passages, p.captured.Fits) (records : ∀ b ∈ t.btb.entries, b.RecordFits) : PlanOk t where
  shifts := by rw [sps]; exact h.shifts
  rotas := by rw [sps]; exact h.rotas
  payClasses := by rw [sps]; exact h.payClasses
  holidays := by rw [sps]; exact h.holidays
  fewHolidays := by rw [sps]; exact h.fewHolidays
  days := by rw [sps]; exact h.days
  night := by rw [settings]; exact h.night
  captured := passages
  records := records

theorem PlanOk.updateBadge {s : State} (h : PlanOk s) (n : Nat) {f : Badge → Badge}
    (each : ∀ b ∈ s.btb.entries, b.RecordFits → (f b).RecordFits) : PlanOk (s.updateBadge n f) := by
  refine h.ofBooks rfl rfl h.captured fun b mem => ?_
  obtain ⟨a, inTable, rfl⟩ := List.mem_map.mp mem
  split
  · exact each a inTable (h.records a inTable)
  · exact h.records a inTable

theorem PlanOk.removePassage {s : State} (h : PlanOk s) (d : DoorId) : PlanOk (s.removePassage d) :=
  h.ofBooks rfl rfl (fun p mem => h.captured p (List.mem_filter.mp mem).1) h.records

theorem PlanOk.store {s t : State} (h : PlanOk s) (touches : TouchesStore s t) : PlanOk t :=
  h.congr touches.sps (congrArg Olc.settings touches.olc) (congrArg Pev.passages touches.pev)
    (congrArg Btb.entries touches.btb)

theorem PlanOk.closeRecord {s : State} (h : PlanOk s) (b : Badge) (r : OpenRecord) (cause : CloseCause)
    (form : CloseForm) : PlanOk (s.closeRecord b r cause form) :=
  PlanOk.store (h.updateBadge b.number (f := fun e => e.afterClose (computeClose b.number b.carry r form) cause)
    fun _ _ _ _ held => by cases held) (.store _ _ _)

theorem PlanOk.commitWork {s : State} (h : PlanOk s) {a : Accepted} (captured : a.captured.Fits) :
    PlanOk (s.commitWork a) := by
  unfold State.commitWork
  split
  · exact h.store (.store _ _ _)
  · next b _ =>
    split
    · refine PlanOk.store (h.updateBadge b.number (f := fun e => e.afterEntry a (s.sps.payClasses.get e.payClass)
        s.olc.settings) fun e _ fits r held => ?_) (.store _ _ _)
      simp only [Badge.afterEntry] at held
      split at held
      · exact fits r held
      · cases held
        exact buildRecord_fits captured _ (h.payClasses _) h.night
    · unfold State.commitExit
      split
      · exact PlanOk.closeRecord (h.store (.store _ _ _)) _ _ _ _
      · exact PlanOk.store (h.updateBadge b.number (f := fun e => { e with presence := .outside })
          fun _ _ fits => fits) (.store _ _ _)
    · exact h.store (.store _ _ _)

theorem PlanOk.commitPassage {s : State} (h : PlanOk s) (d : DoorId) (free : Bool) : PlanOk (s.commitPassage d free) := by
  unfold State.commitPassage
  split
  · exact h
  · next p found =>
    have cleared := (h.removePassage d).updateBadge p.badge (f := fun b => { b with savedPunch := none })
      fun _ _ fits => fits
    exact PlanOk.store (cleared.commitWork (a := { p.accepted with flags := { p.accepted.flags with freePass := free } })
      (h.captured p (State.passageAt_some found).1)) (.emitOwed _)

theorem PlanOk.cancelPassage {s : State} (h : PlanOk s) (d : DoorId) : PlanOk (s.cancelPassage d) := by
  unfold State.cancelPassage
  split
  · exact h
  · next p _ =>
    have restored := (h.removePassage d).updateBadge p.badge (f := Badge.afterCancel) fun _ _ fits => fits
    exact restored.store ((TouchesStore.store _ _ _).trans (.emitOwed _))

theorem PlanOk.judge {s : State} {p : Punch} {v : Verdict} (judged : Judged s p v) (h : PlanOk s) : PlanOk v.state := by
  have staff := judged.staff
  cases judged with
  | silent => exact h
  | refused _ => exact h.store (.store _ _ _)
  | conflict _ =>
    refine h.congr staff.sps (congrArg Olc.settings staff.olc) ?_ (congrArg Btb.entries (s.refuseConflict_btb _ _ _))
    exact s.refuseConflict_passages _ _ _
  | @atOnce b dir _ _ _ _ =>
    exact PlanOk.commitWork (h.updateBadge b.number (f := fun e => e.acceptAtOnce ⟨p.station, p.time⟩)
      fun _ _ fits => fits) (capture_fits h b dir p.time)
  | @pending b dir d _ _ _ _ _ _ _ _ =>
    have created : PlanOk (s.withPev { s.pev with passages := insertPassage ⟨d, b.number, p.station, dir, p.time, p.age,
        p.arrival, p.late, s.capture b dir p.time, s.tbu.calendar⟩ s.pev.passages }) := by
      refine h.ofBooks rfl rfl (fun q mem => ?_) h.records
      rcases (mem_insertPassage _ _ _).mp mem with rfl | old
      · exact capture_fits h b dir p.time
      · exact h.captured q old
    have accepted := created.updateBadge b.number (f := fun e => e.acceptPending ⟨p.station, p.time⟩)
      fun _ _ fits => fits
    exact accepted.congr (TouchesStaff.releaseDoor _ _).sps (congrArg Olc.settings (TouchesStaff.releaseDoor _ _).olc)
      (congrArg Pev.passages (State.releaseDoor_pev _ _)) (congrArg Btb.entries (State.releaseDoor_btb _ _))

theorem Rota.cold_inRange : Rota.cold.InRange := by
  unfold Rota.InRange
  decide

theorem PayClass.cold_inRange : PayClass.cold.InRange := by
  unfold PayClass.InRange
  decide

/-- R115: the plan of a cold start. -/
theorem PlanOk.cold {s : State} (sps : s.sps = Sps.cold) (settings : s.olc.settings = Settings.cold)
    (passages : s.pev.passages = []) (entries : s.btb.entries = []) : PlanOk s where
  shifts id d held := by
    rw [sps] at held
    simp [Sps.cold] at held
  rotas c := by rw [sps]; simpa [Sps.cold] using Rota.cold_inRange
  payClasses c := by rw [sps]; simpa [Sps.cold] using PayClass.cold_inRange
  holidays := by rw [sps]; rfl
  fewHolidays := by rw [sps]; exact Nat.zero_le _
  days := by rw [sps]; exact fun _ mem => absurd mem List.not_mem_nil
  night := by rw [settings]; decide
  captured := by rw [passages]; exact fun _ mem => absurd mem List.not_mem_nil
  records := by rw [entries]; exact fun _ mem => absurd mem List.not_mem_nil

/-- The condition on the plan is one on the books. -/
theorem planOk_kept : BooksKept PlanOk where
  congr h _ _ _ pev btb sps settings := h.congr sps settings (congrArg Pev.passages pev) (congrArg Btb.entries btb)
  nonPunch src _ _ h := h.store (.nonPunch _ src _)
  closeRecord b r cause form _ h := h.closeRecord b r cause form
  commitPassage d free h := h.commitPassage d free
  cancelPassage d h := h.cancelPassage d
  conflictSet _ h := h.congr rfl rfl rfl rfl
  judge judged h := h.judge judged
  coldStart {s} _ := .cold s.coldStart_sps (by simp [Olc.cold]) (by simp [Pev.cold]) (by simp [Btb.cold])

/-! ### The commands of the plan -/

theorem Table.get_set_cases {n : Nat} {α : Type} {P : α → Prop} (t : Table n α) (i : Fin n) {a : α} (new : P a)
    (old : ∀ j, P (t.get j)) (j : Fin n) : P ((t.set i a).get j) := by
  rw [Table.get_set]
  split
  · exact new
  · exact old j

theorem pairwise_insertDay {n : Nat} {l : List Nat} (order : l.Pairwise (· < ·)) (absent : n ∉ l) :
    (insertDay n l).Pairwise (· < ·) := by
  rw [insertDay_eq order absent, List.pairwise_append, List.pairwise_cons]
  refine ⟨order.filter _, ⟨fun b mem => ?_, order.filter _⟩, fun a low b high => ?_⟩
  · simpa using (List.mem_filter.mp mem).2
  · have lower : a < n := by simpa using (List.mem_filter.mp low).2
    rcases List.mem_cons.mp high with rfl | above
    · exact lower
    · exact Nat.lt_trans lower (by simpa using (List.mem_filter.mp above).2)

theorem mem_insertDay {n d : Nat} {l : List Nat} : d ∈ insertDay n l ↔ d = n ∨ d ∈ l := by
  induction l with
  | nil => simp [insertDay]
  | cons e rest ih =>
    unfold insertDay
    split
    · simp
    · simp only [List.mem_cons, ih]; tauto

theorem length_insertDay (n : Nat) (l : List Nat) : (insertDay n l).length = l.length + 1 := by
  induction l with
  | nil => rfl
  | cons e rest ih =>
    unfold insertDay
    split
    · rfl
    · simp [ih]

theorem everyTwo_lt_iff (l : List Nat) : everyTwo (fun a b => decide (a < b)) l = true ↔ l.Pairwise (· < ·) := by
  rw [everyTwo_iff_isChain]
  simp only [decide_eq_true_eq]
  exact List.isChain_iff_pairwise

/-- The plan after a command that replaces a part of it. -/
theorem PlanOk.putPlan {s : State} (h : PlanOk s) {p : Sps} (put : PlanPut s.sps p) : PlanOk (s.withSps p) := by
  cases put with
  | shift range =>
    exact { h with shifts := fun id d held =>
      Table.get_set_cases (P := fun o => ∀ d, o = some d → d.InRange) s.sps.shifts _ range h.shifts id d held }
  | rota range => exact { h with rotas := Table.get_set_cases _ _ range h.rotas }
  | payClass range => exact { h with payClasses := Table.get_set_cases _ _ range h.payClasses }
  | holiday range absent room =>
    exact { h with
      holidays := (everyTwo_lt_iff _).mpr (pairwise_insertDay h.holidays_pairwise absent)
      fewHolidays := (length_insertDay _ _).trans_le room
      days := fun d mem => by
        rcases mem_insertDay.mp mem with rfl | old
        · exact range
        · exact h.days d old }
  | noHoliday =>
    exact { h with
      holidays := (everyTwo_lt_iff _).mpr (h.holidays_pairwise.filter _)
      fewHolidays := (List.length_filter_le _ _).trans h.fewHolidays
      days := fun d mem => h.days d (List.mem_filter.mp mem).1 }

/-- What a command makes of the plan and its copies. -/
theorem PlanOk.command {s u : State} (h : PlanOk s) (work : CommandEffect s u) : PlanOk u := by
  refine planOk_kept.command h (fun {c _} _ _ => ?_) (fun _ _ _ => ?_) (fun _ => ?_) (fun {n _ p} _ _ _ => ?_) ?_ ?_
    h.putPlan (fun _ night => { h with night := night }) work
  · exact h.updateBadge c.number (f := fun e => e.reconfigure c) fun _ _ fits => fits
  · refine h.ofBooks rfl rfl h.captured fun b mem => ?_
    rcases (mem_insertBadge _ _ _).mp mem with rfl | old
    · exact nofun
    · exact h.records b old
  · exact h.ofBooks rfl rfl h.captured fun b mem => h.records b (List.mem_filter.mp mem).1
  · exact h.updateBadge n (f := fun e => { e with presence := p }) fun _ _ fits => fits
  · refine h.ofBooks rfl rfl h.captured fun b mem => ?_
    obtain ⟨a, inTable, rfl⟩ := List.mem_map.mp mem
    exact h.records a inTable
  · refine h.ofBooks rfl rfl h.captured fun b mem => ?_
    obtain ⟨a, inTable, rfl⟩ := List.mem_map.mp mem
    exact h.records a inTable

/-- Settles O60: the puts by the ranges they check, the copies by the definitions in range they are made of. -/
theorem everyStepKeepsThePlanTables : Obligations.EveryStepKeepsThePlanTables := by
  unfold Obligations.EveryStepKeepsThePlanTables
  exact fun _ _ => planOk_kept.step_keeps (fun h => h.store (.depart _)) PlanOk.command

end Sys2Proof.Machine
end

section
/-!
PROOFS. The report store (10.1): storing, owing and emitting reports, and the obligations O10 and O53.
-/

namespace Sys2Proof.Machine

open Sys2Proof

/-! ### Storing and owing -/

theorem State.nonPunch_stores {s : State} {src : ReportSource} (room : 1 ≤ s.sparePlaces)
    (clear : s.rps.owed.held src = none) (b : ReportBody) : s.nonPunch src b = s.store false b :=
  if_pos ⟨room, clear⟩

theorem State.nonPunch_owes {s : State} {src : ReportSource}
    (h : s.sparePlaces = 0 ∨ s.rps.owed.held src ≠ none) (b : ReportBody) : s.nonPunch src b = s.setOwed src (some b) := by
  refine if_neg fun ⟨room, clear⟩ => ?_
  rcases h with full | held
  · omega
  · exact held clear

/-! ### Emitting (R171) -/

/-- The sources of a list that are emitted from a state: those that owe a report, as many as there are spare places. -/
def State.emitted (s : State) (l : List ReportSource) : List ReportSource :=
  (l.filter fun src => (s.rps.owed.held src).isSome).take s.sparePlaces

/-- The records that sources make when they are emitted from a state, the first taking the next sequence number. -/
def State.emittedRecords (s : State) (l : List ReportSource) : List Report :=
  l.zipIdx.filterMap fun (src, k) => (s.rps.owed.held src).map fun b => ⟨(s.rps.nextSequence + k) % 65536, true, b⟩

/-- R171: what emitting the sources of a list makes of a state. -/
structure Emitted (s : State) (l : List ReportSource) (t : State) : Prop where
  records : t.rps.records = s.rps.records ++ s.emittedRecords (s.emitted l)
  nextSequence : t.rps.nextSequence = (s.rps.nextSequence + (s.emitted l).length) % 65536
  cleared : ∀ src, src ∈ s.emitted l → t.rps.owed.held src = none
  kept : ∀ src, src ∉ s.emitted l → t.rps.owed.held src = s.rps.owed.held src
  pause : t.rps.pause = s.rps.pause
  sparePlaces : t.sparePlaces = s.sparePlaces - (s.emitted l).length

theorem State.emitSource_of_clear {s : State} {src : ReportSource} (h : s.rps.owed.held src = none) :
    s.emitSource src = s := by
  unfold State.emitSource
  rw [h]

theorem State.emitSource_of_full {s : State} (h : s.sparePlaces = 0) (src : ReportSource) : s.emitSource src = s := by
  unfold State.emitSource
  split
  · rfl
  · exact if_neg (by omega)

theorem State.emitSource_of_held {s : State} {src : ReportSource} {b : ReportBody} (room : 1 ≤ s.sparePlaces)
    (h : s.rps.owed.held src = some b) : s.emitSource src = (s.setOwed src none).store true b := by
  unfold State.emitSource
  rw [h]
  exact if_pos room

theorem mod_add_succ (n k : Nat) : ((n + 1) % 65536 + k) % 65536 = (n + (k + 1)) % 65536 := by omega

/-- A source emitted takes the next number, and those after it the numbers that follow. -/
theorem emittedRecords_cons {s : State} {src : ReportSource} {b : ReportBody} (range : s.rps.nextSequence < 65536)
    (held : s.rps.owed.held src = some b) {l : List ReportSource} (later : src ∉ l) :
    s.emittedRecords (src :: l) = ⟨s.rps.nextSequence, true, b⟩ ::
      ((s.setOwed src none).store true b).emittedRecords l := by
  have others : ∀ x ∈ l.zipIdx, ((s.rps.owed.put src none).held x.1) = s.rps.owed.held x.1 := fun x mem =>
    Owed.held_put_of_ne _ _ fun same => later (same ▸ List.fst_mem_of_mem_zipIdx mem)
  unfold State.emittedRecords
  rw [List.zipIdx_cons', List.filterMap_cons, List.filterMap_map]
  simp only [held, Option.map_some, Nat.add_zero, Nat.mod_eq_of_lt range, List.cons.injEq, true_and]
  refine List.filterMap_congr fun x mem => ?_
  simp only [Function.comp, Prod.map, id, State.store_owed, State.setOwed_owed, others x mem, State.store_nextSequence,
    State.setOwed_nextSequence, mod_add_succ]

/-- R171: emitting the sources of a list, one after another. -/
theorem foldl_emitSource_emitted {l : List ReportSource} (once : l.Nodup) {s : State} (range : s.rps.nextSequence < 65536) :
    Emitted s l (l.foldl State.emitSource s) := by
  induction l generalizing s with
  | nil =>
    exact ⟨by simp [State.emitted, State.emittedRecords], by simp [State.emitted, Nat.mod_eq_of_lt range],
      by simp [State.emitted], fun _ _ => rfl, rfl, by simp [State.emitted]⟩
  | cons src rest ih =>
    obtain ⟨later, onceRest⟩ := List.nodup_cons.mp once
    rw [List.foldl_cons]
    cases held : s.rps.owed.held src with
    | none =>
      rw [State.emitSource_of_clear held]
      have same : s.emitted (src :: rest) = s.emitted rest := by simp [State.emitted, held]
      obtain ⟨h1, h2, h3, h4, h5, h6⟩ := ih onceRest range
      exact ⟨by rw [same]; exact h1, by rw [same]; exact h2, by rw [same]; exact h3, by rw [same]; exact h4, h5,
        by rw [same]; exact h6⟩
    | some b =>
      rcases Nat.eq_zero_or_pos s.sparePlaces with full | room
      · rw [State.emitSource_of_full full]
        have same : s.emitted (src :: rest) = s.emitted rest := by simp [State.emitted, full]
        obtain ⟨h1, h2, h3, h4, h5, h6⟩ := ih onceRest range
        exact ⟨by rw [same]; exact h1, by rw [same]; exact h2, by rw [same]; exact h3, by rw [same]; exact h4, h5,
          by rw [same]; exact h6⟩
      · rw [State.emitSource_of_held room held]
        have spare : ((s.setOwed src none).store true b).sparePlaces = s.sparePlaces - 1 := State.store_sparePlaces _ _ _
        have others : ∀ x ∈ rest, ((s.setOwed src none).store true b).rps.owed.held x = s.rps.owed.held x :=
          fun x mem => Owed.held_put_of_ne _ _ fun same => later (same ▸ mem)
        have first : s.emitted (src :: rest) = src :: ((s.setOwed src none).store true b).emitted rest := by
          obtain ⟨n, positive⟩ : ∃ n, s.sparePlaces = n + 1 := ⟨s.sparePlaces - 1, by omega⟩
          have sameFilter : rest.filter (fun x => (s.rps.owed.held x).isSome) = rest.filter
              (fun x => (((s.setOwed src none).store true b).rps.owed.held x).isSome) :=
            List.filter_congr fun x mem => by rw [others x mem]
          unfold State.emitted
          rw [spare, List.filter_cons_of_pos (by rw [held]; rfl), positive, List.take_succ_cons, sameFilter]
          rfl
        have notLater : src ∉ ((s.setOwed src none).store true b).emitted rest := fun mem =>
          later (List.mem_filter.mp (List.mem_of_mem_take mem)).1
        obtain ⟨h1, h2, h3, h4, h5, h6⟩ := ih (s := (s.setOwed src none).store true b) onceRest
          (Nat.mod_lt _ (by decide))
        refine ⟨?_, ?_, ?_, ?_, h5, ?_⟩
        · rw [h1, first, emittedRecords_cons range held notLater]
          simp
        · rw [h2, first, List.length_cons]
          exact mod_add_succ _ _
        · intro x mem
          rw [first] at mem
          by_cases already : x ∈ ((s.setOwed src none).store true b).emitted rest
          · exact h3 x already
          · rcases List.mem_cons.mp mem with rfl | elsewhere
            · rw [h4 _ already]
              exact Owed.held_put_self _ _ _
            · exact absurd elsewhere already
        · intro x absent
          rw [first, List.mem_cons, not_or] at absent
          rw [h4 x absent.2]
          exact Owed.held_put_of_ne _ _ absent.1
        · rw [h6, spare, first, List.length_cons]
          omega

theorem emissionOrder_nodup : emissionOrder.Nodup := by decide

theorem State.emitOwed_emitted {s : State} (range : s.rps.nextSequence < 65536) : Emitted s emissionOrder s.emitOwed :=
  foldl_emitSource_emitted emissionOrder_nodup range

/-- Settles O10: storing and owing by the branch taken, emission source by source. -/
theorem nonPunchReportsAreStoredOrOwedAndEmitted : Obligations.NonPunchReportsAreStoredOrOwedAndEmitted := by
  unfold Obligations.NonPunchReportsAreStoredOrOwedAndEmitted
  refine ⟨fun s src body => ⟨fun room clear => State.nonPunch_stores room clear body, fun h => ?_⟩, fun s range => ?_⟩
  · exact ⟨s.rps.owed.put src (some body), State.nonPunch_owes h body, Owed.held_put_self _ _ _,
      fun other different => Owed.held_put_of_ne _ _ different⟩
  · obtain ⟨r, same⟩ := s.emitOwed_touches
    have emitted := State.emitOwed_emitted range
    rw [same] at emitted
    exact ⟨s.emitted emissionOrder, r, same, rfl, emitted.records, emitted.nextSequence, emitted.cleared, emitted.kept,
      emitted.pause⟩

/-! ### The condition on the store -/

/-- The condition on the report store but for what it says of owed reports while places are spare. -/
structure StoreFits (s : State) : Prop where
  room : s.rps.records.length + 2 * s.pev.passages.length ≤ Config.storeCapacity
  inRange : s.rps.nextSequence < 65536
  consecutive : s.rps.records.IsChain fun a b => b.sequence = (a.sequence + 1) % 65536
  upToNext : ∀ r, s.rps.records.getLast? = some r → s.rps.nextSequence = (r.sequence + 1) % 65536
  payNeverOwed : ∀ r ∈ s.rps.records, r.owed = true → r.body.nonPunch
  owedKinds : ∀ src b, s.rps.owed.held src = some b → b.nonPunch

theorem everyTwo_sequence_iff (l : List Report) : everyTwo (fun a b => b.sequence == (a.sequence + 1) % 65536) l = true
    ↔ l.IsChain fun a b => b.sequence = (a.sequence + 1) % 65536 := by
  rw [everyTwo_iff_isChain]
  simp only [beq_iff_eq]

theorem storeOk_iff (s : State) : StoreOk s ↔ StoreFits s ∧ (s.rps.owed.any = true → s.sparePlaces = 0) :=
  ⟨fun h => ⟨⟨h.room, h.inRange, (everyTwo_sequence_iff _).mp h.consecutive, h.upToNext, h.payNeverOwed, h.owedKinds⟩,
      h.owedOnlyWhenFull⟩,
    fun ⟨h, owed⟩ => ⟨h.room, h.inRange, (everyTwo_sequence_iff _).mpr h.consecutive, h.upToNext, owed, h.payNeverOwed,
      h.owedKinds⟩⟩

theorem StoreOk.fits {s : State} (h : StoreOk s) : StoreFits s := ((storeOk_iff s).mp h).1

/-- What the condition on the store reads. -/
theorem StoreFits.congr {s t : State} (h : StoreFits s) (records : t.rps.records = s.rps.records)
    (next : t.rps.nextSequence = s.rps.nextSequence) (owed : t.rps.owed = s.rps.owed)
    (passages : t.pev.passages.length ≤ s.pev.passages.length) : StoreFits t where
  room := by
    have := h.room
    rw [records]; omega
  inRange := by rw [next]; exact h.inRange
  consecutive := by rw [records]; exact h.consecutive
  upToNext := by rw [records, next]; exact h.upToNext
  payNeverOwed := by rw [records]; exact h.payNeverOwed
  owedKinds := by rw [owed]; exact h.owedKinds

theorem StoreFits.sparePlaces {s : State} (h : StoreFits s) :
    s.sparePlaces + s.rps.records.length + 2 * s.pev.passages.length = Config.storeCapacity := by
  have := h.room
  unfold State.sparePlaces State.freePlaces
  omega

/-- R168: a record joins the tail while a place is spare. -/
theorem StoreFits.store {s : State} (h : StoreFits s) (room : 1 ≤ s.sparePlaces) {owed : Bool} {b : ReportBody}
    (kind : owed = true → b.nonPunch) : StoreFits (s.store owed b) where
  room := by
    have := h.sparePlaces
    simp only [State.store_records, State.store_pev, List.length_append, List.length_singleton]
    omega
  inRange := Nat.mod_lt _ (by decide)
  consecutive := by
    rw [State.store_records, List.isChain_append]
    refine ⟨h.consecutive, .singleton _, fun last found new same => ?_⟩
    cases same
    exact h.upToNext last found
  upToNext := by
    intro r last
    rw [State.store_records, List.getLast?_concat] at last
    cases last
    rfl
  payNeverOwed := by
    intro r mem marked
    rw [State.store_records, List.mem_append, List.mem_singleton] at mem
    rcases mem with old | rfl
    · exact h.payNeverOwed r old marked
    · exact kind marked
  owedKinds := h.owedKinds

theorem StoreFits.setOwed {s : State} (h : StoreFits s) (src : ReportSource) {o : Option ReportBody}
    (kind : ∀ b, o = some b → b.nonPunch) : StoreFits (s.setOwed src o) :=
  { h with
    owedKinds := fun other b held => by
      rw [State.setOwed_owed, Owed.held_put] at held
      split at held
      · exact kind b held
      · exact h.owedKinds other b held }

theorem StoreFits.emitSource {s : State} (h : StoreFits s) (src : ReportSource) : StoreFits (s.emitSource src) := by
  unfold State.emitSource
  split
  · exact h
  · next b held =>
    split
    · next room => exact (h.setOwed src (o := none) (by simp)).store room fun _ => h.owedKinds src b held
    · exact h

/-- A source that still owes a report after the sources of a list were emitted was left for want of a place. -/
theorem Emitted.full_of_owing {s t : State} {l : List ReportSource} (emitted : Emitted s l t) {src : ReportSource}
    (mem : src ∈ l) (held : (t.rps.owed.held src).isSome = true) : t.sparePlaces = 0 := by
  have kept : src ∉ s.emitted l := fun mem => by simp [emitted.cleared src mem] at held
  have owes : src ∈ l.filter fun src => (s.rps.owed.held src).isSome :=
    List.mem_filter.mpr ⟨mem, by rw [← emitted.kept src kept]; exact held⟩
  have full : s.sparePlaces ≤ (l.filter fun src => (s.rps.owed.held src).isSome).length := by
    by_contra short
    exact kept (by unfold State.emitted; rwa [List.take_of_length_le (by omega)])
  rw [emitted.sparePlaces, State.emitted, List.length_take]
  omega

/-- R171: once the owed reports have been emitted, none is owed while a place is spare. -/
theorem StoreFits.emitOwed {s : State} (h : StoreFits s) : StoreOk s.emitOwed := by
  refine (storeOk_iff _).mpr ⟨?_, fun any => ?_⟩
  · unfold State.emitOwed
    exact foldl_keeps (P := StoreFits) (act := State.emitSource) (fun src h => h.emitSource src) _ h
  · obtain ⟨src, held⟩ := (Owed.any_iff _).mp any
    exact (State.emitOwed_emitted h.inRange).full_of_owing (mem_emissionOrder src) held

/-- While a place is spare and nothing is owed, storing leaves nothing owed. -/
theorem StoreOk.store {s : State} (h : StoreOk s) (room : 1 ≤ s.sparePlaces) {b : ReportBody} :
    StoreOk (s.store false b) := by
  refine (storeOk_iff _).mpr ⟨h.fits.store room nofun, fun any => ?_⟩
  have := h.owedOnlyWhenFull any
  omega

theorem StoreOk.nonPunch {s : State} (h : StoreOk s) (src : ReportSource) {b : ReportBody} (kind : b.nonPunch) :
    StoreOk (s.nonPunch src b) := by
  by_cases room : 1 ≤ s.sparePlaces
  · have clear : s.rps.owed.held src = none := by
      by_contra held
      have := h.owedOnlyWhenFull ((Owed.any_iff _).mpr ⟨src, Option.isSome_iff_ne_none.mpr held⟩)
      omega
    rw [State.nonPunch_stores room clear]
    exact h.store room
  · have full : s.sparePlaces = 0 := by omega
    rw [State.nonPunch_owes (.inl full)]
    exact (storeOk_iff _).mpr ⟨h.fits.setOwed src fun _ same => by cases same; exact kind, fun _ => full⟩

/-! ### Closes, commits and passages -/

@[simp] theorem State.updateBadge_rps (s : State) (n : Nat) (f : Badge → Badge) : (s.updateBadge n f).rps = s.rps := rfl
@[simp] theorem State.updateBadge_pev (s : State) (n : Nat) (f : Badge → Badge) : (s.updateBadge n f).pev = s.pev := rfl
@[simp] theorem State.updateBadge_sparePlaces (s : State) (n : Nat) (f : Badge → Badge) :
    (s.updateBadge n f).sparePlaces = s.sparePlaces := rfl

theorem StoreOk.closeRecord {s : State} (h : StoreOk s) (room : 1 ≤ s.sparePlaces) (b : Badge) (r : OpenRecord)
    (cause : CloseCause) (form : CloseForm) : StoreOk (s.closeRecord b r cause form) :=
  StoreOk.store (s := s.updateBadge b.number fun e => e.afterClose (computeClose b.number b.carry r form) cause)
    (h.congr rfl rfl) room

/-- A condition that storing a PUNCH or SHIFT_CLOSE report keeps while a place is spare is kept by the work of a commit
while two are. -/
theorem commitWork_keeps {P : State → Prop} (congr : ∀ {s t : State}, P s → t.rps = s.rps → t.pev = s.pev → P t)
    (store : ∀ {s : State} {b : ReportBody}, 1 ≤ s.sparePlaces → P s → P (s.store false b)) {s : State} (a : Accepted)
    (room : 2 ≤ s.sparePlaces) (h : P s) : P (s.commitWork a) := by
  have one : 1 ≤ s.sparePlaces := by omega
  unfold State.commitWork
  split
  · exact store one h
  · next b _ =>
    split
    · exact store (s := s.updateBadge b.number fun e => e.afterEntry a (s.sps.payClasses.get e.payClass) s.olc.settings)
        one (congr h rfl rfl)
    · unfold State.commitExit
      split
      · next r _ =>
        have reported : P (s.store false (a.report .accepted s.tbu.calendar)) := store one h
        exact store (s := (s.store false (a.report .accepted s.tbu.calendar)).updateBadge b.number fun e =>
          e.afterClose (computeClose b.number b.carry r (.outTime a.punchTime)) .punch)
          (by rw [State.updateBadge_sparePlaces, State.store_sparePlaces]; omega) (congr reported rfl rfl)
      · exact store (s := s.updateBadge b.number fun e => { e with presence := .outside }) one (congr h rfl rfl)
    · exact store one h

theorem StoreFits.commitWork {s : State} (h : StoreFits s) (room : 2 ≤ s.sparePlaces) (a : Accepted) :
    StoreFits (s.commitWork a) :=
  commitWork_keeps (fun h rps pev => h.congr (by rw [rps]) (by rw [rps]) (by rw [rps]) (by rw [pev]))
    (fun room h => h.store room nofun) a room h

theorem StoreOk.commitWork {s : State} (h : StoreOk s) (room : 2 ≤ s.sparePlaces) (a : Accepted) :
    StoreOk (s.commitWork a) :=
  commitWork_keeps (fun h rps pev => h.congr rps pev) (fun room h => h.store room) a room h

/-- R70: a passage that leaves the list gives back its two places. -/
theorem StoreFits.removePassage {s : State} (h : StoreFits s) {d : DoorId} {p : Passage} (found : s.passageAt d = some p)
    (n : Nat) (f : Badge → Badge) :
    StoreFits ((s.removePassage d).updateBadge n f) ∧ 2 ≤ ((s.removePassage d).updateBadge n f).sparePlaces := by
  obtain ⟨mem, door⟩ := State.passageAt_some found
  have fewer : (s.pev.passages.filter fun p => p.door != d).length < s.pev.passages.length :=
    List.length_filter_lt_length_iff_exists.mpr ⟨p, mem, by simp [door]⟩
  have fits : StoreFits ((s.removePassage d).updateBadge n f) := h.congr rfl rfl rfl (Nat.le_of_lt fewer)
  have before := h.sparePlaces
  have after := fits.sparePlaces
  have passages : ((s.removePassage d).updateBadge n f).pev.passages = s.pev.passages.filter fun p => p.door != d := rfl
  have records : ((s.removePassage d).updateBadge n f).rps.records = s.rps.records := rfl
  rw [passages, records] at after
  exact ⟨fits, by omega⟩

theorem StoreOk.commitPassage {s : State} (h : StoreOk s) (d : DoorId) (free : Bool) :
    StoreOk (s.commitPassage d free) := by
  unfold State.commitPassage
  split
  · exact h
  · next p found =>
    obtain ⟨fits, room⟩ := h.fits.removePassage found p.badge fun b => { b with savedPunch := none }
    exact (fits.commitWork room _).emitOwed

theorem StoreOk.cancelPassage {s : State} (h : StoreOk s) (d : DoorId) : StoreOk (s.cancelPassage d) := by
  unfold State.cancelPassage
  split
  · exact h
  · next p found =>
    obtain ⟨fits, room⟩ := h.fits.removePassage found p.badge Badge.afterCancel
    exact StoreFits.emitOwed (fits.store (by omega) fun marked => absurd marked Bool.false_ne_true)

theorem length_insertPassage (p : Passage) (l : List Passage) : (insertPassage p l).length = l.length + 1 := by
  induction l with
  | nil => rfl
  | cons q rest ih =>
    unfold insertPassage
    split
    · rfl
    · simp [ih]

theorem StoreOk.refuseConflict {s : State} (h : StoreOk s) (room : 1 ≤ s.sparePlaces) (p : Punch) (dir : Direction)
    (l : LastPunch) : StoreOk (s.refuseConflict p dir l) := by
  have stored : StoreOk (s.refuse p (some dir) .conflict) := h.store room
  have spare : ((s.refuse p (some dir) .conflict).joinConflicts p.station l.station).sparePlaces
      = (s.refuse p (some dir) .conflict).sparePlaces := rfl
  have joined : StoreOk ((s.refuse p (some dir) .conflict).joinConflicts p.station l.station) :=
    (storeOk_iff _).mpr ⟨stored.fits.congr rfl rfl rfl (Nat.le_refl _), by rw [spare]; exact stored.owedOnlyWhenFull⟩
  unfold State.refuseConflict
  dsimp only
  split
  · obtain ⟨_, _, fired⟩ := State.fireAlarm_touches (((s.refuse p (some dir) .conflict).joinConflicts p.station
      l.station).nonPunch .conflict (.conflict ⟨p.badge, p.station, l.station, p.config.zone, p.time, l.time,
        s.tbu.calendar⟩))
    rw [fired]
    exact StoreOk.congr (joined.nonPunch .conflict (show ReportBody.nonPunch (.conflict _) from trivial)) rfl rfl
  · exact joined

theorem StoreOk.judge {s : State} {p : Punch} {v : Verdict} (judged : Judged s p v) (h : StoreOk s) :
    StoreOk v.state := by
  cases judged with
  | silent => exact h
  | refused room => exact h.store (by omega)
  | conflict room => exact h.refuseConflict (by omega) _ _ _
  | @atOnce b _ _ room _ _ =>
    exact StoreOk.commitWork (s := s.updateBadge b.number fun e => e.acceptAtOnce ⟨p.station, p.time⟩)
      (h.congr rfl rfl) (by rw [State.updateBadge_sparePlaces]; omega) _
  | @pending b dir d r room _ _ _ _ _ _ =>
    have created : StoreOk (s.withPev { s.pev with passages := insertPassage ⟨d, b.number, p.station, dir, p.time, p.age,
        p.arrival, p.late, s.capture b dir p.time, s.tbu.calendar⟩ s.pev.passages }) := by
      have spare := h.fits.sparePlaces
      refine (storeOk_iff _).mpr ⟨{ h.fits with room := ?_ }, fun any => ?_⟩
      · simp only [State.withPev_rps, State.withPev_pev, length_insertPassage]
        omega
      · have := h.owedOnlyWhenFull any
        omega
    exact created.congr ((State.releaseDoor_rps _ _).trans rfl) ((State.releaseDoor_pev _ _).trans rfl)

theorem StoreOk.depart {s : State} (h : StoreOk s) : StoreOk s.depart := by
  have fits := h.fits
  refine StoreFits.emitOwed (s := s.withRps { s.rps with records := s.rps.records.tail }) { fits with
    room := ?_
    consecutive := fits.consecutive.tail
    upToNext := fun r last => fits.upToNext r ?_
    payNeverOwed := fun r mem => fits.payNeverOwed r (List.mem_of_mem_tail mem) }
  · have := fits.room
    simp only [State.withRps_rps, State.withRps_pev, List.length_tail]
    omega
  · rw [State.withRps_rps] at last
    cases records : s.rps.records with
    | nil => rw [records] at last; cases last
    | cons head rest =>
      rw [records, List.tail_cons] at last
      rw [List.getLast?_cons, last]
      rfl

theorem Owed.clear_held (src : ReportSource) : Owed.clear.held src = none := by
  cases src <;> simp [Owed.clear, Owed.held]

theorem StoreOk.coldStart (s : State) : StoreOk s.coldStart := by
  have owed : s.coldStart.rps.owed = Owed.clear := congrArg Rps.owed s.coldStart_rps
  refine (storeOk_iff _).mpr ⟨⟨?_, ?_, ?_, ?_, ?_, ?_⟩, fun any => ?_⟩
  · simp [Rps.cold, Pev.cold, Config.storeCapacity]
  · simp [Rps.cold]
  · rw [s.coldStart_rps]; exact .singleton _
  · simp [Rps.cold]
  · simp [Rps.cold]
  · intro src b held
    rw [owed, Owed.clear_held] at held
    exact (Option.some_ne_none b held.symm).elim
  · obtain ⟨src, held⟩ := (Owed.any_iff _).mp any
    rw [owed, Owed.clear_held] at held
    exact (Bool.false_ne_true held).elim

/-- The condition on the report store is one on the books. -/
theorem storeOk_kept : BooksKept StoreOk where
  congr {s t} h records next owed pev _ _ _ := by
    refine (storeOk_iff _).mpr ⟨h.fits.congr records next owed (by rw [pev]), fun any => ?_⟩
    rw [State.sparePlaces_congr records pev]
    exact h.owedOnlyWhenFull (owed ▸ any)
  nonPunch src _ kind h := h.nonPunch src kind
  closeRecord b r cause form room h := h.closeRecord room b r cause form
  commitPassage d free h := h.commitPassage d free
  cancelPassage d h := h.cancelPassage d
  conflictSet {s} m h := (storeOk_iff _).mpr ⟨h.fits.congr rfl rfl rfl (Nat.le_refl _), h.owedOnlyWhenFull⟩
  judge judged h := h.judge judged
  coldStart {s} _ := .coldStart s

/-- Settles O53: each operation on the store keeps its places, its numbers and its owed flags. -/
theorem everyStepKeepsTheReportStore : Obligations.EveryStepKeepsTheReportStore := by
  unfold Obligations.EveryStepKeepsTheReportStore
  exact fun _ _ => storeOk_kept.step_keeps StoreOk.depart fun h work =>
    storeOk_kept.command h (fun _ _ => h.congr rfl rfl) (fun _ _ _ => h.congr rfl rfl) (fun _ => h.congr rfl rfl)
      (fun _ _ _ => h.congr rfl rfl) (h.congr rfl rfl) (h.congr rfl rfl) (fun _ => h.congr rfl rfl)
      (fun _ _ => h.congr rfl rfl) work

end Sys2Proof.Machine
end

section
/-!
PROOFS. The bells (chapter 9): what an output does with a phase that ends, with a request, with an evacuation and with a
change of the supply, and the obligation O58.
-/

namespace Sys2Proof.Machine

open Sys2Proof

/-! ### Rings -/

/-- R151, R164: a ring at a step of its pattern, endless exactly where it is an evacuation ring. -/
structure CurrentRing.Plays (c : CurrentRing) : Prop where
  started : 1 ≤ c.position
  within : c.position ≤ c.steps.length
  endless : c.ring.source = .evacuation ↔ c.repsLeft = none
  repeats : ∀ n, c.repsLeft = some n → 1 ≤ n

/-- R150: the times of a pattern count tens of its 10 ms units. -/
theorem patternTime_eq (n : Nat) : n * Config.patternUnit = Config.tensOfMs (10 * n) := by
  unfold Config.patternUnit Config.tensOfMs
  omega

/-- R151: a ring starts at the first step of its pattern, or its pattern is empty. -/
theorem startRing_eq_some {patterns : Table 16 Pattern} {r : Ring} {c : CurrentRing} :
    startRing patterns r = some c ↔ startsAs patterns r c := by
  unfold startRing startsAs atStep
  dsimp only
  split
  · next empty => simp [empty]
  · next first rest steps =>
    rw [steps, Option.some_inj, patternTime_eq]
    constructor
    · intro same
      exact ⟨first, rest, rfl, same.symm⟩
    · rintro ⟨first', rest', same, found⟩
      obtain ⟨rfl, rfl⟩ := List.cons.inj same
      exact found.symm

theorem startRing_plays {patterns : Table 16 Pattern} {r : Ring} {c : CurrentRing} (h : startRing patterns r = some c) :
    c.ring = r ∧ c.Plays := by
  obtain ⟨first, rest, -, rfl⟩ := startRing_eq_some.mp h
  refine ⟨rfl, Nat.le_refl 1, by simp, ?_, fun n left => ?_⟩
  · dsimp only; split <;> simp [*]
  · dsimp only at left
    split at left
    · cases left
    · cases left; omega

theorem newRepetition_plays {patterns : Table 16 Pattern} {c c' : CurrentRing} {left : Option Nat}
    (h : newRepetition patterns c left = some c') (endless : c.ring.source = .evacuation ↔ left = none)
    (repeats : ∀ n, left = some n → 1 ≤ n) : c'.ring = c.ring ∧ c'.Plays := by
  unfold newRepetition at h
  split at h
  · cases h
  · cases h
    exact ⟨rfl, Nat.le_refl 1, by simp [atStep], endless, repeats⟩

theorem repetitionEnd_plays {patterns : Table 16 Pattern} {c c' : CurrentRing} (h : repetitionEnd patterns c = some c')
    (plays : c.Plays) : c'.ring = c.ring ∧ c'.Plays := by
  unfold repetitionEnd at h
  split at h
  · next endless =>
    split at h
    · cases h
    · exact newRepetition_plays h (by simp [plays.endless, endless]) (by simp)
  · next n left =>
    split at h
    · cases h
    · refine newRepetition_plays h (by simp [plays.endless, left]) fun m same => ?_
      cases same
      omega

/-- R151: the phase timer of a ring runs out, and the ring goes on. -/
theorem advanceRing_plays {patterns : Table 16 Pattern} {c c' : CurrentRing} (h : advanceRing patterns c = some c')
    (plays : c.Plays) : c'.ring = c.ring ∧ c'.Plays := by
  unfold advanceRing at h
  split at h
  · split at h
    · cases h
      exact ⟨rfl, plays.started, plays.within, plays.endless, plays.repeats⟩
    · cases h
  · split at h
    · next st found =>
      cases h
      obtain ⟨inside, -⟩ := List.getElem?_eq_some_iff.mp found
      exact ⟨rfl, by simp, inside, plays.endless, plays.repeats⟩
    · exact repetitionEnd_plays h plays

/-! ### Waiting lists -/

theorem everyTwo_priority_iff (l : List Ring) : everyTwo (fun a b => decide (b.priority ≤ a.priority)) l = true
    ↔ l.Pairwise fun a b => b.priority ≤ a.priority := by
  rw [everyTwo_iff_isChain]
  simp only [decide_eq_true_eq]
  exact List.isChain_iff_pairwise (R := fun a b : Ring => b.priority ≤ a.priority)

/-- R159: a ring joins a descending list after every ring of equal or higher priority. -/
theorem insertRing_eq_placed {l : List Ring} (descending : l.Pairwise fun a b => b.priority ≤ a.priority) (r : Ring) :
    insertRing r l = placed r l := by
  induction l with
  | nil => rfl
  | cons w rest ih =>
    obtain ⟨below, descendingRest⟩ := List.pairwise_cons.mp descending
    unfold insertRing placed
    split
    · next lower =>
      have later : ∀ x ∈ rest, x.priority < r.priority := fun x mem => Nat.lt_of_le_of_lt (below x mem) lower
      rw [List.filter_eq_nil_iff.mpr, List.filter_eq_self.mpr]
      · rfl
      · intro x mem
        rcases List.mem_cons.mp mem with rfl | inRest
        · simpa using lower
        · simpa using later x inRest
      · intro x mem
        rcases List.mem_cons.mp mem with rfl | inRest
        · simpa using lower
        · simpa using later x inRest
    · next notLower =>
      have higher : r.priority ≤ w.priority := Nat.le_of_not_lt notLower
      rw [List.filter_cons_of_pos (by simpa using higher), List.filter_cons_of_neg (by simpa using higher), ih descendingRest]
      rfl

theorem pairwise_placed {l : List Ring} (descending : l.Pairwise fun a b => b.priority ≤ a.priority) (r : Ring) :
    (placed r l).Pairwise fun a b => b.priority ≤ a.priority := by
  unfold placed
  rw [List.pairwise_append, List.pairwise_cons]
  refine ⟨descending.filter _, ⟨fun w mem => ?_, descending.filter _⟩, fun a memA b memB => ?_⟩
  · obtain ⟨-, lower⟩ := List.mem_filter.mp mem
    exact Nat.le_of_lt (by simpa using lower)
  · obtain ⟨-, higher⟩ := List.mem_filter.mp memA
    have higher : r.priority ≤ a.priority := by simpa using higher
    rcases List.mem_cons.mp memB with rfl | inLower
    · exact higher
    · obtain ⟨-, lower⟩ := List.mem_filter.mp inLower
      have lower : b.priority < r.priority := by simpa using lower
      exact Nat.le_trans (Nat.le_of_lt lower) higher

/-- R159, R164, R166: a waiting list: at most four rings in descending priority, none of the evacuation, and in BATTERY of
priority 3 alone. -/
structure WaitingOk (supply : Supply) (l : List Ring) : Prop where
  capacity : l.length ≤ Config.waitingCapacity
  order : l.Pairwise fun a b => b.priority ≤ a.priority
  noneWaits : ∀ w ∈ l, w.source ≠ .evacuation
  battery : supply = .battery → ∀ w ∈ l, w.priority = 3

theorem WaitingOk.nil (supply : Supply) : WaitingOk supply [] :=
  ⟨Nat.zero_le _, .nil, fun _ mem => absurd mem List.not_mem_nil, fun _ _ mem => absurd mem List.not_mem_nil⟩

theorem WaitingOk.tail {supply : Supply} {r : Ring} {rest : List Ring} (h : WaitingOk supply (r :: rest)) :
    WaitingOk supply rest where
  capacity := Nat.le_trans (Nat.le_succ _) h.capacity
  order := (List.pairwise_cons.mp h.order).2
  noneWaits w mem := h.noneWaits w (List.mem_cons_of_mem _ mem)
  battery b w mem := h.battery b w (List.mem_cons_of_mem _ mem)

/-- R166: in BATTERY the rings of priority 3 are kept. -/
theorem WaitingOk.kept {supply : Supply} {l : List Ring} (h : WaitingOk supply l) :
    WaitingOk .battery (l.filter fun w => decide (3 ≤ w.priority)) where
  capacity := Nat.le_trans (List.length_filter_le _ _) h.capacity
  order := h.order.filter _
  noneWaits w mem := h.noneWaits w (List.mem_filter.mp mem).1
  battery _ w mem := by
    have high : 3 ≤ w.priority := by simpa using (List.mem_filter.mp mem).2
    omega

theorem WaitingOk.insert {supply : Supply} {l : List Ring} (h : WaitingOk supply l) (room : l.length < Config.waitingCapacity)
    {r : Ring} (source : r.source ≠ .evacuation) (battery : supply = .battery → r.priority = 3) :
    WaitingOk supply (insertRing r l) where
  capacity := by rw [length_insertRing]; exact room
  order := by rw [insertRing_eq_placed h.order]; exact pairwise_placed h.order r
  noneWaits w mem := by
    rcases (mem_insertRing r w l).mp mem with rfl | old
    · exact source
    · exact h.noneWaits w old
  battery b w mem := by
    rcases (mem_insertRing r w l).mp mem with rfl | old
    · exact battery b
    · exact h.battery b w old

/-- R159: a ring joins the list, in place of the last where the list is full, or is dropped. -/
theorem WaitingOk.join {supply : Supply} {l : List Ring} (h : WaitingOk supply l) {r : Ring}
    (source : r.source ≠ .evacuation) (battery : supply = .battery → r.priority = 3) :
    WaitingOk supply (joinWaiting r l).1 := by
  unfold joinWaiting
  split
  · next room => exact h.insert room source battery
  · split
    · next last found =>
      split
      · have nonempty : l ≠ [] := by rintro rfl; cases found
        have dropped : WaitingOk supply l.dropLast :=
          ⟨by rw [List.length_dropLast]; exact Nat.le_trans (Nat.sub_le _ _) h.capacity,
            h.order.sublist (List.dropLast_sublist l), fun w mem => h.noneWaits w (List.mem_of_mem_dropLast mem),
            fun b w mem => h.battery b w (List.mem_of_mem_dropLast mem)⟩
        refine dropped.insert ?_ source battery
        have := h.capacity
        have := List.length_pos_iff.mpr nonempty
        rw [List.length_dropLast]
        omega
      · exact h
    · exact h

/-! ### Outputs -/

/-- The condition on an output, ring and waiting list apart. -/
theorem outputOk_iff (supply : Supply) (o : BellOutput) : OutputOk supply o ↔ WaitingOk supply o.waiting
    ∧ (o.current = none → o.waiting = []) ∧ (supply = .low → o.current = none)
    ∧ ∀ c, o.current = some c → c.Plays ∧ (supply = .battery → c.ring.priority = 3) := by
  constructor
  · intro h
    refine ⟨⟨h.capacity, (everyTwo_priority_iff _).mp h.order, h.noneWaits, fun b => (h.battery b).2⟩, h.idle, h.low,
      fun c current => ⟨?_, fun b => (h.battery b).1 c current⟩⟩
    obtain ⟨started, within, endless, repeats⟩ := h.current c current
    exact ⟨started, within, endless, repeats⟩
  · rintro ⟨waiting, idle, low, current⟩
    exact { waiting with
      order := (everyTwo_priority_iff _).mpr waiting.order
      idle := idle
      current := fun c found =>
        have plays := (current c found).1
        ⟨plays.started, plays.within, plays.endless, plays.repeats⟩
      low := low
      battery := fun b => ⟨fun c found => (current c found).2 b, waiting.battery b⟩ }

theorem OutputOk.waits {supply : Supply} {o : BellOutput} (h : OutputOk supply o) : WaitingOk supply o.waiting :=
  ((outputOk_iff supply o).mp h).1

theorem OutputOk.plays {supply : Supply} {o : BellOutput} (h : OutputOk supply o) {c : CurrentRing}
    (current : o.current = some c) : c.Plays := (((outputOk_iff supply o).mp h).2.2.2 c current).1

/-- An output that plays a ring, with rings waiting. -/
theorem OutputOk.playing {supply : Supply} {l : List Ring} (waiting : WaitingOk supply l) (notLow : supply ≠ .low)
    {c : CurrentRing} (plays : c.Plays) (battery : supply = .battery → c.ring.priority = 3) :
    OutputOk supply ⟨some c, l⟩ :=
  (outputOk_iff _ _).mpr ⟨waiting, nofun, fun low => absurd low notLow, fun c' same => by
    cases same; exact ⟨plays, battery⟩⟩

/-- An output without a current ring is idle. -/
theorem OutputOk.eq_cold {supply : Supply} {o : BellOutput} (h : OutputOk supply o) (none : o.current = none) :
    o = BellOutput.cold := by
  obtain ⟨current, waiting⟩ := o
  cases none
  rw [show waiting = [] from h.idle rfl]
  rfl

/-- R160: the first waiting ring with a pattern starts. -/
theorem startNext_ok {supply : Supply} (notLow : supply ≠ .low) (patterns : Table 16 Pattern) {l : List Ring}
    (h : WaitingOk supply l) : OutputOk supply (startNext patterns l) := by
  induction l with
  | nil => exact OutputOk.cold supply
  | cons r rest ih =>
    unfold startNext
    split
    · next c starts =>
      obtain ⟨ring, plays⟩ := startRing_plays starts
      exact .playing h.tail notLow plays fun b => by rw [ring]; exact h.battery b r List.mem_cons_self
    · exact ih h.tail

theorem OutputOk.phaseEnd {supply : Supply} {o : BellOutput} (h : OutputOk supply o) (notLow : supply ≠ .low)
    (patterns : Table 16 Pattern) : OutputOk supply (o.phaseEnd patterns) := by
  unfold BellOutput.phaseEnd
  split
  · exact h
  · next c current =>
    split
    · next c' goes =>
      obtain ⟨ring, plays⟩ := advanceRing_plays goes (h.plays current)
      exact .playing h.waits notLow plays fun b => by rw [ring]; exact (h.battery b).1 c current
    · exact startNext_ok notLow patterns h.waits

theorem OutputOk.serve {supply : Supply} {o : BellOutput} (h : OutputOk supply o) (notLow : supply ≠ .low)
    (patterns : Table 16 Pattern) {r : Ring} (source : r.source ≠ .evacuation) (battery : supply = .battery → r.priority = 3) :
    OutputOk supply (o.serve patterns r).1 := by
  unfold BellOutput.serve
  split
  · exact h
  · next started starts =>
    obtain ⟨ring, plays⟩ := startRing_plays starts
    have takesOver : OutputOk supply { o with current := some started } :=
      .playing h.waits notLow plays (by rw [ring]; exact battery)
    split
    · exact h
    · split
      · exact takesOver
      · next c current =>
        split
        · exact takesOver
        · have := (outputOk_iff supply o).mp h
          obtain ⟨waiting, -, -, rings⟩ := this
          refine (outputOk_iff _ _).mpr ⟨waiting.join source battery, fun idle => ?_, fun low => absurd low notLow, rings⟩
          exact absurd (current.symm.trans idle) (Option.some_ne_none c)

/-- R166: in BATTERY a request of priority below 3 is dropped before it is served. -/
theorem OutputOk.request {supply : Supply} {o : BellOutput} (h : OutputOk supply o) (notLow : supply ≠ .low)
    (patterns : Table 16 Pattern) {r : Ring} (source : r.source ≠ .evacuation) :
    OutputOk supply (o.request patterns (decide (supply = .battery)) r).1 := by
  unfold BellOutput.request
  split
  · exact h
  · next notDropped =>
    refine h.serve notLow patterns source fun b => ?_
    have : ¬ r.priority < 3 := by simpa [b] using notDropped
    omega

theorem OutputOk.evacuate {supply : Supply} {o : BellOutput} (h : OutputOk supply o) (notLow : supply ≠ .low)
    (patterns : Table 16 Pattern) (pattern : PatternId) : OutputOk supply (o.evacuate patterns pattern) := by
  have takesOver : ∀ {started}, startRing patterns ⟨.evacuation, 3, pattern⟩ = some started →
      OutputOk supply { o with current := some started } := fun starts => by
    obtain ⟨ring, plays⟩ := startRing_plays starts
    exact .playing h.waits notLow plays fun _ => by rw [ring]
  unfold BellOutput.evacuate
  split
  · next c current =>
    split
    · have plays := h.plays current
      exact .playing h.waits notLow ⟨plays.started, plays.within, plays.endless, plays.repeats⟩
        fun b => (h.battery b).1 c current
    · split
      · exact h
      · next starts => exact takesOver starts
  · split
    · exact h
    · next starts => exact takesOver starts

theorem OutputOk.endEvacuation {supply : Supply} {o : BellOutput} (h : OutputOk supply o) (notLow : supply ≠ .low) :
    OutputOk supply o.endEvacuation := by
  unfold BellOutput.endEvacuation
  split
  · next c current =>
    split
    · have plays := h.plays current
      exact .playing h.waits notLow ⟨plays.started, plays.within, plays.endless, plays.repeats⟩
        fun b => (h.battery b).1 c current
    · exact h
  · exact h

/-- R166: on entry to BATTERY the rings below priority 3 are ended. -/
theorem OutputOk.suppress {supply : Supply} {o : BellOutput} (h : OutputOk supply o) (patterns : Table 16 Pattern) :
    OutputOk .battery (o.suppress patterns) := by
  unfold BellOutput.suppress
  dsimp only
  split
  · next idle =>
    rw [h.eq_cold idle]
    exact OutputOk.cold _
  · next c current =>
    split
    · exact startNext_ok (by decide) patterns h.waits.kept
    · next high =>
      rw [show ({ o with waiting := o.waiting.filter fun w => decide (3 ≤ w.priority) } : BellOutput)
        = ⟨some c, o.waiting.filter fun w => decide (3 ≤ w.priority)⟩ by rw [← current]]
      exact .playing h.waits.kept (by decide) (h.plays current) fun _ => by omega

theorem OutputOk.tick {supply : Supply} {o : BellOutput} (h : OutputOk supply o) : OutputOk supply o.tick := by
  obtain ⟨waiting, idle, low, rings⟩ := (outputOk_iff _ _).mp h
  refine (outputOk_iff _ _).mpr ⟨waiting, fun none => idle ?_, fun isLow => ?_, fun c found => ?_⟩
  · simpa [BellOutput.tick] using none
  · simp [BellOutput.tick, low isLow]
  · obtain ⟨c, current, rfl⟩ := Option.map_eq_some_iff.mp found
    obtain ⟨plays, battery⟩ := rings c current
    exact ⟨⟨plays.started, plays.within, plays.endless, plays.repeats⟩, battery⟩

/-- Without BATTERY and LOW an output is held to what holds in every supply state. -/
theorem OutputOk.toMains {supply : Supply} {o : BellOutput} (h : OutputOk supply o) : OutputOk .mains o :=
  { h with low := nofun, battery := nofun }

/-! ### The Bell Controller -/

/-- The outputs of a Bell Controller meet their condition. -/
def Blc.Ok (supply : Supply) (b : Blc) : Prop := ∀ o, OutputOk supply (b.outputs.get o)

theorem Blc.Ok.requestAll {supply : Supply} {b : Blc} (h : b.Ok supply) (notLow : supply ≠ .low) (set : OutputSet)
    {r : Ring} (source : r.source ≠ .evacuation) : (b.requestAll (decide (supply = .battery)) set r).Ok supply := by
  intro o
  rw [Blc.requestAll_get]
  split
  · exact (h o).request notLow _ source
  · exact h o

theorem Blc.Ok.evaluateEntry {supply : Supply} {b : Blc} (h : b.Ok supply) (notLow : supply ≠ .low) (p : Sps) (m : Nat)
    (n : BellId) : (b.evaluateEntry p (decide (supply = .battery)) m n).Ok supply := by
  unfold Blc.evaluateEntry
  split
  · exact h
  · next e _ =>
    split
    · have marked : Blc.Ok supply { b with
          entries := b.entries.set n (some { e with lastRung := some m, armed := !e.oneShot }) } := h
      exact marked.requestAll notLow _ (by simp)
    · exact h

theorem Blc.Ok.evaluateMinute {supply : Supply} {b : Blc} (h : b.Ok supply) (notLow : supply ≠ .low) (p : Sps) (m : Nat) :
    (b.evaluateMinute p (decide (supply = .battery)) m).Ok supply := by
  unfold Blc.evaluateMinute
  generalize List.finRange 96 = l
  induction l generalizing b with
  | nil => exact h
  | cons n rest ih => exact ih (h.evaluateEntry notLow p m n)

theorem Blc.Ok.evaluate {supply : Supply} {b : Blc} (h : b.Ok supply) (notLow : supply ≠ .low) (p : Sps) (l : List Nat) :
    (b.evaluate p (decide (supply = .battery)) l).Ok supply := by
  unfold Blc.evaluate
  induction l generalizing b with
  | nil => exact h
  | cons m rest ih =>
    rw [List.foldl_cons]
    exact ih (h.evaluateMinute notLow p m)

theorem Blc.Ok.silence (supply : Supply) (b : Blc) : b.silence.Ok supply := by
  intro o
  rw [Blc.silence_get]
  exact OutputOk.cold supply

theorem Blc.Ok.evacuate {supply : Supply} {b : Blc} (h : b.Ok supply) (notLow : supply ≠ .low) (p : PatternId) :
    (b.evacuate p).Ok supply := by
  intro o
  rw [Blc.evacuate_get]
  exact (h o).evacuate notLow _ _

theorem Blc.Ok.endEvacuation {supply : Supply} {b : Blc} (h : b.Ok supply) (notLow : supply ≠ .low) :
    b.endEvacuation.Ok supply := by
  intro o
  rw [Blc.endEvacuation_get]
  exact (h o).endEvacuation notLow

/-! ### The plant and the bells -/

theorem State.onBattery_eq (s : State) : s.onBattery = decide (s.tbu.supply = .battery) := by
  unfold State.onBattery
  cases s.tbu.supply <;> rfl

/-- `t` is `s` with the TBU kept and the outputs, outside LOW, as well formed as before. -/
structure RingsKept (s t : State) : Prop where
  tbu : t.tbu = s.tbu
  rings : s.tbu.supply ≠ .low → OutputsOk s → OutputsOk t

section Plant

variable {s t u : State}

theorem RingsKept.refl (s : State) : RingsKept s s := ⟨rfl, fun _ h => h⟩

theorem RingsKept.trans (h : RingsKept s t) (h' : RingsKept t u) : RingsKept s u :=
  ⟨h'.tbu.trans h.tbu, fun notLow ok => h'.rings (by rw [h.tbu]; exact notLow) (h.rings notLow ok)⟩

theorem RingsKept.of_eq (tbu : t.tbu = s.tbu) (blc : t.blc = s.blc) : RingsKept s t :=
  ⟨tbu, fun _ h => h.congr (by rw [blc]) (by rw [tbu])⟩

/-- What the Bell Controller is made into meets the condition on its outputs. -/
theorem OutputsOk.withBlc {b : Blc} (h : b.Ok s.tbu.supply) : OutputsOk (s.withBlc b) := h

theorem RingsKept.withBlc (s : State) {b : Blc}
    (h : s.tbu.supply ≠ .low → s.blc.Ok s.tbu.supply → b.Ok s.tbu.supply) : RingsKept s (s.withBlc b) := ⟨rfl, h⟩

theorem RingsKept.withDrc (s : State) (x : Drc) : RingsKept s (s.withDrc x) := .of_eq rfl rfl

theorem RingsKept.setInput (s : State) (i : InputId) (r : Input) : RingsKept s (s.setInput i r) := .of_eq rfl rfl

theorem TouchesDoors.rings (h : TouchesDoors s t) : RingsKept s t := .of_eq h.tbu h.blc
theorem TouchesStore.rings (h : TouchesStore s t) : RingsKept s t := .of_eq h.tbu h.blc

theorem RingsKept.foldl {α : Type} {act : State → α → State} (each : ∀ s a, RingsKept s (act s a)) (l : List α)
    (s : State) : RingsKept s (l.foldl act s) := by
  induction l generalizing s with
  | nil => exact .refl s
  | cons a rest ih => exact (each s a).trans (ih _)

/-- A request to a set of outputs, as the supply state has it on arrival. -/
theorem RingsKept.requestAll (s : State) (set : OutputSet) {r : Ring} (source : r.source ≠ .evacuation) :
    RingsKept s (s.withBlc (s.blc.requestAll s.onBattery set r)) :=
  .withBlc s fun notLow h => by
    rw [s.onBattery_eq]
    exact h.requestAll notLow set source

theorem RingsKept.doorAlarm (s : State) (d : DoorId) (r : Door) (event : DoorEvent) :
    RingsKept s (s.doorAlarm d r event) := by
  have fired : RingsKept s ((s.setDoor d (some r)).doorReport d r event none).fireAlarm :=
    ((TouchesDoors.setDoor s d (some r)).rings.trans (TouchesStore.doorReport _ _ _ _ _).rings).trans
      (.of_eq (TouchesPlant.fireAlarm _).tbu (TouchesStaff.fireAlarm _).blc)
  unfold State.doorAlarm State.doorBell
  split
  · exact fired
  · exact fired.trans (.requestAll _ _ (by simp))

theorem RingsKept.contactEdge (s : State) (d : DoorId) (active : Bool) : RingsKept s (s.contactEdge d active) := by
  unfold State.contactEdge
  split
  · exact .refl s
  · split
    · unfold State.contactOpens
      split
      · exact ((TouchesDoors.setDoor _ _ _).trans (TouchesPassages.commitPassage _ _ _).doors).rings
      · exact .doorAlarm _ _ _ _
      · exact .refl s
    · unfold State.contactCloses
      dsimp only
      split
      · exact (TouchesDoors.setDoor _ _ _).rings
      · exact (TouchesDoors.setDoor _ _ _).rings.trans (TouchesStore.doorReport _ _ _ _ _).rings
      · exact (TouchesDoors.setDoor _ _ _).rings.trans (TouchesStore.doorReport _ _ _ _ _).rings
      · exact .refl s
    · unfold State.rotationPulse
      split
      · exact ((TouchesDoors.setDoor _ _ _).trans (TouchesPassages.commitPassage _ _ _).doors).rings
      · exact .doorAlarm _ _ _ _
      · exact .refl s
    · exact .refl s

theorem RingsKept.pressButton (s : State) (d : DoorId) : RingsKept s (s.pressButton d) := by
  unfold State.pressButton
  split
  · exact .refl s
  · split
    · exact .refl s
    · split
      · exact .of_eq (TouchesStaff.releaseDoor _ _).tbu (TouchesStaff.releaseDoor _ _).blc
      · exact .refl s

theorem RingsKept.doorEdge (i : InputId) (active : Bool) (s : State) (d : DoorId) :
    RingsKept s (s.doorEdge i active d) := by
  unfold State.doorEdge
  split
  · split
    · exact .contactEdge _ _ _
    · split
      · exact .pressButton _ _
      · exact .refl s
  · exact .refl s

theorem RingsKept.inputEvent (s : State) (i : InputId) (active : Bool) : RingsKept s (s.inputEvent i active) := by
  unfold State.inputEvent
  split
  · unfold State.evacuationEdge
    dsimp only
    refine (TouchesDoors.resolveAll s).rings.trans ?_
    split
    · exact .withBlc _ fun notLow h => h.evacuate notLow _
    · exact .withBlc _ fun notLow h => h.endEvacuation notLow
  · exact .foldl (RingsKept.doorEdge i active) _ _

theorem RingsKept.acceptInput (s : State) (i : InputId) : RingsKept s (s.acceptInput i) :=
  (RingsKept.setInput _ _ _).trans (.inputEvent _ _ _)

theorem RingsKept.sampleInput (s : State) (i : InputId) : RingsKept s (s.sampleInput i) := by
  unfold State.sampleInput
  dsimp only
  split
  · exact (RingsKept.setInput _ _ _).trans (.inputEvent _ _ _)
  · exact .setInput _ _ _

theorem RingsKept.sampleAll (s : State) : RingsKept s s.sampleAll := .foldl RingsKept.sampleInput _ _

theorem RingsKept.putInput (s : State) (i : InputId) (level : ActiveLevel) (filter : Nat) :
    RingsKept s (s.putInput i level filter) := by
  unfold State.putInput
  dsimp only
  split
  · split
    · exact (RingsKept.setInput _ _ _).trans (.acceptInput _ _)
    · exact .setInput _ _ _
  · exact .setInput _ _ _

theorem RingsKept.setOverride (o : Override) (s : State) (d : DoorId) : RingsKept s (s.setOverride o d) := by
  unfold State.setOverride
  split
  · exact .refl s
  · exact ((TouchesDoors.setDoor _ _ _).trans (.resolveDoor _ _)).rings

theorem State.payAndDoors_blc (s : State) (now : Nat) : (s.payAndDoors now).blc = s.blc := by
  obtain ⟨n, same | same⟩ := s.payAndDoors_cases now
  · rw [same]
    exact ((TouchesBadges.autoClose (s.withDraws n) now).doors.trans (.resolveAll _)).blc
  · rw [same]
    exact ((TouchesDoors.resolveAll (s.withDraws n)).trans (TouchesBadges.autoClose _ now).doors).blc

@[simp] theorem Tbu.startSecond_supply (t : Tbu) : t.startSecond.supply = t.supply := by
  unfold Tbu.startSecond; dsimp only; split <;> rfl

@[simp] theorem Tbu.atOpenTick_supply (t : Tbu) (n : Nat) : (t.atOpenTick n).supply = t.supply := by
  unfold Tbu.atOpenTick; split <;> rfl

@[simp] theorem Tbu.restartLost_supply (t : Tbu) (n : Nat) : (t.restartLost n).supply = t.supply := by
  simp [Tbu.restartLost, Tbu.refreshSource]

/-! ### Minute boundary events, supply and restarts -/

theorem OutputsOk.minuteEvent (h : OutputsOk s) (e : MinuteEvent) : OutputsOk (s.minuteEvent e) := by
  by_cases low : s.tbu.supply = .low
  · rw [State.minuteEvent_of_low low]
    exact h.congr rfl rfl
  · rw [State.minuteEvent_of_not_low low]
    have bells : OutputsOk ((s.withTbu (s.tbu.minuteEvent e)).bellMinute e) := by
      unfold State.bellMinute
      split
      · rw [State.onBattery_eq]
        exact .withBlc (Blc.Ok.evaluate (supply := s.tbu.supply) h low _ _)
      · exact h.congr rfl rfl
    exact bells.congr (by rw [State.withGlc_blc, State.payAndDoors_blc]) (by rw [State.withGlc_tbu, State.payAndDoors_tbu])

theorem OutputsOk.minuteEvent? (h : OutputsOk s) (e : Option MinuteEvent) : OutputsOk (s.minuteEvent? e) := by
  cases e with
  | none => exact h
  | some m => exact h.minuteEvent m

theorem OutputsOk.enterBattery (h : OutputsOk s) : OutputsOk s.enterBattery := by
  rw [State.enterBattery_eq]
  intro o
  have supply : ((s.lossReports.withDrc s.lossReports.drc.startSampling).resolveAll).tbu.supply = .battery := by
    rw [(TouchesDoors.resolveAll _).tbu, State.withDrc_tbu, s.lossReports_touches.tbu]; rfl
  have outputs : ((s.lossReports.withDrc s.lossReports.drc.startSampling).resolveAll).blc = s.blc := by
    rw [(TouchesDoors.resolveAll _).blc, State.withDrc_blc, s.lossReports_touches.blc]; rfl
  rw [State.withBlc_tbu, supply, State.withBlc_blc, Blc.suppress_get, outputs]
  exact (h o).suppress _

theorem OutputsOk.restoreMains (h : OutputsOk s) : OutputsOk s.restoreMains := by
  intro o
  have outputs : s.restoreMains.blc = s.blc := by
    rw [State.restoreMains_eq, (TouchesDoors.resolveAll _).blc, State.withDrc_blc, s.returnReports_touches.blc]; rfl
  rw [s.restoreMains_tbu, outputs]
  exact (h o).toMains

theorem OutputsOk.quiesce (s : State) : OutputsOk s.quiesce := Blc.Ok.silence _ _

/-- R167: outside LOW the bells take their warm-start values. -/
theorem OutputsOk.warmBells (notLow : s.tbu.supply ≠ .low) : OutputsOk s.warmBells := by
  unfold State.warmBells
  split
  · exact Blc.Ok.evacuate (supply := s.tbu.supply) (Blc.Ok.silence _ _) notLow _
  · exact Blc.Ok.silence _ _

theorem OutputsOk.warmBlocks (notLow : s.tbu.supply ≠ .low) : OutputsOk s.warmBlocks :=
  OutputsOk.congr (OutputsOk.warmBells (s := ((s.withGlc s.glc.warm).withDrc s.drc.warm).freshDoors) notLow) rfl rfl

theorem OutputsOk.warmStart (notLow : s.tbu.supply ≠ .low) : OutputsOk s.warmStart := by
  rw [State.warmStart_eq]
  refine OutputsOk.minuteEvent (OutputsOk.warmBlocks ?_) _
  rw [(TouchesStore.supplyReport _ _ _).tbu, State.abandon_tbu]
  exact notLow

theorem OutputsOk.warmStartFromLow (s : State) : OutputsOk s.warmStartFromLow := by
  rw [State.warmStartFromLow_eq]
  refine OutputsOk.minuteEvent (OutputsOk.warmBlocks ?_) _
  rw [s.wakeReports_touches.tbu]
  exact (by decide : Supply.mains ≠ .low)

theorem OutputsOk.coldStart (s : State) : OutputsOk s.coldStart := by
  unfold State.coldStart
  exact OutputsOk.warmBells (by decide : Supply.mains ≠ .low)

theorem OutputsOk.refreshSource (h : OutputsOk s) : OutputsOk s.refreshSource :=
  h.congr (by rw [s.refreshSource_touches.blc]; rfl) (by rw [State.refreshSource_tbu]; rfl)

theorem OutputsOk.mainsReturn (h : OutputsOk s) (e : Option MinuteEvent) : OutputsOk (s.mainsReturn e) := by
  unfold State.mainsReturn
  split
  · exact h.restoreMains.minuteEvent? e
  · split
    · exact .warmStartFromLow s
    · exact .coldStart s
  · exact h.refreshSource.minuteEvent? e

theorem OutputsOk.secondBoundary (h : OutputsOk s) : OutputsOk s.secondBoundary := by
  have reported : OutputsOk ((s.withTbu s.tbu.boundary).timeReport s.tbu.advance.report) := by
    refine h.congr (by rw [(TouchesStore.timeReport _ _).blc]; rfl) ?_
    rw [State.timeReport_tbu, State.withTbu_tbu, Tbu.boundary_eq]
  unfold State.secondBoundary
  dsimp only
  split
  · exact (reported.mainsReturn _).congr rfl (by simp)
  · exact (reported.refreshSource.minuteEvent? _).congr rfl (by simp)

theorem OutputsOk.secondBoundaries (n : Nat) (h : OutputsOk s) : OutputsOk (s.secondBoundaries n) := by
  induction n generalizing s with
  | zero => exact h
  | succ n ih => exact ih h.secondBoundary

theorem OutputsOk.mainsLoss (h : OutputsOk s) : OutputsOk s.mainsLoss := by
  have lost : OutputsOk (if s.tbu.supply = .mains then (s.withTbu s.tbu.lose).enterBattery
      else (s.withTbu s.tbu.lose).refreshSource) := by
    split
    · exact OutputsOk.enterBattery (s := s.withTbu s.tbu.lose) (h.congr rfl rfl)
    · exact OutputsOk.refreshSource (s := s.withTbu s.tbu.lose) (h.congr rfl rfl)
  unfold State.mainsLoss
  dsimp only
  split
  · exact lost.secondBoundary
  · exact lost

theorem OutputsOk.losePower (h : OutputsOk s) : OutputsOk s.losePower := by
  by_cases low : s.tbu.supply = .low
  · rw [State.losePower_of_low s low]; exact h
  · rw [State.losePower_of_not_low s low]; exact .quiesce _

/-! ### Every step -/

theorem OutputsOk.settle (h : OutputsOk s) : OutputsOk s.settle := h.congr (by simp) (by simp)

theorem OutputsOk.event (h : OutputsOk s) (effect : EventEffect s t) : OutputsOk t := by
  have plant : ∀ {u : State}, RingsKept s u → s.tbu.supply ≠ .low → OutputsOk u.settle :=
    fun kept notLow => (kept.rings notLow h).settle
  cases effect with
  | nothing => exact h
  | secondEnds _ _ => exact h.secondBoundary.settle
  | cycle _ => exact h.congr rfl rfl
  | cycleEndsSecond _ _ => exact (OutputsOk.secondBoundary (s := s.withTbu s.tbu.cycle) (h.congr rfl rfl)).settle
  | mainsLoss _ _ => exact h.mainsLoss.settle
  | batterySample _ => exact h.congr rfl rfl
  | lowBattery _ => exact (OutputsOk.quiesce _).settle
  | attention | round _ _ | restEnds _ | probeTimer _ _ | probeWaitEnds _ _ | frameSent _ =>
    exact OutputsOk.settle (h.congr rfl rfl)
  | punch _ _ _ _ => exact (h.congr (by simp) (by simp)).settle
  | status _ _ _ _ =>
    exact (h.congr (by rw [(TouchesGate.statusUnderGrant _ _ _ _ _).blc])
      (by rw [(TouchesGate.statusUnderGrant _ _ _ _ _).tbu])).settle
  | probeAnswer _ _ _ _ =>
    exact (h.congr (by rw [(TouchesGate.probeAnswer _ _ _ _).blc]) (by rw [(TouchesGate.probeAnswer _ _ _ _).tbu])).settle
  | grantTimeout _ _ _ =>
    exact (h.congr (by rw [(TouchesGate.grantTimeout _ _).blc]) (by rw [(TouchesGate.grantTimeout _ _).tbu])).settle
  | wire => exact h.congr rfl rfl
  | filterEnds mains _ => exact plant (.acceptInput _ _) (by rw [mains]; decide)
  | sampleInputs battery =>
    exact plant ((RingsKept.sampleAll s).trans (.withDrc _ _)) (by rw [battery]; decide)
  | releaseEnds _ _ notLow =>
    exact plant ((TouchesDoors.setDoor _ _ _).trans (TouchesPassages.cancelPassage _ _).doors).rings notLow
  | heldEnds _ _ notLow => exact plant (.doorAlarm _ _ _ _) notLow
  | pulseEnds _ => exact h.congr rfl rfl
  | @phaseEnds o notLow =>
    exact Table.get_set_cases s.blc.outputs o ((h o).phaseEnd notLow _) h
  | ready => exact OutputsOk.settle (h.congr rfl rfl)
  | reportSent _ _ =>
    exact (h.congr (by rw [(TouchesStore.depart _).blc]; rfl) (by rw [(TouchesStore.depart _).tbu]; rfl)).settle
  | replySent _ _ => exact h.congr (by simp) (by simp)
  | backupLost => exact h.losePower.congr rfl rfl
  | powerReturns _ _ => exact (h.losePower.secondBoundaries _).congr rfl (by simp [State.outlast])
  | restarts _ =>
    exact h.losePower.congr (by rw [State.withDraws_blc, (TouchesStore.reportSource _ _).blc]; rfl)
      (by simp)

theorem OutputsOk.command (h : OutputsOk s) (notLow : s.tbu.supply ≠ .low) (work : CommandEffect s u) : OutputsOk u := by
  have plant : ∀ {u : State}, RingsKept s u → OutputsOk u := fun kept => kept.rings notLow h
  cases work with
  | nothing => exact h
  | resumeStation _ _ =>
    exact h.congr (by rw [(TouchesGate.resumeStation _ _ _).blc]) (by rw [(TouchesGate.resumeStation _ _ _).tbu])
  | setTime _ | putStation _ | display _ | replaceBadge _ _ | insertBadge _ _ _ | removeBadge _ _ | setPresence _ _ _
  | clearConflicts | removeDoor _ | putDoor _ _ _ _ | clearAlarm | putPlan _ | closePeriod | releaseClosed | putEntry
  | putPattern | setPause | putSettings _ _ _ => exact OutputsOk.congr h rfl rfl
  | putInput => exact plant (.putInput _ _ _ _)
  | @putSchedule k windows =>
    exact plant ((RingsKept.of_eq rfl rfl : RingsKept s (s.withDrc { s.drc with
      schedules := s.drc.schedules.set k windows })).trans (TouchesDoors.foldl_resolveDoor _ _).rings)
  | overrideDoors => exact plant (.foldl (RingsKept.setOverride _) _ _)
  | pressButtons => exact plant (.foldl RingsKept.pressButton _ _)
  | closeRecord _ _ _ _ => exact plant (TouchesBadges.closeRecord _ _ _ _ _).doors.rings
  | ring manual => exact plant (.requestAll _ _ (by rw [manual]; decide))
  | @stopOutputs outputs =>
    refine .withBlc fun o => ?_
    unfold Blc.stopOutputs
    rw [Table.get_mapRows]
    split
    · exact OutputOk.cold _
    · exact h o
  | reset => exact .warmStart notLow

theorem OutputsOk.tick (h : OutputsOk s) : OutputsOk s.tick := by
  intro o
  rw [State.tick_supply]
  unfold State.tick
  split
  · dsimp only
    split
    · exact h o
    · rw [State.withBlc_blc]
      unfold Blc.tick
      rw [Table.get_map]
      exact (h o).tick
  · exact h o

theorem OutputsOk.stepEffect (h : OutputsOk s) (effect : StepEffect s t) : OutputsOk t := by
  cases effect with
  | event effect => exact h.event effect
  | tick => exact h.tick
  | waits _ _ _ _ | noCommand _ _ _ => exact h.congr rfl rfl
  | taken takes work => exact (h.command takes.1 work).congr (by simp) (by simp)
  | takenLater takes _ work =>
    exact (OutputsOk.command (s := s.emptyAssembly) (h.congr rfl rfl) takes.1 work).congr (by simp) (by simp)

end Plant

/-- Settles O58: requests, phases, evacuations, supply changes and restarts, output by output. -/
theorem everyStepKeepsTheBellOutputs : Obligations.EveryStepKeepsTheBellOutputs := by
  unfold Obligations.EveryStepKeepsTheBellOutputs
  exact fun _ _ => step_keeps (fun _ _ h => h.congr rfl rfl) fun _ _ h => h.stepEffect

end Sys2Proof.Machine
end

section
/-!
PROOFS. The gate line (chapter 2): stations, grants, rounds, probes and the line state, and the obligation O57.
-/

namespace Sys2Proof.Machine

open Sys2Proof

/-! ### Stations -/

/-- R20: no two configured stations share a level. -/
def DistinctLevels (t : Table 15 Station) : Prop := ∀ i j c d, i ≠ j → (t.get i).config = some c →
  (t.get j).config = some d → c.level ≠ d.level

theorem DistinctLevels.congr {t u : Table 15 Station} (h : DistinctLevels t)
    (same : ∀ i, (u.get i).config = (t.get i).config) : DistinctLevels u := fun i j c d different ci dj =>
  h i j c d different ((same i).symm.trans ci) ((same j).symm.trans dj)

theorem Glc.levelTaken_eq_false_iff (g : Glc) (i : StationId) (level : Fin 15) : g.levelTaken i level = false ↔
    ∀ j d, j ≠ i → (g.stations.get j).config = some d → d.level ≠ level := by
  unfold Glc.levelTaken
  simp only [List.any_eq_false, List.mem_finRange, true_implies, Bool.and_eq_true, bne_iff_ne, ne_eq, not_and]
  refine forall_congr' fun j => ?_
  cases (g.stations.get j).config with
  | none => simp
  | some c => simp

theorem distinctLevels_iff (g : Glc) : DistinctLevels g.stations ↔
    ∀ i c, (g.stations.get i).config = some c → g.levelTaken i c.level = false := by
  constructor
  · intro h i c found
    exact (g.levelTaken_eq_false_iff i c.level).mpr fun j d different other => h j i d c different other found
  · intro h i j c d different ci dj
    exact (g.levelTaken_eq_false_iff j d.level).mp (h j d dj) i c different ci

/-- R20, R30, R31, R38: one record of the station table; the probe timers run outside LOW. -/
structure Station.Fits (notLow : Prop) (r : Station) : Prop where
  unconfigured : r.config = none → r = Station.cold
  timeouts : r.timeouts ≤ 2
  probeTimer : r.probeTimer.isSome = true ↔ r.state = .suspended ∧ notLow

section Records

variable {notLow : Prop} {r : Station}

theorem Station.Fits.cold (notLow : Prop) : Station.cold.Fits notLow :=
  ⟨fun _ => rfl, by decide, by simp [Station.cold]⟩

/-- A record of a configured station that is not SUSPENDED. -/
theorem Station.Fits.of_running {c : StationConfig} (configured : r.config = some c) (timeouts : r.timeouts ≤ 2)
    (state : r.state ≠ .suspended) (timer : r.probeTimer = none) : r.Fits notLow :=
  ⟨fun none => absurd (configured.symm.trans none) (Option.some_ne_none c), timeouts, by simp [state, timer]⟩

theorem Station.Fits.probeTimer_none (h : r.Fits notLow) (state : r.state ≠ .suspended) : r.probeTimer = none := by
  rw [← Option.not_isSome_iff_eq_none, h.probeTimer]
  exact fun ⟨suspended, _⟩ => state suspended

theorem Station.Fits.configured (h : r.Fits notLow) (state : r.state ≠ .idle) : ∃ c, r.config = some c := by
  cases config : r.config with
  | none => exact absurd (by rw [h.unconfigured config]; rfl) state
  | some c => exact ⟨c, rfl⟩

/-- A change of the state, to and from another than SUSPENDED, of a configured station. -/
theorem Station.Fits.withState (h : r.Fits notLow) {c : StationConfig} (configured : r.config = some c)
    (before : r.state ≠ .suspended) {state : StationState} (after : state ≠ .suspended) :
    Station.Fits notLow { r with state := state } :=
  .of_running configured h.timeouts after (h.probeTimer_none before)

/-- R30: a station whose grant timed out. -/
theorem Station.Fits.timedOut (h : r.Fits notLow) (granted : r.state = .granted) (outsideLow : notLow) :
    r.timedOut.Fits notLow := by
  obtain ⟨c, configured⟩ := h.configured (by rw [granted]; decide)
  unfold Station.timedOut
  split
  · exact ⟨fun none => absurd (configured.symm.trans none) (Option.some_ne_none c), by simp, by simp [outsideLow]⟩
  · exact .of_running configured (by dsimp only; omega) (by simp) (h.probeTimer_none (by rw [granted]; decide))

@[simp] theorem Station.timedOut_config (r : Station) : r.timedOut.config = r.config := by
  unfold Station.timedOut; split <;> rfl

theorem Station.timedOut_state (r : Station) : r.timedOut.state ≠ .granted := by
  unfold Station.timedOut; split <;> simp

theorem Station.Fits.warm (h : r.Fits notLow) (p : Prop) : r.warm.Fits p := by
  unfold Station.warm
  split
  · next configured =>
    obtain ⟨c, config⟩ := Option.isSome_iff_exists.mp configured
    exact .of_running config (by simp) (by simp) rfl
  · next unconfigured =>
    rw [h.unconfigured (by simpa using unconfigured)]
    exact .cold p

@[simp] theorem Station.warm_config (r : Station) : r.warm.config = r.config := by
  unfold Station.warm; split <;> rfl

/-- R39: after a warm start no station is in another state than IDLE. -/
theorem Station.Fits.warm_state (h : r.Fits notLow) : r.warm.state = .idle := by
  unfold Station.warm
  split
  · rfl
  · next unconfigured => rw [h.unconfigured (by simpa using unconfigured)]; rfl

theorem Station.Fits.stopProbe (h : r.Fits notLow) : r.stopProbe.Fits False :=
  ⟨fun none => by rw [h.unconfigured none]; rfl, h.timeouts, by simp [Station.stopProbe]⟩

theorem Station.Fits.tick (h : r.Fits notLow) : Station.Fits notLow { r with probeTimer := tickTimer r.probeTimer } :=
  ⟨fun none => by rw [h.unconfigured none]; rfl, h.timeouts, by simpa [tickTimer] using h.probeTimer⟩

end Records

theorem Station.Fits.iff_of_iff {p q : Prop} (same : p ↔ q) {r : Station} (h : r.Fits p) : r.Fits q :=
  ⟨h.unconfigured, h.timeouts, by rw [← same]; exact h.probeTimer⟩

/-- The station table: its records, and their levels apart. -/
structure StationsFit (notLow : Prop) (t : Table 15 Station) : Prop where
  each : ∀ i, (t.get i).Fits notLow
  levels : DistinctLevels t

section Tables

variable {notLow : Prop} {t : Table 15 Station}

/-- One record replaced by another of the same level. -/
theorem StationsFit.modify (h : StationsFit notLow t) (i : StationId) {f : Station → Station}
    (fits : (f (t.get i)).Fits notLow) (config : (f (t.get i)).config = (t.get i).config) :
    StationsFit notLow (t.modify i f) := by
  refine ⟨fun j => Table.get_set_cases (P := Station.Fits notLow) t i fits h.each j, h.levels.congr fun j => ?_⟩
  by_cases same : i = j
  · subst same
    rw [Table.get_modify_self, config]
  · rw [Table.get_modify_of_ne t i j f same]

theorem StationsFit.set (h : StationsFit notLow t) (i : StationId) {r : Station} (fits : r.Fits notLow)
    (config : r.config = (t.get i).config) : StationsFit notLow (t.set i r) := h.modify (f := fun _ => r) i fits config

theorem StationsFit.map (h : StationsFit notLow t) {p : Prop} {f : Station → Station}
    (fits : ∀ i, (f (t.get i)).Fits p) (config : ∀ i, (f (t.get i)).config = (t.get i).config) :
    StationsFit p (t.map f) :=
  ⟨fun i => by rw [Table.get_map]; exact fits i, h.levels.congr fun i => by rw [Table.get_map, config i]⟩

/-- R20: a station configured with a level that no other holds. -/
theorem StationsFit.configure (h : StationsFit notLow t) {i : StationId} {r : Station} {c : StationConfig}
    (fits : r.Fits notLow) (config : r.config = some c)
    (free : ∀ j d, j ≠ i → (t.get j).config = some d → d.level ≠ c.level) : StationsFit notLow (t.set i r) := by
  refine ⟨Table.get_set_cases (P := Station.Fits notLow) t i fits h.each, fun j k cj dk different foundJ foundK => ?_⟩
  rw [Table.get_set] at foundJ foundK
  split at foundJ
  · next isJ =>
    split at foundK
    · next isK => exact absurd (isJ.symm.trans isK) different
    · next notK =>
      cases config.symm.trans foundJ
      exact Ne.symm (free k dk (Ne.symm notK) foundK)
  · next notJ =>
    split at foundK
    · cases config.symm.trans foundK
      exact free j cj (Ne.symm notJ) foundJ
    · exact h.levels j k cj dk different foundJ foundK

theorem StationsFit.unconfigure (h : StationsFit notLow t) (i : StationId) :
    StationsFit notLow (t.set i Station.cold) := by
  refine ⟨Table.get_set_cases (P := Station.Fits notLow) t i (.cold _) h.each, fun j k cj dk different foundJ foundK => ?_⟩
  rw [Table.get_set] at foundJ foundK
  split at foundJ
  · cases foundJ
  · split at foundK
    · cases foundK
    · exact h.levels j k cj dk different foundJ foundK

end Tables

/-- No station is GRANTED. -/
def NoneGranted (t : Table 15 Station) : Prop := ∀ i, (t.get i).state ≠ .granted

theorem NoneGranted.set {t : Table 15 Station} (h : NoneGranted t) (i : StationId) {r : Station}
    (state : r.state ≠ .granted) : NoneGranted (t.set i r) :=
  Table.get_set_cases (P := fun r : Station => r.state ≠ .granted) t i state h

/-! ### The gate line -/

/-- The condition on the Gate Line Controller, `notLow` telling whether the part is outside LOW. -/
structure Glc.Fits (notLow : Prop) (g : Glc) : Prop where
  stations : StationsFit notLow g.stations
  granted : ∀ i, (g.stations.get i).state = .granted → ∃ gr, g.grant = some gr ∧ gr.station = i
  grant : ∀ gr, g.grant = some gr → GrantOk g gr
  line : g.lineFits
  silent : ¬ notLow → g.line = .free ∧ g.restTimer = none
  displays : g.displayQueue.length ≤ Config.displayCapacity

theorem gateOk_iff (s : State) : GateOk s ↔
    (1 ≤ s.olc.settings.burstBudget ∧ s.olc.settings.burstBudget ≤ 4) ∧ s.glc.Fits (s.tbu.supply ≠ .low) := by
  constructor
  · intro h
    exact ⟨h.setting, ⟨fun i => ⟨h.unconfigured i, h.timeouts i, h.probeTimers i⟩, (distinctLevels_iff _).mpr h.levels⟩,
      h.granted, h.grant, h.line, fun low => h.silent (not_not.mp low), h.displays⟩
  · rintro ⟨setting, h⟩
    exact {
      setting
      levels := (distinctLevels_iff _).mp h.stations.levels
      unconfigured := fun i => (h.stations.each i).unconfigured
      timeouts := fun i => (h.stations.each i).timeouts
      probeTimers := fun i => (h.stations.each i).probeTimer
      granted := h.granted
      grant := h.grant
      line := h.line
      silent := fun low => h.silent (not_not.mpr low)
      displays := h.displays }

/-! ### Contenders -/

theorem mem_unheld {t : Table 15 Station} {answered : BitVec 15} {id : StationId} : id ∈ unheld t answered ↔
    (t.get id).contends answered = true ∧ (t.get id).state ≠ .hold := by
  simp [unheld]

theorem Station.contends_iff (r : Station) (answered : BitVec 15) : r.contends answered = true ↔
    ∃ c, r.config = some c ∧ c.enabled = true ∧ r.state ≠ .suspended ∧ inSet answered c.level.val = true := by
  unfold Station.contends
  cases r.config with
  | none => simp
  | some c => simp [and_assoc]

/-- R25: the winner among a list of stations is one of them, and configured. -/
theorem lowestLevel_some {t : Table 15 Station} {l : List StationId} {id : StationId} {c : StationConfig}
    (h : lowestLevel t l = some (id, c)) : id ∈ l ∧ (t.get id).config = some c := by
  induction l with
  | nil => cases h
  | cons i rest ih =>
    have inRest : ∀ {best}, lowestLevel t rest = some best → best = (id, c) → id ∈ i :: rest ∧ (t.get id).config = some c :=
      fun found same => by
        obtain ⟨mem, config⟩ := ih (found.trans (congrArg some same))
        exact ⟨List.mem_cons_of_mem _ mem, config⟩
    unfold lowestLevel at h
    split at h
    · exact inRest h rfl
    · next config _ => cases h; exact ⟨List.mem_cons_self, config⟩
    · next config best =>
      split at h
      · cases h; exact ⟨List.mem_cons_self, config⟩
      · exact inRest best (Option.some.inj h)

namespace Glc.Fits

variable {notLow : Prop} {g : Glc}

theorem noneGranted (h : g.Fits notLow) (noGrant : g.grant = none) : NoneGranted g.stations := fun i granted => by
  obtain ⟨gr, found, -⟩ := h.granted i granted
  exact Option.some_ne_none gr (found.symm.trans noGrant)

/-- R29: a table without its GRANTED station. -/
theorem noneGranted_set (h : g.Fits notLow) {gr : Grant} (grant : g.grant = some gr) {r : Station}
    (state : r.state ≠ .granted) : NoneGranted (g.stations.set gr.station r) := fun i => by
  rw [Table.get_set]
  split
  · exact state
  · next other =>
    intro granted
    obtain ⟨gr', found, isStation⟩ := h.granted i granted
    cases grant.symm.trans found
    exact other isStation

/-- A gate line without a grant. -/
theorem of_noGrant (stations : StationsFit notLow g.stations) (none : NoneGranted g.stations) (noGrant : g.grant = .none)
    (line : g.lineFits) (silent : ¬ notLow → g.line = .free ∧ g.restTimer = .none)
    (displays : g.displayQueue.length ≤ Config.displayCapacity) : g.Fits notLow :=
  ⟨stations, fun i granted => absurd granted (none i), fun gr found => absurd (found.symm.trans noGrant)
    (Option.some_ne_none gr), line, silent, displays⟩

theorem notLow_of_line (h : g.Fits notLow) (line : g.line ≠ .free) : notLow := by
  by_contra low
  exact line (h.silent low).1

/-- What the stations are made into under the current grant, and what becomes of that grant. -/
theorem withGrant (h : g.Fits notLow) {gr gr' : Grant} (grant : g.grant = some gr) {g' : Glc}
    (stations : StationsFit notLow g'.stations) (states : ∀ i, (g'.stations.get i).state = (g.stations.get i).state)
    (grant' : g'.grant = some gr') (same : gr'.station = gr.station) (ok : GrantOk g' gr')
    (probed : g'.probed = g.probed) (queue : g'.displayQueue = g.displayQueue) : g'.Fits notLow := by
  have line := (h.grant gr grant).line
  have outsideLow := h.notLow_of_line (by rw [line]; decide)
  have before := h.line
  unfold Glc.lineFits at before
  rw [line] at before
  refine ⟨stations, fun i granted => ?_, fun gr'' found => ?_, ?_, fun low => absurd outsideLow low,
    by rw [queue]; exact h.displays⟩
  · obtain ⟨gr'', found, isStation⟩ := h.granted i ((states i).symm.trans granted)
    cases grant.symm.trans found
    exact ⟨gr', grant', same.trans isStation⟩
  · cases grant'.symm.trans found
    exact ok
  · unfold Glc.lineFits
    rw [ok.line]
    exact ⟨.inr (by rw [grant']; rfl), probed.trans before.2⟩

theorem probed_of_grant (h : g.Fits notLow) {gr : Grant} (grant : g.grant = some gr) : g.probed = none := by
  have before := h.line
  unfold Glc.lineFits at before
  rw [(h.grant gr grant).line] at before
  exact before.2

/-- R26, R34: what is known while a frame other than a probe is being sent and no grant is current. -/
theorem probed_none (h : g.Fits notLow) {f : GateFrame} (sending : g.sending = some f) (other : ∀ l, f ≠ .probe l) :
    g.probed = none := by
  have before := h.line
  unfold Glc.lineFits at before
  split at before
  · exact absurd (sending.symm.trans before.1) (Option.some_ne_none f)
  · exact absurd (sending.symm.trans before.1) (Option.some_ne_none f)
  · by_contra probing
    obtain ⟨level, found⟩ := before.2.2 (Option.isSome_iff_ne_none.mpr probing)
    exact other level (Option.some.inj (sending.symm.trans found))
  · exact absurd (sending.symm.trans before.1) (Option.some_ne_none f)
  · exact before.2

theorem lineFits_free {g : Glc} (line : g.line = .free) (sending : g.sending = none) (grant : g.grant = none)
    (probed : g.probed = none) : g.lineFits := by
  unfold Glc.lineFits
  rw [line]
  exact ⟨sending, grant, probed⟩

/-- The line is FREE once nothing is sent, granted or probed. -/
theorem freed (h : g.Fits notLow) {g' : Glc} (stations : StationsFit notLow g'.stations) (none : NoneGranted g'.stations)
    (grant : g'.grant = .none) (line : g'.line = .free) (sending : g'.sending = .none) (probed : g'.probed = .none)
    (rest : g'.restTimer = g.restTimer) (queue : g'.displayQueue = g.displayQueue) : g'.Fits notLow :=
  of_noGrant stations none grant (lineFits_free line sending grant probed)
    (fun low => ⟨line, rest.trans (h.silent low).2⟩) (by rw [queue]; exact h.displays)

/-! ### The free line -/

theorem length_sendable (g : Glc) (l : List DisplayMessage) : (g.sendable l).length ≤ l.length := by
  induction l with
  | nil => exact Nat.le_refl 0
  | cons m rest ih =>
    unfold Glc.sendable
    split
    · exact Nat.le_refl _
    · exact Nat.le_succ_of_le ih

/-- R34: an own frame is begun on a free line. -/
theorem begun (h : g.Fits notLow) (outsideLow : notLow) (noGrant : g.grant = none) {g' : Glc}
    (stations : g'.stations = g.stations) (grant : g'.grant = g.grant) (line : g'.line = .own)
    (sending : g'.sending.isSome = true) (probed : g'.probed.isSome = true → ∃ l, g'.sending = some (.probe l))
    (queue : g'.displayQueue.length ≤ g.displayQueue.length) : g'.Fits notLow := by
  refine of_noGrant (stations ▸ h.stations) (stations ▸ h.noneGranted noGrant) (grant.trans noGrant) ?_
    (fun low => absurd outsideLow low) (Nat.le_trans queue h.displays)
  unfold Glc.lineFits
  rw [line]
  exact ⟨sending, grant.trans noGrant, probed⟩

theorem sendOwn (h : g.Fits notLow) (outsideLow : notLow) (free : g.line = .free) (reading : Nat) (q : ClockQuality) :
    (g.sendOwn reading q).Fits notLow := by
  have line := h.line
  unfold Glc.lineFits at line
  rw [free] at line
  obtain ⟨idle, noGrant, noProbe⟩ := line
  have notProbing : g.probed.isSome = true → ∀ p : Prop, p := fun some => by rw [noProbe] at some; cases some
  unfold Glc.sendOwn
  split
  · exact h.begun outsideLow noGrant rfl rfl rfl rfl (fun some => notProbing some _) (Nat.le_refl _)
  · split
    · exact h.begun outsideLow noGrant rfl rfl rfl rfl (fun _ => ⟨_, rfl⟩) (Nat.le_refl _)
    · unfold Glc.sendDisplay
      split
      · exact of_noGrant h.stations (h.noneGranted noGrant) noGrant h.line (fun low => absurd outsideLow low)
          (Nat.zero_le _)
      · next m rest found =>
        refine h.begun outsideLow noGrant rfl rfl rfl rfl (fun some => notProbing some _) ?_
        have := length_sendable g g.displayQueue
        rw [found] at this
        exact Nat.le_of_succ_le this

theorem weigh (h : g.Fits notLow) (outsideLow : notLow) (reading : Nat) (q : ClockQuality) (spare : Nat) :
    (g.weigh reading q spare).Fits notLow := by
  unfold Glc.weigh
  split
  · next free =>
    have own := h.sendOwn outsideLow free.1 reading q
    dsimp only
    split
    · next opens =>
      have line : (g.sendOwn reading q).line = .free := by
        simp only [Glc.mayOpenRound, Bool.and_eq_true, beq_iff_eq] at opens
        tauto
      have fits := own.line
      unfold Glc.lineFits at fits
      rw [line] at fits
      exact of_noGrant own.stations (own.noneGranted fits.2.1) fits.2.1 fits (fun low => absurd outsideLow low) own.displays
    · exact own
  · exact h

/-! ### Rounds -/

theorem afterSlots (answered : BitVec 15) {r : Station} (h : r.Fits notLow) (state : r.state ≠ .granted) :
    (r.afterSlots answered).Fits notLow ∧ (r.afterSlots answered).config = r.config
      ∧ (r.afterSlots answered).state ≠ .granted := by
  unfold Station.afterSlots
  split
  · next contends =>
    split
    · next idle =>
      obtain ⟨c, config, -⟩ := (r.contends_iff answered).mp contends
      exact ⟨h.withState config (by rw [idle]; decide) (by decide), rfl, by simp⟩
    · exact ⟨h, rfl, state⟩
  · split
    · next absent =>
      obtain ⟨c, config⟩ := Option.isSome_iff_exists.mp absent.1
      exact ⟨h.withState config (by rw [absent.2]; decide) (by decide), rfl, by simp⟩
    · exact ⟨h, rfl, state⟩

theorem clearHold (answered : BitVec 15) {r : Station} (h : r.Fits notLow) (state : r.state ≠ .granted) :
    (r.clearHold answered).Fits notLow ∧ (r.clearHold answered).config = r.config
      ∧ (r.clearHold answered).state ≠ .granted := by
  unfold Station.clearHold
  split
  · next held =>
    obtain ⟨c, config⟩ := h.configured (by rw [held]; decide)
    split
    · exact ⟨h.withState config (by rw [held]; decide) (by decide), rfl, by simp⟩
    · exact ⟨h.withState config (by rw [held]; decide) (by decide), rfl, by simp⟩
  · exact ⟨h, rfl, state⟩

theorem roundStations {t : Table 15 Station} (h : StationsFit notLow t) (none : NoneGranted t) (answered : BitVec 15) :
    StationsFit notLow (Machine.roundStations t answered) ∧ NoneGranted (Machine.roundStations t answered) := by
  have slots : StationsFit notLow (t.map (Station.afterSlots answered)) :=
    h.map (fun i => (afterSlots answered (h.each i) (none i)).1) fun i => (afterSlots answered (h.each i) (none i)).2.1
  have slotsNone : NoneGranted (t.map (Station.afterSlots answered)) := fun i => by
    rw [Table.get_map]
    exact (afterSlots answered (h.each i) (none i)).2.2
  unfold Machine.roundStations
  dsimp only
  split
  · refine ⟨slots.map (fun i => (clearHold answered (slots.each i) (slotsNone i)).1)
      fun i => (clearHold answered (slots.each i) (slotsNone i)).2.1, fun i => ?_⟩
    rw [Table.get_map]
    exact (clearHold answered (slots.each i) (slotsNone i)).2.2
  · exact ⟨slots, slotsNone⟩

/-- R26: the winner of a round is granted. -/
theorem grantTo (stations : StationsFit notLow g.stations) (none : NoneGranted g.stations) (outsideLow : notLow)
    (probed : g.probed = .none) (displays : g.displayQueue.length ≤ Config.displayCapacity) {id : StationId}
    {c : StationConfig} (config : (g.stations.get id).config = some c) (state : (g.stations.get id).state ≠ .suspended)
    {budget : Nat} (range : 1 ≤ budget ∧ budget ≤ 4) : (g.grantTo id c budget).Fits notLow := by
  have get : ∀ i, ((g.grantTo id c budget).stations.get i) =
      if id = i then { g.stations.get id with state := .granted } else g.stations.get i := fun i => Table.get_set _ _ _ _
  refine ⟨stations.modify (f := fun r => { r with state := .granted }) id
    ((stations.each id).withState config state (by decide)) rfl, fun i granted => ?_, fun gr found => ?_, ?_,
      fun low => absurd outsideLow low, displays⟩
  · rw [get] at granted
    split at granted
    · next isId => exact ⟨_, rfl, isId⟩
    · exact absurd granted (none i)
  · cases found
    refine ⟨?_, range, rfl, by simp [Glc.grantTo, Glc.send], fun f sent => ?_, nofun, nofun, fun _ _ _ => range.1⟩
    · rw [get, if_pos rfl]
      exact ⟨by rw [config]; rfl, rfl⟩
    · cases sent
      trivial
  · exact ⟨.inl rfl, probed⟩

theorem roundResult (h : g.Fits notLow) (outsideLow : notLow) (line : g.line = .round) (answered : BitVec 15)
    {budget : Nat} (range : 1 ≤ budget ∧ budget ≤ 4) : (g.roundResult answered budget).Fits notLow := by
  have fits := h.line
  unfold Glc.lineFits at fits
  rw [line] at fits
  obtain ⟨idle, noGrant, noProbe⟩ := fits
  obtain ⟨stations, none⟩ := roundStations h.stations (h.noneGranted noGrant) answered
  unfold Glc.roundResult
  dsimp only
  split
  · next id c found =>
    obtain ⟨mem, config⟩ := lowestLevel_some found
    exact grantTo (g := { g with stations := Machine.roundStations g.stations answered }) stations none outsideLow noProbe
      h.displays config (by
        obtain ⟨c, -, -, notSuspended, -⟩ := (Station.contends_iff _ _).mp (mem_unheld.mp mem).1
        exact notSuspended) range
  · exact of_noGrant stations none noGrant (lineFits_free rfl idle noGrant noProbe) (fun low => absurd outsideLow low)
      h.displays

/-! ### Frames received and sent under a grant -/

/-- R27, R28: a frame is taken under the grant, and its reply is sent. -/
theorem answered (h : g.Fits notLow) {gr : Grant} (grant : g.grant = some gr)
    {level : Fin 15} {code : ReplyCode} {release last : Bool} (more : last = false → gr.taken + 1 < gr.budget) :
    ((g.takeFrame gr).send .grant (.reply level code release last)).Fits notLow := by
  have ok := h.grant gr grant
  obtain ⟨c, config⟩ := Option.isSome_iff_exists.mp ok.station.1
  have states : ∀ i, (((g.takeFrame gr).stations.get i).state = (g.stations.get i).state) := fun i => by
    unfold Glc.takeFrame
    by_cases same : gr.station = i
    · subst same; rw [Table.get_modify_self]
    · rw [Table.get_modify_of_ne _ _ _ _ same]
  have fits : StationsFit notLow (g.takeFrame gr).stations :=
    h.stations.modify (f := fun r => { r with timeouts := 0 }) gr.station (.of_running config (Nat.zero_le 2)
      (by rw [ok.station.2]; decide) ((h.stations.each gr.station).probeTimer_none (by rw [ok.station.2]; decide))) rfl
  refine h.withGrant grant (gr' := { gr with taken := gr.taken + 1, timer := none }) fits states rfl rfl ?_ rfl rfl
  refine ⟨?_, ok.budget, rfl, by simp [Glc.send], fun f sent => ?_, nofun, fun l c r sent => ?_, fun l b sent => ?_⟩
  · rw [show ((g.takeFrame gr).send .grant (.reply level code release last)).stations.get gr.station
      = { g.stations.get gr.station with timeouts := 0 } from Table.get_modify_self _ _ _]
    exact ok.station
  · cases sent
    trivial
  · cases sent
    exact more rfl
  · cases sent

/-- R26, R27: the grant timer starts with the last byte of a frame after which the station may send. -/
theorem waits (h : g.Fits notLow) {gr : Grant} (grant : g.grant = some gr) (more : gr.taken < gr.budget) :
    Glc.Fits notLow { g with sending := none, grant := some { gr with timer := some Config.grantTime } } := by
  have ok := h.grant gr grant
  exact h.withGrant grant (gr' := { gr with timer := some Config.grantTime }) h.stations (fun _ => rfl) rfl rfl
    ⟨ok.station, ok.budget, ok.line, by simp, nofun, fun _ => more, nofun, nofun⟩ rfl rfl

theorem endGrant_eq {gr : Grant} (grant : g.grant = some gr) : g.endGrant = { g with
    grant := none
    stations := g.stations.modify gr.station Station.enterHold
    line := if g.sending.isSome then g.line else .free } := by
  unfold Glc.endGrant Glc.releaseLine
  rw [grant]
  dsimp only
  split <;> rfl

/-- R29: the table with the station of the grant in HOLD. -/
theorem held (h : g.Fits notLow) {gr : Grant} (grant : g.grant = some gr) :
    StationsFit notLow (g.stations.modify gr.station Station.enterHold)
      ∧ NoneGranted (g.stations.modify gr.station Station.enterHold) := by
  have ok := h.grant gr grant
  obtain ⟨c, config⟩ := Option.isSome_iff_exists.mp ok.station.1
  exact ⟨h.stations.modify gr.station ((h.stations.each gr.station).withState config (by rw [ok.station.2]; decide)
    (by decide)) rfl, h.noneGranted_set grant (by simp [Station.enterHold])⟩

/-- R29: a grant ends without a timeout, a frame being sent going on to its last byte. -/
theorem endGrant (h : g.Fits notLow) : g.endGrant.Fits notLow := by
  cases grant : g.grant with
  | none =>
    unfold Glc.endGrant
    rw [grant]
    exact h
  | some gr =>
    have ok := h.grant gr grant
    obtain ⟨stations, none⟩ := h.held grant
    rw [endGrant_eq grant]
    refine of_noGrant stations none rfl ?_ (fun low => absurd (h.notLow_of_line (by rw [ok.line]; decide)) low) h.displays
    cases sending : g.sending with
    | none => exact lineFits_free (by simp) rfl rfl (h.probed_of_grant grant)
    | some f =>
      unfold Glc.lineFits
      simp [ok.line, h.probed_of_grant grant]

/-- R34: the line is FREE with the last byte of a frame outside grants and probes. -/
theorem sent (h : g.Fits notLow) (noGrant : g.grant = none) (noProbe : g.probed = none) :
    Glc.Fits notLow { g with sending := none, line := .free } :=
  h.freed h.stations (h.noneGranted noGrant) noGrant rfl rfl noProbe rfl rfl

theorem noGrant_of_sending (h : g.Fits notLow) {f : GateFrame} (sending : g.sending = some f) (outside : ¬ f.underGrant) :
    g.grant = none := by
  by_contra granted
  obtain ⟨gr, grant⟩ := Option.ne_none_iff_exists'.mp granted
  exact outside ((h.grant gr grant).sending f sending)

theorem frameSent (h : g.Fits notLow) {f : GateFrame} (sending : g.sending = some f) : (g.frameSent f).Fits notLow := by
  unfold Glc.frameSent
  cases f with
  | grant level budget =>
    dsimp only
    split
    · next gr grant => exact h.waits grant ((h.grant gr grant).granting level budget sending)
    · next noGrant => exact h.sent noGrant (h.probed_none sending nofun)
  | reply level code release last =>
    dsimp only
    split
    · next gr grant =>
      split
      · obtain ⟨stations, noneGranted⟩ := h.held grant
        rw [endGrant_eq (g := { g with sending := none }) grant]
        exact h.freed stations noneGranted rfl rfl rfl (h.probed_of_grant grant) rfl rfl
      · next notLast =>
        have notLast : last = false := by simpa using notLast
        subst notLast
        exact h.waits grant ((h.grant gr grant).replying level code release sending)
    · next noGrant => exact h.sent noGrant (h.probed_none sending nofun)
  | probe level =>
    have noGrant := h.noGrant_of_sending sending id
    dsimp only
    split
    · next id probed =>
      have outsideLow : notLow := by
        by_contra low
        have fits := h.line
        unfold Glc.lineFits at fits
        rw [(h.silent low).1] at fits
        exact Option.some_ne_none _ (sending.symm.trans fits.1)
      refine of_noGrant h.stations (h.noneGranted noGrant) noGrant ?_ (fun low => absurd outsideLow low) h.displays
      unfold Glc.lineFits
      exact ⟨rfl, noGrant, by rw [probed]; rfl⟩
    · next noProbe => exact h.sent noGrant noProbe
  | time reading quality => exact h.sent (h.noGrant_of_sending sending id) (h.probed_none sending nofun)
  | display level text => exact h.sent (h.noGrant_of_sending sending id) (h.probed_none sending nofun)

/-! ### Timeouts and probes -/

/-- R30: a grant that times out. -/
theorem revoked (h : g.Fits notLow) {gr : Grant} (grant : g.grant = some gr) (runs : gr.timer.isSome = true) :
    Glc.Fits notLow { g with
      stations := g.stations.set gr.station (g.stations.get gr.station).timedOut, grant := none, line := .free } := by
  have ok := h.grant gr grant
  have outsideLow := h.notLow_of_line (by rw [ok.line]; decide)
  exact h.freed (h.stations.set gr.station ((h.stations.each gr.station).timedOut ok.station.2 outsideLow) (by simp))
    (h.noneGranted_set grant (Station.timedOut_state _)) rfl rfl (ok.timer.mp runs) (h.probed_of_grant grant) rfl rfl

/-- What the condition on the gate line reads. -/
theorem congr (h : g.Fits notLow) {g' : Glc} {p : Prop} (stations : StationsFit p g'.stations)
    (granted : ∀ i, (g'.stations.get i).state = .granted → (g.stations.get i).state = .granted)
    (kept : ∀ i, (g.stations.get i).state = .granted →
      (g'.stations.get i).config.isSome = true ∧ (g'.stations.get i).state = .granted)
    (line : g'.line = g.line) (grant : g'.grant = g.grant) (sending : g'.sending = g.sending)
    (probed : g'.probed = g.probed) (silent : ¬ p → g'.line = .free ∧ g'.restTimer = none)
    (displays : g'.displayQueue.length ≤ Config.displayCapacity) : g'.Fits p := by
  refine ⟨stations, fun i isGranted => by rw [grant]; exact h.granted i (granted i isGranted), fun gr found => ?_, ?_,
    silent, displays⟩
  · have ok := h.grant gr (grant.symm.trans found)
    exact ⟨kept _ ok.station.2, ok.budget, line.trans ok.line, by rw [sending]; exact ok.timer,
      by rw [sending]; exact ok.sending, by rw [sending]; exact ok.taken, by rw [sending]; exact ok.replying,
      by rw [sending]; exact ok.granting⟩
  · unfold Glc.lineFits
    rw [line, sending, grant, probed]
    exact h.line

/-- What leaves the stations, the line and the rest timer alone. -/
theorem ofStations (h : g.Fits notLow) {g' : Glc} (stations : g'.stations = g.stations) (line : g'.line = g.line)
    (grant : g'.grant = g.grant) (sending : g'.sending = g.sending) (probed : g'.probed = g.probed)
    (rest : g.restTimer = none → g'.restTimer = none) (displays : g'.displayQueue.length ≤ Config.displayCapacity) :
    g'.Fits notLow :=
  h.congr (stations ▸ h.stations) (fun i => by rw [stations]; exact id)
    (fun i isGranted => by
      obtain ⟨gr, found, rfl⟩ := h.granted i isGranted
      rw [stations]
      exact (h.grant gr found).station)
    line grant sending probed (fun low => ⟨line.trans (h.silent low).1, rest (h.silent low).2⟩) displays

/-- A record that is not GRANTED is replaced by another that is not. -/
theorem set (h : g.Fits notLow) {i : StationId} {r : Station} (stations : StationsFit notLow (g.stations.set i r))
    (before : (g.stations.get i).state ≠ .granted) (after : r.state ≠ .granted) (probes : StationSet) :
    Glc.Fits notLow { g with stations := g.stations.set i r, pendingProbes := probes } := by
  refine h.congr (g' := { g with stations := g.stations.set i r, pendingProbes := probes }) stations (fun j granted => ?_)
    (fun j granted => ?_) rfl rfl rfl rfl h.silent h.displays
  · rw [Table.get_set] at granted
    split at granted
    · exact absurd granted after
    · exact granted
  · rw [Table.get_set, if_neg (by rintro rfl; exact before granted)]
    obtain ⟨gr, found, rfl⟩ := h.granted j granted
    exact (h.grant gr found).station

/-- R31: a probe timer that runs out starts again. -/
theorem probeAgain (h : g.Fits notLow) {id : StationId} (runs : (g.stations.get id).probeTimer.isSome = true)
    (probes : StationSet) : Glc.Fits notLow { g with
      stations := g.stations.set id { g.stations.get id with probeTimer := some Config.probeTime }
      pendingProbes := probes } := by
  have fits := h.stations.each id
  have suspended := fits.probeTimer.mp runs
  obtain ⟨c, config⟩ := fits.configured (by rw [suspended.1]; decide)
  have again : Station.Fits notLow { g.stations.get id with probeTimer := some Config.probeTime } :=
    ⟨fun none => absurd (config.symm.trans none) (Option.some_ne_none c), fits.timeouts, by simp [suspended]⟩
  exact h.set (h.stations.set id again rfl) (by rw [suspended.1]; decide) (by simp [suspended.1]) probes

/-- R21, R32: a SUSPENDED station is returned to IDLE. -/
theorem restored (h : g.Fits notLow) {id : StationId} (suspended : (g.stations.get id).state = .suspended)
    (probes : StationSet) : Glc.Fits notLow { g with
      stations := g.stations.set id { g.stations.get id with state := .idle, timeouts := 0, probeTimer := none }
      pendingProbes := probes } := by
  obtain ⟨c, config⟩ := (h.stations.each id).configured (by rw [suspended]; decide)
  have idle : Station.Fits notLow { g.stations.get id with state := .idle, timeouts := 0, probeTimer := none } :=
    .of_running config (Nat.zero_le 2) (by simp) rfl
  exact h.set (h.stations.set id idle rfl) (by rw [suspended]; decide) (by simp) probes

theorem endProbeWait (h : g.Fits notLow) (idle : g.sending = none) (noGrant : g.grant = none) :
    g.endProbeWait.Fits notLow :=
  h.freed h.stations (h.noneGranted noGrant) noGrant rfl idle rfl rfl rfl

/-- R32: in a probe wait nothing is sent and no grant is current. -/
theorem quiet_of_probeWait (h : g.Fits notLow) (line : g.line = .probeWait) : g.sending = none ∧ g.grant = none := by
  have fits := h.line
  unfold Glc.lineFits at fits
  rw [line] at fits
  exact ⟨fits.1, fits.2.1⟩

/-! ### STATION_PUT -/

theorem endGrantOf (h : g.Fits notLow) (id : StationId) :
    (g.endGrantOf id).Fits notLow ∧ ((g.endGrantOf id).stations.get id).state ≠ .granted := by
  unfold Glc.endGrantOf
  split
  · next noGrant => exact ⟨h, h.noneGranted noGrant id⟩
  · next gr grant =>
    split
    · refine ⟨h.endGrant, ?_⟩
      rw [endGrant_eq grant]
      exact (h.held grant).2 id
    · next other =>
      refine ⟨h, fun granted => ?_⟩
      obtain ⟨gr', found, isStation⟩ := h.granted id granted
      cases grant.symm.trans found
      exact other isStation

theorem endGrantOf_config (g : Glc) (id i : StationId) :
    ((g.endGrantOf id).stations.get i).config = (g.stations.get i).config := by
  unfold Glc.endGrantOf
  split
  · rfl
  · next gr grant =>
    split
    · rw [endGrant_eq grant]
      by_cases same : gr.station = i
      · subst same; rw [Table.get_modify_self]; rfl
      · rw [Table.get_modify_of_ne _ _ _ _ same]
    · rfl

/-- R20: a probe that is being sent goes on to its last byte, and a probe wait ends. -/
theorem dropProbe (h : g.Fits notLow) (id : StationId) : (g.dropProbe id).Fits notLow := by
  unfold Glc.dropProbe
  dsimp only
  split
  · next probed =>
    have probing : g.probed ≠ none := fun none => Option.some_ne_none id (probed.symm.trans none)
    have fits := h.line
    unfold Glc.lineFits at fits
    split at fits
    · exact absurd fits.2.2 probing
    · exact absurd fits.2.2 probing
    · next line =>
      refine of_noGrant h.stations (h.noneGranted fits.2.1) fits.2.1 ?_ (fun low => ?_) h.displays
      · unfold Glc.lineFits
        rw [if_neg (by rw [line]; decide), line]
        exact ⟨fits.1, fits.2.1, nofun⟩
      · exact absurd (h.silent low).1 (by rw [line]; decide)
    · next line =>
      exact h.freed h.stations (h.noneGranted fits.2.1) fits.2.1 (if_pos line) fits.1 rfl rfl rfl
    · exact absurd fits.2 probing
  · exact h.ofStations rfl rfl rfl rfl rfl (fun rest => rest) h.displays

@[simp] theorem dropProbe_stations (g : Glc) (id : StationId) : (g.dropProbe id).stations = g.stations := by
  unfold Glc.dropProbe; dsimp only; split <;> rfl

theorem putStation (h : g.Fits notLow) {id : StationId} {configured : Bool} {c : StationConfig}
    (level : configured = true → g.levelTaken id c.level = false) : (g.putStation id configured c).Fits notLow := by
  unfold Glc.putStation
  split
  · next unconfigured =>
    refine h.set (h.stations.configure (.of_running rfl (Nat.zero_le 2) (by simp) rfl) rfl
      ((g.levelTaken_eq_false_iff id c.level).mp (level rfl))) ?_ (by simp) g.pendingProbes
    rw [(h.stations.each id).unconfigured unconfigured]
    decide
  · exact h
  · next c' config =>
    have fits := h.stations.each id
    refine (Glc.Fits.endGrantOf (g := { g with stations := g.stations.modify id fun r => { r with config := some c } })
      ?_ id).1
    have reconfigured : Station.Fits notLow { g.stations.get id with config := some c } := ⟨nofun, fits.timeouts, fits.probeTimer⟩
    refine h.congr (h.stations.configure reconfigured rfl ((g.levelTaken_eq_false_iff id c.level).mp (level rfl)))
      (fun j granted => ?_) (fun j granted => ?_) rfl rfl rfl rfl h.silent h.displays
    · by_cases same : id = j
      · subst same; rwa [Table.get_modify_self] at granted
      · rwa [Table.get_modify_of_ne _ _ _ _ same] at granted
    · by_cases same : id = j
      · subst same; rw [Table.get_modify_self]; exact ⟨rfl, granted⟩
      · rw [Table.get_modify_of_ne _ _ _ _ same]
        obtain ⟨gr, found, rfl⟩ := h.granted j granted
        exact (h.grant gr found).station
  · obtain ⟨ended, notGranted⟩ := h.endGrantOf id
    exact (ended.dropProbe id).set ((ended.dropProbe id).stations.unconfigure id) (by rw [dropProbe_stations]; exact notGranted)
      (by simp [Station.cold]) _

/-! ### LOW, warm start and cold start -/

/-- R38: silence keeps the records, with the station of the grant in HOLD and every timer stopped. -/
theorem silence (h : g.Fits notLow) : g.silence.Fits False := by
  have result : ∀ {t : Table 15 Station}, StationsFit notLow t → NoneGranted t → g.silence.stations = t.map Station.stopProbe →
      g.silence.grant = none → g.silence.Fits False := fun {t} fits none stations grant => by
    refine of_noGrant ?_ ?_ grant (lineFits_free rfl rfl grant rfl) (fun _ => ⟨rfl, rfl⟩) ?_
    · rw [stations]
      exact fits.map (fun i => (fits.each i).stopProbe) fun _ => rfl
    · rw [stations]
      intro i
      rw [Table.get_map]
      exact none i
    · have queue : g.silence.displayQueue = g.displayQueue := by
        unfold Glc.silence Glc.endGrant Glc.releaseLine
        dsimp only
        split
        · rfl
        · split <;> rfl
      rw [queue]
      exact h.displays
  cases grant : g.grant with
  | none =>
    refine result h.stations (h.noneGranted grant) ?_ ?_
    · unfold Glc.silence Glc.endGrant
      simp only [grant]
    · unfold Glc.silence Glc.endGrant
      simp only [grant]
  | some gr =>
    obtain ⟨fits, none⟩ := h.held grant
    refine result fits none ?_ ?_
    · unfold Glc.silence
      rw [endGrant_eq (g := { g with sending := .none }) grant]
    · unfold Glc.silence
      rw [endGrant_eq (g := { g with sending := .none }) grant]

/-- R39: the line goes on with a frame being sent, and is FREE otherwise. -/
theorem warm (h : g.Fits notLow) {p : Prop} (outsideLow : p) : g.warm.Fits p := by
  have stations : StationsFit p (g.stations.map Station.warm) :=
    h.stations.map (fun i => (h.stations.each i).warm p) fun i => Station.warm_config _
  have none : NoneGranted (g.stations.map Station.warm) := fun i => by
    rw [Table.get_map, (h.stations.each i).warm_state]
    decide
  unfold Glc.warm Glc.releaseLine
  dsimp only
  split
  · next sending =>
    refine of_noGrant stations none rfl ?_ (fun low => absurd outsideLow low) (Nat.zero_le _)
    have fits := h.line
    unfold Glc.lineFits at fits ⊢
    cases line : g.line with
    | free | round | probeWait =>
      rw [line] at fits
      simp [fits.1] at sending
    | own => exact ⟨sending, rfl, nofun⟩
    | grant => exact ⟨.inl sending, rfl⟩
  · next idle =>
    exact of_noGrant stations none rfl (lineFits_free rfl (by simpa using idle) rfl rfl) (fun low => absurd outsideLow low)
      (Nat.zero_le _)

theorem cold (outsideLow : notLow) (attention : Bool) : Glc.Fits notLow { Glc.cold with attention := attention } := by
  have station : ∀ i, Glc.cold.stations.get i = Station.cold := fun i => Table.get_fill _ _
  refine of_noGrant ⟨fun i => ?_, fun i j c d _ found => ?_⟩ (fun i => ?_) rfl ⟨rfl, rfl, nofun⟩
    (fun low => absurd outsideLow low) (Nat.zero_le _)
  · rw [station i]; exact .cold _
  · rw [station i] at found; cases found
  · rw [station i]; decide

theorem minuteEvent (h : g.Fits notLow) : g.minuteEvent.Fits notLow := h.ofStations rfl rfl rfl rfl rfl id h.displays

theorem tick (h : g.Fits notLow) (outsideLow : notLow) : g.tick.Fits notLow := by
  have stations : StationsFit notLow g.tick.stations := h.stations.map (fun i => (h.stations.each i).tick) fun _ => rfl
  have states : ∀ i, (g.tick.stations.get i).state = (g.stations.get i).state := fun i => by
    unfold Glc.tick
    rw [Table.get_map]
  cases grant : g.grant with
  | none =>
    have noGrant : g.tick.grant = none := by simp [Glc.tick, grant]
    refine of_noGrant stations (fun i => by rw [states]; exact h.noneGranted grant i) noGrant ?_
      (fun low => absurd outsideLow low) h.displays
    have line := h.line
    unfold Glc.lineFits at line ⊢
    rw [noGrant]
    rw [grant] at line
    exact line
  | some gr =>
    have ok := h.grant gr grant
    refine h.withGrant grant (gr' := { gr with timer := tickTimer gr.timer }) stations states (by simp [Glc.tick, grant]) rfl
      ⟨?_, ok.budget, ok.line, ?_, ok.sending, ok.taken, ok.replying, ok.granting⟩ rfl rfl
    · unfold Glc.tick
      rw [Table.get_map]
      exact ok.station
    · rw [tickTimer, Option.isSome_map]
      exact ok.timer

end Glc.Fits

/-! ### The condition on states -/

section States

variable {s t u : State}

theorem GateOk.fits (h : GateOk s) : s.glc.Fits (s.tbu.supply ≠ .low) := ((gateOk_iff s).mp h).2

/-- What the condition on the gate line reads of the state. -/
theorem GateOk.of_fits (h : GateOk s) (settings : t.olc.settings = s.olc.settings)
    (fits : t.glc.Fits (t.tbu.supply ≠ .low)) : GateOk t := by
  obtain ⟨budget, -⟩ := (gateOk_iff s).mp h
  exact (gateOk_iff t).mpr ⟨by rw [settings]; exact budget, fits⟩

theorem GateOk.congr (h : GateOk s) (settings : t.olc.settings = s.olc.settings) (glc : t.glc = s.glc)
    (supply : t.tbu.supply = s.tbu.supply) : GateOk t := h.of_fits settings (by rw [glc, supply]; exact h.fits)

/-- Both states are outside LOW, and the gate line is kept. -/
theorem GateOk.outsideLow (h : GateOk s) (settings : t.olc.settings = s.olc.settings) (glc : t.glc = s.glc)
    (before : s.tbu.supply ≠ .low) (after : t.tbu.supply ≠ .low) : GateOk t := by
  have same : (s.tbu.supply ≠ .low) = (t.tbu.supply ≠ .low) := by simp [before, after]
  exact h.of_fits settings (by rw [glc, ← same]; exact h.fits)

theorem GateOk.withGlc (h : GateOk s) {g : Glc} (fits : g.Fits (s.tbu.supply ≠ .low)) : GateOk (s.withGlc g) :=
  h.of_fits rfl fits

theorem GateOk.plant (h : GateOk s) (touches : TouchesPlant s t) : GateOk t :=
  h.congr (by rw [touches.olc]) touches.glc (by rw [touches.tbu])

theorem GateOk.store (h : GateOk s) (touches : TouchesStore s t) : GateOk t := h.plant touches.plant

theorem GateOk.settle (h : GateOk s) : GateOk s.settle := by
  refine h.of_fits (by simp) ?_
  rw [State.settle_glc, State.settle_tbu, State.weighGate]
  split
  · exact h.fits
  · next notLow => exact h.fits.weigh (by rwa [State.isLow_iff] at notLow) _ _ _

theorem GateOk.minuteEvent (h : GateOk s) (e : MinuteEvent) : GateOk (s.minuteEvent e) := by
  refine h.of_fits (by simp) ?_
  rw [State.minuteEvent_tbu, Tbu.minuteEvent_supply, State.minuteEvent_glc]
  split
  · exact h.fits
  · exact h.fits.minuteEvent

theorem GateOk.minuteEvent? (h : GateOk s) (e : Option MinuteEvent) : GateOk (s.minuteEvent? e) := by
  cases e with
  | none => exact h
  | some m => exact h.minuteEvent m

theorem GateOk.refreshSource (h : GateOk s) : GateOk s.refreshSource :=
  GateOk.store (s := s.withTbu s.tbu.refreshSource) (h.congr rfl rfl rfl) s.refreshSource_touches

theorem GateOk.quiesce (h : GateOk s) {x : Tbu} (low : x.supply = .low) {v : State}
    (touches : TouchesStore (s.withTbu x) v) : GateOk v.quiesce := by
  refine h.of_fits ?_ ?_
  · rw [State.quiesce_olc, touches.olc]; rfl
  · rw [State.quiesce_glc, State.quiesce_tbu, touches.glc, touches.tbu]
    have isLow : (x.supply ≠ .low) = False := by simp [low]
    rw [State.withTbu_glc, State.withTbu_tbu, isLow]
    exact h.fits.silence

theorem GateOk.warmStart (h : GateOk s) (notLow : s.tbu.supply ≠ .low) : GateOk s.warmStart := by
  refine h.of_fits (by simp) ?_
  rw [State.warmStart_glc, if_neg notLow, State.warmStart_tbu]
  exact (h.fits.warm notLow).minuteEvent

theorem GateOk.warmStartFromLow (h : GateOk s) : GateOk s.warmStartFromLow := by
  refine h.of_fits (by simp) ?_
  rw [State.warmStartFromLow_glc, State.warmStartFromLow_tbu]
  exact (h.fits.warm (show Supply.mains ≠ .low by decide)).minuteEvent

theorem GateOk.coldStart (s : State) : GateOk s.coldStart := by
  refine (gateOk_iff _).mpr ⟨?_, ?_⟩
  · rw [State.coldStart_olc]
    exact (by decide : 1 ≤ Settings.cold.burstBudget ∧ Settings.cold.burstBudget ≤ 4)
  · rw [State.coldStart_glc, State.coldStart_tbu]
    exact .cold (show Supply.mains ≠ .low by decide) _

theorem GateOk.mainsReturn (h : GateOk s) (e : Option MinuteEvent) : GateOk (s.mainsReturn e) := by
  unfold State.mainsReturn
  split
  · next battery =>
    refine GateOk.minuteEvent? ?_ e
    exact h.outsideLow (by rw [s.restoreMains_touches.olc]; rfl) s.restoreMains_touches.glc (by rw [battery]; decide)
      (by rw [s.restoreMains_tbu]; exact (show Supply.mains ≠ .low by decide))
  · split
    · exact h.warmStartFromLow
    · exact .coldStart s
  · exact h.refreshSource.minuteEvent? e

theorem GateOk.secondBoundary (h : GateOk s) : GateOk s.secondBoundary := by
  have reported : GateOk ((s.withTbu s.tbu.boundary).timeReport s.tbu.advance.report) :=
    GateOk.store (s := s.withTbu s.tbu.boundary) (h.congr rfl rfl (by simp [Tbu.boundary_eq])) (.timeReport _ _)
  unfold State.secondBoundary
  dsimp only
  split
  · exact (reported.mainsReturn _).congr rfl rfl (by simp)
  · exact (reported.refreshSource.minuteEvent? _).congr rfl rfl (by simp)

theorem GateOk.secondBoundaries (n : Nat) (h : GateOk s) : GateOk (s.secondBoundaries n) := by
  induction n generalizing s with
  | zero => exact h
  | succ n ih => exact ih h.secondBoundary

theorem GateOk.mainsLoss (h : GateOk s) : GateOk s.mainsLoss := by
  have lost : GateOk (if s.tbu.supply = .mains then (s.withTbu s.tbu.lose).enterBattery
      else (s.withTbu s.tbu.lose).refreshSource) := by
    split
    · next mains =>
      refine h.outsideLow ?_ ?_ (by rw [mains]; decide) ?_
      · rw [(State.enterBattery_touches _).olc]; rfl
      · rw [(State.enterBattery_touches _).glc]; rfl
      · rw [State.enterBattery_tbu]; exact (show Supply.battery ≠ .low by decide)
    · exact GateOk.refreshSource (s := s.withTbu s.tbu.lose) (h.congr rfl rfl rfl)
  unfold State.mainsLoss
  dsimp only
  split
  · exact lost.secondBoundary
  · exact lost

theorem GateOk.losePower (h : GateOk s) : GateOk s.losePower := by
  by_cases low : s.tbu.supply = .low
  · rw [State.losePower_of_low s low]; exact h
  · rw [State.losePower_of_not_low s low]
    exact h.quiesce rfl (.reportSource _ _)

/-! ### Gate line events -/

theorem GateOk.punchUnderGrant (h : GateOk s) {gr : Grant} (grant : s.glc.grant = some gr) (c : StationConfig)
    (badge age : Nat) (more : Bool) : GateOk (s.punchUnderGrant gr c badge age more) := by
  have judged := TouchesStaff.judge (s.withGlc (s.glc.takeFrame gr))
    ((s.withGlc (s.glc.takeFrame gr)).punchOf gr.station c badge age)
  refine h.of_fits (by rw [State.punchUnderGrant_olc]) ?_
  rw [State.punchUnderGrant_tbu]
  unfold State.punchUnderGrant
  dsimp only
  rw [State.withGlc_glc, judged.glc]
  refine h.fits.answered grant fun notLast => ?_
  simp only [replyEnds, Bool.or_eq_false_iff, decide_eq_false_iff_not] at notLast
  omega

theorem GateOk.statusUnderGrant (h : GateOk s) {gr : Grant} (grant : s.glc.grant = some gr) (c : StationConfig)
    (tamper fault : Bool) : GateOk (s.statusUnderGrant gr c tamper fault) := by
  have touches := TouchesGate.statusUnderGrant s gr c tamper fault
  refine h.of_fits (by rw [touches.olc]) ?_
  rw [touches.tbu]
  unfold State.statusUnderGrant
  dsimp only
  rw [State.withGlc_glc, (TouchesStore.statusReports _ _ _ _).glc]
  exact h.fits.answered grant nofun

theorem GateOk.restoreStation (h : GateOk s) (id : StationId) : GateOk (s.restoreStation id) := by
  unfold State.restoreStation
  dsimp only
  split
  · next suspended =>
    exact GateOk.store (h.withGlc (h.fits.restored suspended s.glc.pendingProbes)) (.stationReport _ _ _)
  · exact h

theorem State.restoreStation_line (s : State) (id : StationId) :
    (s.restoreStation id).glc.sending = s.glc.sending ∧ (s.restoreStation id).glc.grant = s.glc.grant := by
  unfold State.restoreStation
  dsimp only
  split
  · rw [(TouchesStore.stationReport _ _ _).glc]
    exact ⟨rfl, rfl⟩
  · exact ⟨rfl, rfl⟩

theorem GateOk.probeAnswer (h : GateOk s) (idle : s.glc.sending = none) (noGrant : s.glc.grant = none) (id : StationId)
    (tamper fault : Bool) : GateOk (s.probeAnswer id tamper fault) := by
  have restored := (h.restoreStation id).store (.statusReports _ id tamper fault)
  obtain ⟨sending, grant⟩ := s.restoreStation_line id
  unfold State.probeAnswer
  dsimp only
  refine restored.withGlc (restored.fits.endProbeWait ?_ ?_)
  · rw [(TouchesStore.statusReports _ _ _ _).glc, sending, idle]
  · rw [(TouchesStore.statusReports _ _ _ _).glc, grant, noGrant]

theorem GateOk.grantTimeout (h : GateOk s) {gr : Grant} (grant : s.glc.grant = some gr) (runs : gr.timer.isSome = true) :
    GateOk (s.grantTimeout gr) := by
  have revoked : GateOk (s.withGlc { s.glc with
      stations := s.glc.stations.set gr.station (s.glc.stations.get gr.station).timedOut, grant := none, line := .free }) :=
    h.withGlc (h.fits.revoked grant runs)
  unfold State.grantTimeout
  dsimp only
  split
  · exact revoked.store (.stationReport _ _ _)
  · exact revoked

theorem GateOk.event (h : GateOk s) (effect : EventEffect s t) : GateOk t := by
  cases effect with
  | nothing => exact h
  | secondEnds _ _ => exact h.secondBoundary.settle
  | cycle _ => exact h.congr rfl rfl rfl
  | cycleEndsSecond _ _ => exact (GateOk.secondBoundary (s := s.withTbu s.tbu.cycle) (h.congr rfl rfl rfl)).settle
  | mainsLoss _ _ => exact h.mainsLoss.settle
  | batterySample _ => exact h.congr rfl rfl rfl
  | @lowBattery asserted _ =>
    exact (GateOk.quiesce (s := s.withTbu (s.tbu.sampleBattery asserted)) (h.congr rfl rfl rfl)
      (x := (s.tbu.sampleBattery asserted).toLow) rfl (.supplyReport _ _ _)).settle
  | @attention pulled =>
    exact GateOk.settle (h.withGlc (g := { s.glc with attention := pulled })
      (h.fits.ofStations rfl rfl rfl rfl rfl id h.displays))
  | round line notLow => exact (h.withGlc (h.fits.roundResult notLow line _ h.setting)).settle
  | restEnds _ =>
    exact GateOk.settle (h.withGlc (g := { s.glc with restTimer := none })
      (h.fits.ofStations rfl rfl rfl rfl rfl (fun _ => rfl) h.displays))
  | punch _ _ grant _ => exact (h.punchUnderGrant grant _ _ _ _).settle
  | status _ _ grant _ => exact (h.statusUnderGrant grant _ _ _).settle
  | probeAnswer idle _ noGrant _ => exact (h.probeAnswer idle noGrant _ _ _).settle
  | grantTimeout grant runs _ => exact (h.grantTimeout grant runs).settle
  | probeTimer runs _ => exact (h.withGlc (h.fits.probeAgain runs _)).settle
  | probeWaitEnds line _ =>
    obtain ⟨idle, noGrant⟩ := h.fits.quiet_of_probeWait line
    exact (h.withGlc (h.fits.endProbeWait idle noGrant)).settle
  | frameSent sending => exact (h.withGlc (h.fits.frameSent sending)).settle
  | wire => exact h.congr rfl rfl rfl
  | filterEnds _ _ => exact (h.plant (.acceptInput _ _)).settle
  | sampleInputs _ => exact (h.plant ((TouchesPlant.sampleAll s).trans (.withDrc _ _))).settle
  | releaseEnds _ _ _ => exact (h.plant (.releaseRunsOut _ _ _)).settle
  | heldEnds _ _ _ => exact (h.plant (.doorAlarm _ _ _ _)).settle
  | pulseEnds _ => exact h.congr rfl rfl rfl
  | phaseEnds _ => exact h.congr rfl rfl rfl
  | ready => exact GateOk.settle (h.congr rfl rfl rfl)
  | reportSent _ _ =>
    exact (GateOk.store (s := s.withOlc { s.olc with transmitter := .idle }) (h.congr rfl rfl rfl) (.depart _)).settle
  | replySent _ _ =>
    have freed : ∀ n, GateOk ((s.withOlc { s.olc with transmitter := .idle, slot := none }).withDraws n) :=
      fun _ => h.congr rfl rfl rfl
    obtain ⟨n, same | ⟨-, same⟩⟩ := s.replySent_cases
    · rw [same]; exact (freed n).settle
    · rw [same]; exact freed n
  | backupLost => exact h.losePower.congr rfl rfl rfl
  | powerReturns _ _ => exact (h.losePower.secondBoundaries _).congr rfl rfl (by simp [State.outlast])
  | restarts _ =>
    exact (GateOk.store (s := s.losePower.withTbu (s.losePower.tbu.restartLost s.losePower.draws))
      (h.losePower.congr rfl rfl (by simp)) (.reportSource _ _)).congr rfl rfl rfl

theorem GateOk.command (h : GateOk s) (notLow : s.tbu.supply ≠ .low) (work : CommandEffect s u) : GateOk u := by
  cases work with
  | nothing => exact h
  | putStation level => exact h.withGlc (h.fits.putStation level)
  | resumeStation _ suspended => exact GateOk.store (h.withGlc (h.fits.restored suspended _)) (.stationReport _ _ _)
  | display room =>
    exact h.withGlc (h.fits.ofStations rfl rfl rfl rfl rfl id (by rw [List.length_append]; exact room))
  | setTime _ | replaceBadge _ _ | insertBadge _ _ _ | removeBadge _ _ | setPresence _ _ _ | clearConflicts
  | removeDoor _ | putDoor _ _ _ _ | clearAlarm | putPlan _ | closePeriod | releaseClosed | putEntry | putPattern
  | ring _ | stopOutputs | setPause => exact h.congr rfl rfl rfl
  | putInput => exact h.plant (.putInput _ _ _ _)
  | putSchedule => exact h.plant (.putSchedule _ _ _)
  | overrideDoors => exact h.plant (.foldl _ (TouchesPlant.setOverride _) _ _)
  | pressButtons => exact h.plant (.foldl _ TouchesPlant.pressButton _ _)
  | closeRecord _ _ _ _ => exact h.plant (TouchesBadges.closeRecord _ _ _ _ _).doors.plant
  | putSettings budget _ _ => exact (gateOk_iff _).mpr ⟨budget, h.fits⟩
  | reset => exact h.warmStart notLow

theorem State.tick_glc (s : State) : s.tick.glc = s.glc ∨ s.tbu.supply ≠ .low ∧ s.tick.glc = s.glc.tick := by
  unfold State.tick
  split
  · dsimp only
    split
    · exact .inl rfl
    · next notLow => exact .inr ⟨by rwa [State.isLow_iff] at notLow, rfl⟩
  · exact .inl rfl

theorem GateOk.tick (h : GateOk s) : GateOk s.tick := by
  refine h.of_fits (by simp) ?_
  rw [State.tick_supply]
  rcases s.tick_glc with same | ⟨notLow, same⟩
  · rw [same]; exact h.fits
  · rw [same]; exact h.fits.tick notLow

theorem GateOk.stepEffect (h : GateOk s) (effect : StepEffect s t) : GateOk t := by
  cases effect with
  | event effect => exact h.event effect
  | tick => exact h.tick
  | waits _ _ _ _ | noCommand _ _ _ => exact h.congr rfl rfl rfl
  | taken takes work => exact GateOk.settle ((h.command takes.1 work).congr rfl rfl rfl)
  | takenLater takes _ work =>
    exact GateOk.settle ((GateOk.command (s := s.emptyAssembly) (h.congr rfl rfl rfl) takes.1 work).congr rfl rfl rfl)

end States

/-- Settles O57: what each event and command makes of the stations, the grant and the line. -/
theorem everyStepKeepsTheGateLine : Obligations.EveryStepKeepsTheGateLine := by
  unfold Obligations.EveryStepKeepsTheGateLine
  exact fun _ _ => step_keeps (fun _ _ h => h.congr rfl rfl rfl) fun _ _ h => h.stepEffect

end Sys2Proof.Machine
end

section
/-!
PROOFS. Both lines going (R24, R34, R173): what they do after an event leaves nothing unsent, and no event or command
undoes it. Obligation O59.
-/

namespace Sys2Proof.Machine

open Sys2Proof

/-! ### The gate line -/

/-- R24, R34: a line that is free and sends nothing has nothing to send and no round to open. -/
def Glc.AtRest (g : Glc) (spare : Nat) : Prop := g.line = .free → g.sending = none →
  g.timePending = false ∧ g.nextProbe = none ∧ g.displayQueue = [] ∧ g.mayOpenRound spare = false

theorem gateIdle_iff (s : State) : GateIdle s ↔ (s.tbu.supply ≠ .low → s.glc.AtRest s.sparePlaces) := Iff.rfl

/-- R34: what a free line that sends nothing more has left. -/
theorem Glc.sendOwn_idle {g : Glc} {reading : Nat} {q : ClockQuality} (idle : (g.sendOwn reading q).sending = none) :
    (g.sendOwn reading q).timePending = false ∧ (g.sendOwn reading q).nextProbe = none
      ∧ (g.sendOwn reading q).displayQueue = [] := by
  unfold Glc.sendOwn at idle ⊢
  split
  · next pending => rw [if_pos pending] at idle; cases idle
  · next notPending =>
    rw [if_neg notPending] at idle
    split
    · next found => rw [found] at idle; cases idle
    · next noProbe =>
      rw [noProbe] at idle
      dsimp only at idle
      unfold Glc.sendDisplay at idle ⊢
      split
      · exact ⟨by simpa using notPending, noProbe, rfl⟩
      · next found => rw [found] at idle; cases idle

/-- R24, R34: the line rests only with nothing left to do. -/
theorem Glc.weigh_atRest (g : Glc) (reading : Nat) (q : ClockQuality) (spare : Nat) :
    (g.weigh reading q spare).AtRest spare := by
  intro line idle
  unfold Glc.weigh at line idle ⊢
  split
  · next free =>
    rw [if_pos free] at line idle
    dsimp only at line idle ⊢
    split
    · next opens =>
      rw [if_pos opens] at line
      cases line
    · next stays =>
      rw [if_neg stays] at idle
      obtain ⟨time, probe, queue⟩ := Glc.sendOwn_idle idle
      exact ⟨time, probe, queue, by simpa using stays⟩
  · next busy =>
    rw [if_neg busy] at line idle
    exact absurd ⟨line, idle⟩ busy

section States

variable {s t u : State}

theorem GateIdle.settle (s : State) : GateIdle s.settle := by
  rw [gateIdle_iff, State.settle_tbu, State.sparePlaces_congr (congrArg Rps.records s.settle_rps) s.settle_pev]
  intro notLow
  rw [s.settle_glc_of_not_low notLow]
  exact Glc.weigh_atRest _ _ _ _

theorem GateIdle.congr (h : GateIdle s) (supply : t.tbu.supply = s.tbu.supply) (glc : t.glc = s.glc)
    (records : t.rps.records = s.rps.records) (pev : t.pev = s.pev) : GateIdle t := by
  rw [gateIdle_iff, supply, glc, State.sparePlaces_congr records pev]
  exact h

theorem GateIdle.of_low (low : t.tbu.supply = .low) : GateIdle t := fun notLow => absurd low notLow

/-! ### The office link -/

/-- The condition on the office link but for what it says of an idle transmitter outside LOW. -/
structure OfficeFits (s : State) : Prop where
  assembly : ∀ c, s.olc.assembly = some c → (commandKind c).isSome = true
  reply : s.olc.transmitter = .reply → s.olc.slot.isSome = true
  report : s.olc.transmitter = .report → s.rps.records ≠ []
  low : s.tbu.supply = .low → s.olc.transmitter = .idle ∧ s.olc.slot = none ∧ s.olc.assembly = none

theorem OfficeOk.fits (h : OfficeOk s) : OfficeFits s := ⟨h.assembly, h.reply, h.report, h.low⟩

/-- What the condition on the office link reads; the command that waits may be discarded. -/
theorem OfficeFits.congr (h : OfficeFits s) (assembly : t.olc.assembly = s.olc.assembly ∨ t.olc.assembly = none)
    (slot : t.olc.slot = s.olc.slot) (transmitter : t.olc.transmitter = s.olc.transmitter)
    (records : s.rps.records ≠ [] → t.rps.records ≠ []) (supply : t.tbu.supply = .low → s.tbu.supply = .low) :
    OfficeFits t where
  assembly c waits := by
    rcases assembly with same | none
    · exact h.assembly c (same.symm.trans waits)
    · exact absurd (waits.symm.trans none) (Option.some_ne_none c)
  reply sends := by rw [slot]; exact h.reply (transmitter.symm.trans sends)
  report sends := records (h.report (transmitter.symm.trans sends))
  low isLow := by
    obtain ⟨idle, noSlot, noAssembly⟩ := h.low (supply isLow)
    refine ⟨transmitter.trans idle, slot.trans noSlot, ?_⟩
    rcases assembly with same | none
    · exact same.trans noAssembly
    · exact none

/-- R173, R183: where nothing is sent and nothing waits. -/
theorem OfficeFits.of_silent (transmitter : s.olc.transmitter = .idle) (slot : s.olc.slot = none)
    (assembly : s.olc.assembly = none) : OfficeFits s where
  assembly c waits := absurd (waits.symm.trans assembly) (Option.some_ne_none c)
  reply sends := by rw [transmitter] at sends; cases sends
  report sends := by rw [transmitter] at sends; cases sends
  low _ := ⟨transmitter, slot, assembly⟩

/-- R173: what the transmitter chooses leaves nothing unsent. -/
theorem OfficeFits.settle (h : OfficeFits s) : LinesOk s.settle := by
  refine ⟨.settle s, ?_⟩
  have settled := s.settle_settled
  unfold Settled at settled
  by_cases low : s.tbu.supply = .low
  · rw [if_pos low] at settled
    rw [settled]
    exact ⟨h.assembly, h.reply, h.report, fun notLow => absurd low notLow, h.low⟩
  · rw [if_neg low] at settled
    rw [settled]
    refine ⟨h.assembly, fun sends => ?_, fun sends => ?_, fun _ idle ready => ?_, fun isLow => absurd isLow low⟩
    · dsimp only at sends
      unfold nextFrame at sends
      split at sends
      · exact h.reply sends
      · split at sends
        · next slot => exact slot
        · split at sends <;> cases sends
    · dsimp only at sends
      unfold nextFrame at sends
      split at sends
      · exact h.report sends
      · split at sends
        · cases sends
        · split at sends
          · next has => exact has.2
          · cases sends
    · dsimp only at idle ready ⊢
      unfold nextFrame at idle
      split at idle
      · next busy => simp [idle, ready] at busy
      · split at idle
        · cases idle
        · next noSlot =>
          split at idle
          · cases idle
          · next nothing =>
            refine ⟨by simpa using noSlot, ?_⟩
            cases pause : s.rps.pause with
            | true => exact .inl rfl
            | false =>
              right; left
              by_contra records
              exact nothing ⟨pause, records⟩

/-! ### The records only grow -/

theorem State.store_records_ne (s : State) (o : Bool) (b : ReportBody) : (s.store o b).rps.records ≠ [] := by
  rw [State.store_records]
  simp

theorem State.commitWork_records_ne (s : State) (a : Accepted) : (s.commitWork a).rps.records ≠ [] := by
  unfold State.commitWork
  split
  · exact State.store_records_ne _ _ _
  · split
    · exact State.store_records_ne _ _ _
    · unfold State.commitExit
      split
      · exact State.store_records_ne _ _ _
      · exact State.store_records_ne _ _ _
    · exact State.store_records_ne _ _ _

theorem State.nonPunch_records_ne (src : ReportSource) (b : ReportBody) (h : s.rps.records ≠ []) :
    (s.nonPunch src b).rps.records ≠ [] := by
  unfold State.nonPunch
  split
  · exact State.store_records_ne _ _ _
  · exact h

theorem State.emitOwed_records_ne (h : s.rps.records ≠ []) : s.emitOwed.rps.records ≠ [] := by
  unfold State.emitOwed
  refine foldl_keeps (P := fun s => s.rps.records ≠ []) (act := State.emitSource) (fun src h => ?_) _ h
  unfold State.emitSource
  split
  · exact h
  · split
    · exact State.store_records_ne _ _ _
    · exact h

theorem State.refuseConflict_records_ne (s : State) (p : Punch) (dir : Direction) (l : LastPunch) :
    (s.refuseConflict p dir l).rps.records ≠ [] := by
  have joined : ((s.refuse p (some dir) .conflict).joinConflicts p.station l.station).rps.records ≠ [] :=
    State.store_records_ne _ _ _
  unfold State.refuseConflict
  dsimp only
  split
  · obtain ⟨_, _, fired⟩ := State.fireAlarm_touches (((s.refuse p (some dir) .conflict).joinConflicts p.station
      l.station).nonPunch .conflict (.conflict ⟨p.badge, p.station, l.station, p.config.zone, p.time, l.time,
        s.tbu.calendar⟩))
    rw [fired]
    exact State.nonPunch_records_ne _ _ joined
  · exact joined

theorem State.commitPassage_records_ne (d : DoorId) (free : Bool) (h : s.rps.records ≠ []) :
    (s.commitPassage d free).rps.records ≠ [] := by
  unfold State.commitPassage
  split
  · exact h
  · dsimp only
    refine State.emitOwed_records_ne ?_
    exact State.commitWork_records_ne _ _

theorem State.cancelPassage_records_ne (d : DoorId) (h : s.rps.records ≠ []) :
    (s.cancelPassage d).rps.records ≠ [] := by
  unfold State.cancelPassage
  split
  · exact h
  · exact State.emitOwed_records_ne (State.store_records_ne _ _ _)

/-- But for the last byte of a REPORT frame, a store that holds a record goes on to hold one. -/
theorem recordsKept : BooksKept fun s => s.rps.records ≠ [] where
  congr h records _ _ _ _ _ _ := by rw [records]; exact h
  nonPunch src b _ h := State.nonPunch_records_ne src b h
  closeRecord _ _ _ _ _ _ := State.store_records_ne _ _ _
  commitPassage d free h := State.commitPassage_records_ne d free h
  cancelPassage d h := State.cancelPassage_records_ne d h
  conflictSet _ h := h
  judge judged h := by
    cases judged with
    | silent => exact h
    | refused _ => exact State.store_records_ne _ _ _
    | conflict _ => exact State.refuseConflict_records_ne _ _ _ _
    | atOnce _ _ _ => exact State.commitWork_records_ne _ _
    | pending _ _ _ _ _ _ _ =>
      unfold State.createPassage
      rw [State.releaseDoor_rps]
      exact h
  coldStart _ := by
    rw [State.coldStart_rps]
    simp [Rps.cold]

/-! ### Minute boundary events, supply and restarts -/

theorem OfficeFits.sameSupply (h : OfficeFits s) (olc : t.olc = s.olc) (records : s.rps.records ≠ [] → t.rps.records ≠ [])
    (supply : t.tbu.supply = s.tbu.supply) : OfficeFits t :=
  h.congr (.inl (by rw [olc])) (by rw [olc]) (by rw [olc]) records fun low => supply ▸ low

theorem OfficeFits.withTbu (h : OfficeFits s) {x : Tbu} (supply : x.supply = s.tbu.supply) : OfficeFits (s.withTbu x) :=
  h.sameSupply rfl id supply

theorem OfficeFits.plant (h : OfficeFits s) (touches : TouchesPlant s t)
    (records : s.rps.records ≠ [] → t.rps.records ≠ []) : OfficeFits t :=
  h.sameSupply touches.olc records (by rw [touches.tbu])

theorem OfficeFits.minuteEvent? (h : OfficeFits s) (e : Option MinuteEvent) : OfficeFits (s.minuteEvent? e) := by
  cases e with
  | none => exact h
  | some m =>
    exact h.sameSupply (s.minuteEvent_olc m) (recordsKept.minuteEvent m) ((congrArg Tbu.supply (s.minuteEvent_tbu m)).trans rfl)

theorem OfficeFits.refreshSource (h : OfficeFits s) : OfficeFits s.refreshSource :=
  h.sameSupply (by rw [s.refreshSource_touches.olc]; rfl) recordsKept.refreshSource (by rw [State.refreshSource_tbu]; rfl)

theorem OfficeFits.quiesce (s : State) : OfficeFits s.quiesce := .of_silent rfl rfl rfl

theorem OfficeFits.mainsReturn (h : OfficeFits s) (e : Option MinuteEvent) : OfficeFits (s.mainsReturn e) := by
  have mains : Supply.mains ≠ .low := by decide
  unfold State.mainsReturn
  split
  · refine OfficeFits.minuteEvent? ?_ e
    refine h.congr (.inl ?_) ?_ ?_ recordsKept.restoreMains fun low => ?_
    · rw [s.restoreMains_touches.olc]; rfl
    · rw [s.restoreMains_touches.olc]; rfl
    · rw [s.restoreMains_touches.olc]; rfl
    · rw [s.restoreMains_tbu] at low
      exact absurd low mains
  · split
    · refine h.congr (.inr ?_) ?_ ?_ recordsKept.warmStartFromLow fun low => ?_
      · rw [s.warmStartFromLow_olc]
      · rw [s.warmStartFromLow_olc]
      · rw [s.warmStartFromLow_olc]
      · rw [s.warmStartFromLow_tbu] at low
        exact absurd low mains
    · refine .of_silent ?_ ?_ ?_
      · rw [s.coldStart_olc]; rfl
      · rw [s.coldStart_olc]; rfl
      · rw [s.coldStart_olc]; rfl
  · exact h.refreshSource.minuteEvent? e

theorem OfficeFits.secondBoundary (h : OfficeFits s) : OfficeFits s.secondBoundary := by
  have reported : OfficeFits ((s.withTbu s.tbu.boundary).timeReport s.tbu.advance.report) :=
    h.sameSupply (by rw [(TouchesStore.timeReport _ _).olc]; rfl) (fun r => recordsKept.timeReport _ r)
      (by rw [State.timeReport_tbu, State.withTbu_tbu, Tbu.boundary_eq])
  unfold State.secondBoundary
  dsimp only
  split
  · exact (reported.mainsReturn _).withTbu (by simp)
  · exact (reported.refreshSource.minuteEvent? _).withTbu (by simp)

theorem OfficeFits.enterBattery (h : OfficeFits s) : OfficeFits s.enterBattery := by
  have olc : s.enterBattery.olc = s.olc := s.enterBattery_touches.olc
  refine h.congr (.inl (by rw [olc])) (by rw [olc]) (by rw [olc]) recordsKept.enterBattery fun low => ?_
  rw [State.enterBattery_tbu] at low
  exact absurd low (by decide : Supply.battery ≠ .low)

theorem OfficeFits.mainsLoss (h : OfficeFits s) : OfficeFits s.mainsLoss := by
  have lost : OfficeFits (if s.tbu.supply = .mains then (s.withTbu s.tbu.lose).enterBattery
      else (s.withTbu s.tbu.lose).refreshSource) := by
    split
    · exact OfficeFits.enterBattery (s := s.withTbu s.tbu.lose) (h.withTbu rfl)
    · exact OfficeFits.refreshSource (s := s.withTbu s.tbu.lose) (h.withTbu rfl)
  unfold State.mainsLoss
  dsimp only
  split
  · exact lost.secondBoundary
  · exact lost

/-! ### In LOW -/

/-- The part is in LOW, and the office link is silent. -/
structure Silent (s : State) : Prop where
  low : s.tbu.supply = .low
  transmitter : s.olc.transmitter = .idle
  slot : s.olc.slot = none
  assembly : s.olc.assembly = none

theorem Silent.lines (h : Silent s) : LinesOk s := by
  have fits := OfficeFits.of_silent h.transmitter h.slot h.assembly
  exact ⟨.of_low h.low, fits.assembly, fits.reply, fits.report, fun notLow => absurd h.low notLow, fits.low⟩

theorem Silent.congr (h : Silent s) (supply : t.tbu.supply = .low) (olc : t.olc = s.olc) : Silent t :=
  ⟨supply, by rw [olc]; exact h.transmitter, by rw [olc]; exact h.slot, by rw [olc]; exact h.assembly⟩

theorem LinesOk.losePower (h : LinesOk s) : Silent s.losePower := by
  by_cases low : s.tbu.supply = .low
  · rw [State.losePower_of_low s low]
    obtain ⟨transmitter, slot, assembly⟩ := h.office.low low
    exact ⟨low, transmitter, slot, assembly⟩
  · rw [State.losePower_of_not_low s low]
    exact ⟨by simp [Tbu.losePower, Tbu.refreshSource], rfl, rfl, rfl⟩

/-- R5: a count of good seconds from which the second in progress, and those without cycles after it, qualify nothing. -/
def Tbu.Unqualified (t : Tbu) : Prop := t.qualification = 0 ∨ t.qualification ≤ 1 ∧ t.cycleCounter = 0

theorem Tbu.Unqualified.not_qualifies {t : Tbu} (h : t.Unqualified) : t.qualifies = false := by
  have few : ¬ 30 ≤ t.qualification + 1 := by
    rcases h with zero | ⟨one, -⟩ <;> omega
  simp [Tbu.qualifies, few]

/-- R5: no second without a mains cycle is good. -/
theorem Tbu.not_good_of_no_cycle {t : Tbu} (h : t.cycleCounter = 0) : t.good = false := by
  unfold Tbu.good Frequency.goodSecond
  rw [h]
  cases t.frequencyInEffect <;> rfl

theorem Tbu.Unqualified.countAfter_le {t : Tbu} (h : t.Unqualified) : t.countAfter ≤ 1 := by
  unfold Tbu.countAfter
  rw [h.not_qualifies, if_neg Bool.false_ne_true]
  rcases h with zero | ⟨one, noCycle⟩
  · rw [zero]
    split
    · split <;> omega
    · omega
  · rw [Tbu.not_good_of_no_cycle noCycle]
    split
    · exact Nat.zero_le 1
    · exact one

/-- A boundary in LOW that qualifies nothing leaves the office link alone, and the next qualifies nothing either. -/
theorem Silent.secondBoundary (h : Silent s) (unqualified : s.tbu.Unqualified) :
    Silent s.secondBoundary ∧ s.secondBoundary.tbu.Unqualified := by
  have tbu : s.secondBoundary.tbu = (s.tbu.boundary.refreshSource.takeEvent s.tbu.advance.event).startSecond := by
    rw [State.secondBoundary_tbu, Tbu.followReturn, unqualified.not_qualifies, if_neg Bool.false_ne_true]
  have supply : s.secondBoundary.tbu.supply = .low := by
    rw [tbu, Tbu.startSecond_supply]
    have : s.tbu.boundary.supply = .low := by rw [Tbu.boundary_eq]; exact h.low
    unfold Tbu.takeEvent
    cases s.tbu.advance.event <;> exact this
  refine ⟨h.congr supply ?_, .inr ?_⟩
  · unfold State.secondBoundary
    dsimp only
    rw [unqualified.not_qualifies, if_neg Bool.false_ne_true, State.withTbu_olc]
    have refreshed : ((s.withTbu s.tbu.boundary).timeReport s.tbu.advance.report).refreshSource.olc = s.olc := by
      rw [(State.refreshSource_touches _).olc, State.withTbu_olc, (TouchesStore.timeReport _ _).olc, State.withTbu_olc]
    cases s.tbu.advance.event with
    | none => exact refreshed
    | some e => exact (State.minuteEvent_olc _ _).trans refreshed
  · have kept : s.secondBoundary.tbu.qualification = s.tbu.boundary.qualification
        ∧ s.secondBoundary.tbu.cycleCounter = s.tbu.boundary.cycleCounter := by
      rw [tbu]
      unfold Tbu.startSecond Tbu.takeEvent
      dsimp only
      cases s.tbu.advance.event <;> (split <;> exact ⟨rfl, rfl⟩)
    rw [kept.1, kept.2, Tbu.boundary_eq]
    exact ⟨unqualified.countAfter_le, rfl⟩

theorem Silent.secondBoundaries (n : Nat) (h : Silent s) (unqualified : s.tbu.Unqualified) :
    Silent (s.secondBoundaries n) := by
  induction n generalizing s with
  | zero => exact h
  | succ n ih =>
    obtain ⟨silent, still⟩ := h.secondBoundary unqualified
    exact ih silent still

/-! ### Every step -/

theorem LinesOk.congr (h : LinesOk s) (supply : t.tbu.supply = s.tbu.supply) (glc : t.glc = s.glc) (olc : t.olc = s.olc)
    (rps : t.rps = s.rps) (pev : t.pev = s.pev) : LinesOk t := by
  have fits := h.office.fits.sameSupply olc (by rw [rps]; exact id) supply
  refine ⟨h.gate.congr supply glc (by rw [rps]) pev, fits.assembly, fits.reply, fits.report, ?_, fits.low⟩
  rw [supply, olc, rps]
  exact h.office.idle

theorem LinesOk.event (h : LinesOk s) (effect : EventEffect s t) : LinesOk t := by
  have fits := h.office.fits
  have gate : ∀ {u : State}, TouchesGate s u → (s.rps.records ≠ [] → u.rps.records ≠ []) → LinesOk u.settle :=
    fun touches records => (fits.sameSupply touches.olc records (by rw [touches.tbu])).settle
  cases effect with
  | nothing => exact h
  | secondEnds _ _ => exact fits.secondBoundary.settle
  | cycle _ => exact h.congr rfl rfl rfl rfl rfl
  | cycleEndsSecond _ _ => exact (OfficeFits.secondBoundary (s := s.withTbu s.tbu.cycle) (fits.withTbu rfl)).settle
  | mainsLoss _ _ => exact fits.mainsLoss.settle
  | batterySample _ => exact h.congr rfl rfl rfl rfl rfl
  | lowBattery _ => exact (OfficeFits.quiesce _).settle
  | attention | round _ _ | restEnds _ | probeTimer _ _ | probeWaitEnds _ _ | frameSent _ =>
    exact OfficeFits.settle (fits.sameSupply rfl id rfl)
  | punch _ _ _ _ =>
    exact (fits.sameSupply (by simp) (recordsKept.punchUnderGrant _ _ _ _ _) (by simp)).settle
  | status _ _ _ _ =>
    exact gate (.statusUnderGrant _ _ _ _ _) fun r => recordsKept.withGlc _ (recordsKept.statusReports _ _ _ r)
  | probeAnswer _ _ _ _ =>
    exact gate (.probeAnswer _ _ _ _) fun r =>
      recordsKept.withGlc _ (recordsKept.statusReports _ _ _ (recordsKept.restoreStation _ r))
  | grantTimeout _ _ _ => exact gate (.grantTimeout _ _) (recordsKept.grantTimeout _)
  | wire => exact h.congr rfl rfl rfl rfl rfl
  | filterEnds _ _ => exact (fits.plant (.acceptInput _ _) (recordsKept.acceptInput _)).settle
  | sampleInputs _ =>
    refine OfficeFits.settle (fits.plant ((TouchesPlant.sampleAll s).trans (.withDrc _ _)) fun r => ?_)
    rw [State.withDrc_rps]
    exact recordsKept.sampleAll r
  | releaseEnds _ _ _ => exact (fits.plant (.releaseRunsOut _ _ _) fun r => recordsKept.cancelPassage _ r).settle
  | heldEnds _ _ _ => exact (fits.plant (.doorAlarm _ _ _ _) (recordsKept.doorAlarm _ _ _)).settle
  | pulseEnds _ => exact h.congr rfl rfl rfl rfl rfl
  | phaseEnds _ => exact h.congr rfl rfl rfl rfl rfl
  | ready => exact OfficeFits.settle (fits.congr (.inl rfl) rfl rfl id id)
  | reportSent transmitter notLow =>
    refine OfficeFits.settle ?_
    have depart := TouchesStore.depart (s.withOlc { s.olc with transmitter := .idle })
    refine ⟨?_, ?_, ?_, ?_⟩
    · rw [depart.olc]; exact h.office.assembly
    · rw [depart.olc]; exact nofun
    · rw [depart.olc]; exact nofun
    · rw [depart.tbu]; exact fun low => absurd low notLow
  | replySent _ notLow =>
    have freed : ∀ n, OfficeFits ((s.withOlc { s.olc with transmitter := .idle, slot := none }).withDraws n) :=
      fun n => ⟨h.office.assembly, nofun, nofun, fun low => absurd low notLow⟩
    obtain ⟨n, same | ⟨waits, same⟩⟩ := s.replySent_cases
    · rw [same]; exact (freed n).settle
    · rw [same]
      have fits := freed n
      exact ⟨h.gate, fits.assembly, fits.reply, fits.report, fun _ _ _ => ⟨rfl, .inr (.inr waits)⟩, fits.low⟩
  | backupLost =>
    refine Silent.lines ?_
    exact h.losePower.congr h.losePower.low rfl
  | powerReturns _ notLow =>
    have unqualified : s.losePower.tbu.Unqualified := by
      rw [State.losePower_tbu s notLow]
      exact .inl rfl
    have ran := h.losePower.secondBoundaries (openOutage s.losePower.draws) unqualified
    refine Silent.lines (ran.congr (t := s.losePower.outlast) ?_ rfl)
    simp [State.outlast, ran.low]
  | restarts _ =>
    refine Silent.lines (h.losePower.congr (by simp) ?_)
    rw [State.withDraws_olc, (TouchesStore.reportSource _ _).olc]
    rfl

/-- R18, R183: outside LOW a warm start discards the command that waits, and nothing else of the office link. -/
theorem OfficeFits.warmStart (h : OfficeFits s) : OfficeFits s.warmStart :=
  h.congr (.inr (by rw [s.warmStart_olc])) (by rw [s.warmStart_olc]) (by rw [s.warmStart_olc]) recordsKept.warmStart
    (by rw [s.warmStart_tbu]; exact id)

theorem OfficeFits.command (h : OfficeFits s) (work : CommandEffect s u) : OfficeFits u := by
  have records : s.rps.records ≠ [] → u.rps.records ≠ [] := fun r =>
    recordsKept.command r (fun _ _ => r) (fun _ _ _ => r) (fun _ => r) (fun _ _ _ => r) r r (fun _ => r) (fun _ _ => r) work
  have plant : TouchesPlant s u → OfficeFits u := fun touches => h.plant touches records
  cases work with
  | nothing => exact h
  | setTime _ | putStation _ | display _ | replaceBadge _ _ | insertBadge _ _ _ | removeBadge _ _ | setPresence _ _ _
  | clearConflicts | removeDoor _ | putDoor _ _ _ _ | clearAlarm | putPlan _ | closePeriod | releaseClosed | putEntry
  | putPattern | ring _ | stopOutputs | setPause => exact h.sameSupply rfl id rfl
  | putSettings _ _ _ => exact h.congr (.inl rfl) rfl rfl id id
  | resumeStation _ _ =>
    exact h.sameSupply (TouchesGate.resumeStation _ _ _).olc records (by rw [(TouchesGate.resumeStation _ _ _).tbu])
  | putInput => exact plant (.putInput _ _ _ _)
  | putSchedule => exact plant (.putSchedule _ _ _)
  | overrideDoors => exact plant (.foldl _ (TouchesPlant.setOverride _) _ _)
  | pressButtons => exact plant (.foldl _ TouchesPlant.pressButton _ _)
  | closeRecord _ _ _ _ => exact plant (TouchesBadges.closeRecord _ _ _ _ _).doors.plant
  | reset => exact h.warmStart

/-- No management command changes the supply state. -/
theorem CommandEffect.supply (work : CommandEffect s u) : u.tbu.supply = s.tbu.supply := by
  have plant : TouchesPlant s u → u.tbu.supply = s.tbu.supply := fun touches => by rw [touches.tbu]
  cases work with
  | nothing | setTime _ | putStation _ | display _ | replaceBadge _ _ | insertBadge _ _ _ | removeBadge _ _
  | setPresence _ _ _ | clearConflicts | removeDoor _ | putDoor _ _ _ _ | clearAlarm | putPlan _ | closePeriod
  | releaseClosed | putEntry | putPattern | ring _ | stopOutputs | setPause | putSettings _ _ _ => rfl
  | resumeStation _ _ => rw [(TouchesGate.resumeStation _ _ _).tbu]
  | putInput => exact plant (.putInput _ _ _ _)
  | putSchedule => exact plant (.putSchedule _ _ _)
  | overrideDoors => exact plant (.foldl _ (TouchesPlant.setOverride _) _ _)
  | pressButtons => exact plant (.foldl _ TouchesPlant.pressButton _ _)
  | closeRecord _ _ _ _ => exact plant (TouchesBadges.closeRecord _ _ _ _ _).doors.plant
  | reset => rw [s.warmStart_tbu]; rfl

/-- R177: the reply goes into the slot. -/
theorem OfficeFits.answer (h : OfficeFits s) (notLow : s.tbu.supply ≠ .low) (r : Reply) : LinesOk (s.answer r) :=
  OfficeFits.settle ⟨h.assembly, fun _ => rfl, h.report, fun low => absurd low notLow⟩

theorem Glc.tick_nextProbe (g : Glc) : g.tick.nextProbe = g.nextProbe := by
  unfold Glc.nextProbe
  congr 1
  funext id
  unfold Glc.tick
  rw [Table.get_map]

theorem Glc.AtRest.tick {g : Glc} {spare : Nat} (h : g.AtRest spare) : g.tick.AtRest spare := by
  intro line idle
  obtain ⟨time, probe, queue, stays⟩ := h line idle
  refine ⟨time, g.tick_nextProbe.trans probe, queue, ?_⟩
  rw [← stays]
  unfold Glc.mayOpenRound Glc.tick tickTimer
  simp

theorem LinesOk.tick (h : LinesOk s) : LinesOk s.tick := by
  have fits := h.office.fits.sameSupply s.tick_olc (by rw [s.tick_rps]; exact id) s.tick_supply
  refine ⟨?_, fits.assembly, fits.reply, fits.report, ?_, fits.low⟩
  · rw [gateIdle_iff, State.tick_supply, State.sparePlaces_congr (congrArg Rps.records s.tick_rps) s.tick_pev]
    intro notLow
    rcases s.tick_glc with same | ⟨-, same⟩
    · rw [same]; exact h.gate notLow
    · rw [same]; exact Glc.AtRest.tick (h.gate notLow)
  · rw [s.tick_supply, s.tick_olc, s.tick_rps]
    exact h.office.idle

/-- R176: nothing that waits is no command, and a command waits only while a reply is in the slot. -/
theorem LinesOk.stepEffect (h : LinesOk s) (effect : StepEffect s t) : LinesOk t := by
  cases effect with
  | event effect => exact h.event effect
  | tick => exact h.tick
  | waits command notLow _ full =>
    refine ⟨h.gate, fun c waits => ?_, h.office.reply, h.office.report, fun _ idle ready => ?_,
      fun low => absurd low notLow⟩
    · cases waits
      exact command
    · obtain ⟨empty, -⟩ := h.office.idle notLow idle ready
      simp [empty] at full
  | noCommand waited event _ =>
    have command := h.office.assembly _ waited
    rw [event] at command
    cases command
  | taken takes work => exact (h.office.fits.command work).answer (by rw [work.supply]; exact takes.1) _
  | takenLater takes _ work =>
    have fits : OfficeFits s.emptyAssembly := h.office.fits.congr (.inr rfl) rfl rfl id id
    exact (fits.command work).answer (by rw [work.supply]; exact takes.1) _

end States

/-- Settles O59: what settles both lines settles them for good, and what does not leaves both alone. -/
theorem everyStepKeepsTheLinesGoing : Obligations.EveryStepKeepsTheLinesGoing := by
  unfold Obligations.EveryStepKeepsTheLinesGoing
  exact fun _ _ => step_keeps (fun _ _ h => h.congr rfl rfl rfl rfl rfl) fun _ _ h => h.stepEffect

end Sys2Proof.Machine
end

section
/-!
PROOFS. The pending passages and the badges they hold (3.4, 4.4): what commits, cancels, closes and punches make of them. The
doors of the passages follow in the file after this one.
-/

namespace Sys2Proof.Machine

open Sys2Proof

/-! ### Badges and their saved punches -/

/-- What the passages ask of the badge table: its numbers, and whether each entry holds a saved punch. -/
def State.savedPunches (s : State) : List (Nat × Bool) := s.btb.entries.map fun b => (b.number, b.savedPunch.isSome)

section Saved

variable {s t : State}

theorem State.findBadge_isSome_iff (s : State) (n : Nat) :
    (s.findBadge n).isSome = true ↔ n ∈ s.savedPunches.map Prod.fst := by
  unfold State.findBadge State.savedPunches
  rw [List.find?_isSome, List.map_map]
  simp [Function.comp]

/-- An update of an entry that keeps its number and whether it holds a saved punch. -/
theorem State.savedPunches_updateBadge (s : State) (n : Nat) {f : Badge → Badge} (number : ∀ b, (f b).number = b.number)
    (saved : ∀ b : Badge, (f b).savedPunch.isSome = b.savedPunch.isSome) :
    (s.updateBadge n f).savedPunches = s.savedPunches := by
  unfold State.savedPunches State.updateBadge
  rw [State.withBtb_btb, List.map_map]
  refine List.map_congr_left fun b _ => ?_
  simp only [Function.comp]
  split
  · rw [number, saved]
  · rfl

theorem State.savedPunches_closeRecord (s : State) (b : Badge) (r : OpenRecord) (cause : CloseCause) (form : CloseForm) :
    (s.closeRecord b r cause form).savedPunches = s.savedPunches :=
  s.savedPunches_updateBadge b.number (fun _ => rfl) fun _ => rfl

theorem State.savedPunches_commitWork (s : State) (a : Accepted) : (s.commitWork a).savedPunches = s.savedPunches := by
  unfold State.commitWork
  split
  · rfl
  · split
    · exact s.savedPunches_updateBadge _ (fun _ => rfl) fun _ => rfl
    · unfold State.commitExit
      split
      · exact State.savedPunches_closeRecord _ _ _ _ _
      · exact s.savedPunches_updateBadge _ (fun _ => rfl) fun _ => rfl
    · rfl

theorem State.savedPunches_autoCloseFrom (now : Nat) (l : List Badge) (s : State) :
    (autoCloseFrom now l s).savedPunches = s.savedPunches := by
  induction l generalizing s with
  | nil => rfl
  | cons b rest ih =>
    unfold autoCloseFrom
    split
    · exact ih s
    · split
      · exact ih s
      · split
        · exact ih s
        · split
          · rfl
          · exact (ih _).trans (State.savedPunches_closeRecord _ _ _ _ _)

theorem TouchesStore.savedPunches (h : TouchesStore s t) : t.savedPunches = s.savedPunches := by
  unfold State.savedPunches
  rw [h.btb]

end Saved

/-! ### Passages -/

/-- R48, R49, R69: the passages and their badges, but for the doors. -/
structure PassagesFit (s : State) : Prop where
  ascending : s.pev.passages.Pairwise fun p q => p.door < q.door
  badges : (s.pev.passages.map fun p => p.badge).Nodup
  present : ∀ p ∈ s.pev.passages, p.badge ∈ s.savedPunches.map Prod.fst
  saved : ∀ e ∈ s.savedPunches, e.2 = (s.passageOf e.1).isSome

/-- R68: the door of a passage stands RELEASED, in a mode in which it can be. -/
def State.Releasing (s : State) (d : DoorId) : Prop :=
  ∃ r, s.drc.doors.get d = some r ∧ r.state = .released ∧ r.mode ≠ .free ∧ r.mode ≠ .lockdown

theorem everyTwo_door_iff (l : List Passage) : everyTwo (fun p q => decide (p.door < q.door)) l = true
    ↔ l.Pairwise fun p q => p.door < q.door := by
  rw [everyTwo_iff_isChain]
  simp only [decide_eq_true_eq]
  exact List.isChain_iff_pairwise (R := fun p q : Passage => p.door < q.door)

theorem passagesOk_iff (s : State) : PassagesOk s ↔ PassagesFit s ∧ ∀ p ∈ s.pev.passages, s.Releasing p.door := by
  constructor
  · intro h
    refine ⟨⟨(everyTwo_door_iff _).mp h.ascending, h.badges, fun p mem => (s.findBadge_isSome_iff _).mp (h.present p mem),
      fun e mem => ?_⟩, h.released⟩
    obtain ⟨b, entry, rfl⟩ := List.mem_map.mp mem
    exact h.saved b entry
  · rintro ⟨h, released⟩
    exact {
      ascending := (everyTwo_door_iff _).mpr h.ascending
      badges := h.badges
      present := fun p mem => (s.findBadge_isSome_iff _).mpr (h.present p mem)
      saved := fun b entry => h.saved (b.number, b.savedPunch.isSome) (List.mem_map_of_mem entry)
      released := released }

section Passages

variable {s t : State}

theorem PassagesFit.congr (h : PassagesFit s) (passages : t.pev.passages = s.pev.passages)
    (saved : t.savedPunches = s.savedPunches) : PassagesFit t where
  ascending := by rw [passages]; exact h.ascending
  badges := by rw [passages]; exact h.badges
  present := by rw [passages, saved]; exact h.present
  saved := by
    rw [saved]
    intro e mem
    rw [State.passageOf_congr passages]
    exact h.saved e mem

theorem State.passageAt_none {d : DoorId} : s.passageAt d = none ↔ ∀ p ∈ s.pev.passages, p.door ≠ d := by
  unfold State.passageAt
  simp [List.find?_eq_none]

theorem State.passageOf_none {n : Nat} : s.passageOf n = none ↔ ∀ p ∈ s.pev.passages, p.badge ≠ n := by
  unfold State.passageOf
  simp [List.find?_eq_none]

theorem State.passageOf_isSome {n : Nat} : (s.passageOf n).isSome = true ↔ ∃ p ∈ s.pev.passages, p.badge = n := by
  unfold State.passageOf
  simp [List.find?_isSome]

theorem State.findBadge_number {n : Nat} {b : Badge} (found : s.findBadge n = some b) : b.number = n :=
  (State.findBadge_some found).2

/-- R48: an update of every entry of one number, which then holds a saved punch or none. -/
theorem State.savedPunches_setSaved (s : State) (n : Nat) {f : Badge → Badge} (number : ∀ b, (f b).number = b.number)
    {saved : Bool} (isSaved : ∀ b, (f b).savedPunch.isSome = saved) :
    (s.updateBadge n f).savedPunches = s.savedPunches.map fun e => (e.1, if e.1 = n then saved else e.2) := by
  unfold State.savedPunches State.updateBadge
  rw [State.withBtb_btb, List.map_map, List.map_map]
  refine List.map_congr_left fun b _ => ?_
  simp only [Function.comp]
  split
  · rw [number, isSaved]
  · rfl

/-- The passages without that of one door, where the badge of that passage no longer holds a saved punch. -/
theorem PassagesFit.remove (h : PassagesFit s) {d : DoorId} {p : Passage} (found : s.passageAt d = some p)
    (passages : t.pev.passages = s.pev.passages.filter fun q => q.door != d)
    (saved : t.savedPunches = s.savedPunches.map fun e => (e.1, if e.1 = p.badge then false else e.2)) :
    PassagesFit t := by
  obtain ⟨mem, door⟩ := State.passageAt_some found
  have sublist : t.pev.passages.Sublist s.pev.passages := by rw [passages]; exact List.filter_sublist
  have only : ∀ q ∈ s.pev.passages, q.door = d → q = p := fun q memQ doorQ => by
    by_contra different
    rcases (List.pairwise_iff_get.mp h.ascending) with apart
    obtain ⟨i, rfl⟩ := List.get_of_mem memQ
    obtain ⟨j, rfl⟩ := List.get_of_mem mem
    rcases Nat.lt_trichotomy i j with less | same | greater
    · exact absurd (apart i j less) (by rw [doorQ, door]; exact lt_irrefl d)
    · exact different (by rw [Fin.ext same])
    · exact absurd (apart j i greater) (by rw [doorQ, door]; exact lt_irrefl d)
  have sameBadge : ∀ q ∈ s.pev.passages, q.badge = p.badge → q = p := fun q memQ badge =>
    List.inj_on_of_nodup_map h.badges memQ mem badge
  refine ⟨h.ascending.sublist sublist, h.badges.sublist (sublist.map _), fun q memQ => ?_, fun e memE => ?_⟩
  · rw [saved, List.map_map]
    exact h.present q (sublist.subset memQ)
  · rw [saved] at memE
    obtain ⟨e', memE', rfl⟩ := List.mem_map.mp memE
    have remains : ∀ q, q ∈ t.pev.passages ↔ q ∈ s.pev.passages ∧ q.door ≠ d := fun q => by
      rw [passages, List.mem_filter]; simp
    dsimp only
    split
    · next own =>
      symm
      rw [← Bool.not_eq_true, State.passageOf_isSome]
      rintro ⟨q, memQ, badge⟩
      obtain ⟨memQ, elsewhere⟩ := (remains q).mp memQ
      rw [sameBadge q memQ (badge.trans own)] at elsewhere
      exact elsewhere door
    · next other =>
      rw [h.saved e' memE', Bool.eq_iff_iff, State.passageOf_isSome, State.passageOf_isSome]
      constructor
      · rintro ⟨q, memQ, badge⟩
        refine ⟨q, (remains q).mpr ⟨memQ, fun doorQ => other ?_⟩, badge⟩
        rw [only q memQ doorQ] at badge
        exact badge.symm
      · rintro ⟨q, memQ, badge⟩
        exact ⟨q, ((remains q).mp memQ).1, badge⟩

/-- R71, R75: the passage at a door commits. -/
theorem PassagesFit.commitPassage (h : PassagesFit s) (d : DoorId) (free : Bool) : PassagesFit (s.commitPassage d free)
    ∧ (s.commitPassage d free).pev.passages = s.pev.passages.filter fun q => q.door != d := by
  unfold State.commitPassage
  split
  · next none =>
    refine ⟨h, (List.filter_eq_self.mpr fun q mem => ?_).symm⟩
    simpa using State.passageAt_none.mp none q mem
  · next p found =>
    dsimp only
    generalize work : State.commitWork _ _ = u
    have touches : TouchesBadges _ u := work ▸ TouchesBadges.commitWork _ _
    have passages : u.emitOwed.pev.passages = s.pev.passages.filter fun q => q.door != d := by
      rw [(TouchesStore.emitOwed u).pev, touches.pev]
      rfl
    refine ⟨h.remove found passages ?_, passages⟩
    rw [(TouchesStore.emitOwed u).savedPunches, ← work, State.savedPunches_commitWork]
    exact State.savedPunches_setSaved _ p.badge (f := fun b => { b with savedPunch := none }) (fun _ => rfl) fun _ => rfl

/-- R74: the passage at a door is cancelled. -/
theorem PassagesFit.cancelPassage (h : PassagesFit s) (d : DoorId) : PassagesFit (s.cancelPassage d)
    ∧ (s.cancelPassage d).pev.passages = s.pev.passages.filter fun q => q.door != d := by
  unfold State.cancelPassage
  split
  · next none =>
    refine ⟨h, (List.filter_eq_self.mpr fun q mem => ?_).symm⟩
    simpa using State.passageAt_none.mp none q mem
  · next p found =>
    have passages : ((((s.removePassage d).updateBadge p.badge Badge.afterCancel).store false
        (p.accepted.report .cancelled s.tbu.calendar)).emitOwed).pev.passages =
        s.pev.passages.filter fun q => q.door != d := by rw [(TouchesStore.emitOwed _).pev]; rfl
    refine ⟨h.remove found passages ?_, passages⟩
    rw [(TouchesStore.emitOwed _).savedPunches]
    exact State.savedPunches_setSaved _ p.badge (f := Badge.afterCancel) (fun _ => rfl) fun _ => rfl

theorem insertPassage_pairwise {p : Passage} {l : List Passage} (ascending : l.Pairwise fun a b => a.door < b.door)
    (free : ∀ q ∈ l, q.door ≠ p.door) : (insertPassage p l).Pairwise fun a b => a.door < b.door := by
  induction l with
  | nil => exact List.pairwise_singleton _ _
  | cons q rest ih =>
    obtain ⟨above, ascendingRest⟩ := List.pairwise_cons.mp ascending
    unfold insertPassage
    split
    · next before =>
      have less : p.door < q.door := lt_of_le_of_ne before (free q List.mem_cons_self).symm
      refine List.pairwise_cons.mpr ⟨fun x mem => ?_, ascending⟩
      rcases List.mem_cons.mp mem with rfl | inRest
      · exact less
      · exact less.trans (above x inRest)
    · next after =>
      refine List.pairwise_cons.mpr ⟨fun x mem => ?_, ih ascendingRest fun x mem => free x (List.mem_cons_of_mem _ mem)⟩
      rcases (mem_insertPassage p x rest).mp mem with rfl | inRest
      · exact lt_of_not_ge after
      · exact above x inRest

theorem insertPassage_perm (p : Passage) (l : List Passage) : (insertPassage p l).Perm (p :: l) := by
  induction l with
  | nil => exact List.Perm.refl _
  | cons q rest ih =>
    unfold insertPassage
    split
    · exact List.Perm.refl _
    · exact (ih.cons q).trans (List.Perm.swap p q rest)

/-- R68, R69: a passage joins the list, and its badge then holds a saved punch. -/
theorem PassagesFit.insert (h : PassagesFit s) {p : Passage} (door : s.passageAt p.door = none)
    (badge : s.passageOf p.badge = none) (present : p.badge ∈ s.savedPunches.map Prod.fst)
    (passages : t.pev.passages = insertPassage p s.pev.passages)
    (saved : t.savedPunches = s.savedPunches.map fun e => (e.1, if e.1 = p.badge then true else e.2)) : PassagesFit t := by
  refine ⟨?_, ?_, fun q memQ => ?_, fun e memE => ?_⟩
  · rw [passages]
    exact insertPassage_pairwise h.ascending (State.passageAt_none.mp door)
  · rw [passages]
    refine ((insertPassage_perm p s.pev.passages).map fun q : Passage => q.badge).nodup_iff.mpr ?_
    refine List.nodup_cons.mpr ⟨fun mem => ?_, h.badges⟩
    obtain ⟨q, memQ, same⟩ := List.mem_map.mp mem
    exact State.passageOf_none.mp badge q memQ same
  · rw [saved, List.map_map]
    rw [passages] at memQ
    rcases (mem_insertPassage p q _).mp memQ with rfl | old
    · exact present
    · exact h.present q old
  · rw [saved] at memE
    obtain ⟨e', memE', rfl⟩ := List.mem_map.mp memE
    dsimp only
    split
    · next own =>
      symm
      rw [State.passageOf_isSome, passages]
      exact ⟨p, (mem_insertPassage p p _).mpr (.inl rfl), own.symm⟩
    · next other =>
      rw [h.saved e' memE', Bool.eq_iff_iff, State.passageOf_isSome, State.passageOf_isSome, passages]
      constructor
      · rintro ⟨q, memQ, same⟩
        exact ⟨q, (mem_insertPassage p q _).mpr (.inr memQ), same⟩
      · rintro ⟨q, memQ, same⟩
        rcases (mem_insertPassage p q _).mp memQ with rfl | old
        · exact absurd same.symm other
        · exact ⟨q, old, same⟩

end Passages

end Sys2Proof.Machine
end

section
/-!
PROOFS. The doors (chapter 5): their states and timers through every event at a door, their modes through every resolution,
and the passages pending at them. Obligation O55.
-/

namespace Sys2Proof.Machine

open Sys2Proof

/-! ### One door -/

/-- R90, R92, R96: outside FREE a swing door stands OPEN, HELD or FORCED exactly while its contact is ACTIVE. -/
def Door.FitsContact (r : Door) (level : Bool) : Prop := r.config.kind = .swing → r.mode ≠ .free →
  (level = true ↔ r.state = .opened ∨ r.state = .held ∨ r.state = .forced)

section Transitions

variable {r : Door}

theorem DoorConfig.fullHeld_isSome (c : DoorConfig) : c.fullHeld.isSome = true ↔ 0 < c.heldLimit := by
  unfold DoorConfig.fullHeld
  split <;> simp [*]

theorem DoorOk.releaseTimer_none (ok : DoorOk r) (state : r.state ≠ .released) : r.releaseTimer = none := by
  rw [← Option.not_isSome_iff_eq_none, ok.releaseTimer]
  exact state

theorem DoorOk.heldTimer_none (ok : DoorOk r) (state : r.state ≠ .opened) : r.heldTimer = none := by
  rw [← Option.not_isSome_iff_eq_none, ok.heldTimer]
  exact fun ⟨opened, _⟩ => state opened

theorem DoorOk.mode_ne_free (ok : DoorOk r) (state : r.state ≠ .free) : r.mode ≠ .free := fun free =>
  state (ok.free.mp free)

/-- R91, R92, R94, R97: a door that is SECURE with both timers stopped. -/
theorem DoorOk.secured (ok : DoorOk r) (notFree : r.mode ≠ .free) : DoorOk { r with
    state := .secure, releaseTimer := none, heldTimer := none } :=
  { ok with free := by simp [notFree], lockdown := by simp, releaseTimer := by simp, heldTimer := by simp
            turnstile := fun _ => .inl rfl }

/-- R88: a door that is RELEASED. -/
theorem DoorOk.released (ok : DoorOk r) (before : r.state = .secure ∨ r.state = .released) (notLockdown : r.mode ≠ .lockdown)
    (t : Nat) : DoorOk { r with state := .released, releaseTimer := some t } := by
  have notFree : r.mode ≠ .free := ok.mode_ne_free (by rcases before with h | h <;> rw [h] <;> decide)
  have held : r.heldTimer = none := ok.heldTimer_none (by rcases before with h | h <;> rw [h] <;> decide)
  exact { ok with free := by simp [notFree], lockdown := fun lockdown => absurd lockdown notLockdown
                  releaseTimer := by simp, heldTimer := by simp [held], turnstile := fun _ => .inr (.inl rfl) }

/-- R90: a swing door that opens within its release. -/
theorem DoorOk.opened (ok : DoorOk r) (notFree : r.mode ≠ .free) (swing : r.config.kind = .swing) : DoorOk { r with
    state := .opened, releaseTimer := none, heldTimer := r.config.fullHeld } :=
  { ok with free := by simp [notFree], lockdown := by simp, releaseTimer := by simp
            heldTimer := by simpa using r.config.fullHeld_isSome
            turnstile := fun turnstile => absurd (swing.symm.trans turnstile) (by decide) }

/-- R90: a swing door that is forced open. -/
theorem DoorOk.forced (ok : DoorOk r) (before : r.state = .secure) (swing : r.config.kind = .swing) :
    DoorOk { r with state := .forced } := by
  have notFree : r.mode ≠ .free := ok.mode_ne_free (by rw [before]; decide)
  exact { ok with free := by simp [notFree], lockdown := by simp
                  releaseTimer := by simp [ok.releaseTimer_none (by rw [before]; decide)]
                  heldTimer := by simp [ok.heldTimer_none (by rw [before]; decide)]
                  turnstile := fun turnstile => absurd (swing.symm.trans turnstile) (by decide) }

/-- R92: a door that stays open past its held limit. -/
theorem DoorOk.overdue (ok : DoorOk r) (before : r.state = .opened) :
    DoorOk { r with state := .held, heldTimer := none } := by
  have notFree : r.mode ≠ .free := ok.mode_ne_free (by rw [before]; decide)
  exact { ok with free := by simp [notFree], lockdown := by simp
                  releaseTimer := by simp [ok.releaseTimer_none (by rw [before]; decide)]
                  heldTimer := by simp
                  turnstile := fun turnstile => by simpa [before] using ok.turnstile turnstile }

/-- R95: a door that is FREE. -/
theorem DoorOk.freed (ok : DoorOk r) : DoorOk { r with
    mode := .free, state := .free, releaseTimer := none, heldTimer := none } :=
  { ok with free := by simp, lockdown := by simp, releaseTimer := by simp, heldTimer := by simp
            turnstile := fun _ => .inr (.inr rfl) }

/-- R97: a mode other than FREE for another such mode. -/
theorem DoorOk.withMode (ok : DoorOk r) (notFree : r.mode ≠ .free) {mode : DoorMode} (stays : mode ≠ .free)
    (lockdown : mode = .lockdown → r.state ≠ .released) : DoorOk { r with mode := mode } :=
  { ok with free := by simp [stays, ← ok.free, notFree], lockdown := lockdown }

/-- R92: a swing door that closes. -/
theorem DoorOk.closed (ok : DoorOk r) (notFree : r.mode ≠ .free) (notReleased : r.state ≠ .released) :
    DoorOk { r with state := .secure, heldTimer := none } := by
  have secured := ok.secured notFree
  have same : r.releaseTimer = none := ok.releaseTimer_none notReleased
  rw [same]
  exact secured

/-- R94: a turnstile that is passed. -/
theorem DoorOk.passed (ok : DoorOk r) (before : r.state = .released) :
    DoorOk { r with state := .secure, releaseTimer := none } := by
  have secured := ok.secured (ok.mode_ne_free (by rw [before]; decide))
  have same : r.heldTimer = none := ok.heldTimer_none (by rw [before]; decide)
  rw [same]
  exact secured

theorem DoorOk.withOverride (ok : DoorOk r) (o : Override) : DoorOk { r with override := o } := { ok with }

theorem DoorOk.tick (ok : DoorOk r) : DoorOk r.tick :=
  { ok with releaseTimer := by simpa [Door.tick, tickTimer] using ok.releaseTimer
            heldTimer := by simpa [Door.tick, tickTimer] using ok.heldTimer }

/-- R82: the inputs a configuration may name. -/
structure DoorConfig.Fits (c : DoorConfig) : Prop where
  contact : c.contact.val < 16
  button : ∀ b, c.button = some b → 16 ≤ b.val ∧ b.val < 32

theorem DoorOk.config (ok : DoorOk r) : r.config.Fits := ⟨ok.contact, ok.button⟩

/-- R82, R96, R101: a door that is not FREE takes the state its contact gives. -/
theorem Door.closedState_ok (config : r.config.Fits) (notFree : r.mode ≠ .free) (level : Bool) :
    DoorOk (r.closedState level) ∧ (r.closedState level).FitsContact level := by
  unfold Door.closedState
  split
  · next active =>
    exact ⟨{ free := by simp [notFree], lockdown := by simp, releaseTimer := by simp
             heldTimer := by simpa using r.config.fullHeld_isSome
             turnstile := fun turnstile => absurd (active.1.symm.trans turnstile) (by decide)
             contact := config.contact, button := config.button }, fun _ _ => by simp [active.2]⟩
  · next inactive =>
    exact ⟨{ free := by simp [notFree], lockdown := by simp, releaseTimer := by simp, heldTimer := by simp
             turnstile := fun _ => .inl rfl, contact := config.contact, button := config.button },
      fun swing _ => by simpa using fun active => inactive ⟨swing, active⟩⟩

@[simp] theorem Door.closedState_config (r : Door) (level : Bool) : (r.closedState level).config = r.config := by
  unfold Door.closedState; split <;> rfl
@[simp] theorem Door.closedState_override (r : Door) (level : Bool) : (r.closedState level).override = r.override := by
  unfold Door.closedState; split <;> rfl
@[simp] theorem Door.closedState_mode (r : Door) (level : Bool) : (r.closedState level).mode = r.mode := by
  unfold Door.closedState; split <;> rfl
theorem Door.closedState_state (r : Door) (level : Bool) : (r.closedState level).state ≠ .released := by
  unfold Door.closedState; split <;> simp

/-- R82, R101: a door worked out afresh. -/
theorem Door.workOut_ok (config : r.config.Fits) (mode : DoorMode) (level : Bool) :
    DoorOk (r.workOut mode level) ∧ (r.workOut mode level).FitsContact level := by
  unfold Door.workOut
  split
  · exact ⟨{ free := by simp, lockdown := by simp, releaseTimer := by simp, heldTimer := by simp
             turnstile := fun _ => .inr (.inr rfl), contact := config.contact, button := config.button },
      fun _ notFree => absurd rfl notFree⟩
  · next notFree => exact Door.closedState_ok (r := { r with mode := mode }) config notFree level

@[simp] theorem Door.workOut_config (r : Door) (mode : DoorMode) (level : Bool) :
    (r.workOut mode level).config = r.config := by
  unfold Door.workOut; split <;> simp
@[simp] theorem Door.workOut_override (r : Door) (mode : DoorMode) (level : Bool) :
    (r.workOut mode level).override = r.override := by
  unfold Door.workOut; split <;> simp
@[simp] theorem Door.workOut_mode (r : Door) (mode : DoorMode) (level : Bool) : (r.workOut mode level).mode = mode := by
  unfold Door.workOut
  split
  · next free => exact free.symm
  · simp

end Transitions

/-! ### The doors of a state -/

/-- R82: no two doors name one input. -/
def DistinctInputs (t : Table 16 (Option Door)) : Prop := ∀ i j a b, i ≠ j → t.get i = some a → t.get j = some b →
  a.config.sharesInput b.config = false

theorem DoorConfig.sharesInput_comm (a b : DoorConfig) : a.sharesInput b = b.sharesInput a := by
  unfold DoorConfig.sharesInput
  rw [Bool.eq_iff_iff]
  simp only [Bool.or_eq_true, Bool.and_eq_true, beq_iff_eq]
  constructor
  · rintro (contact | ⟨named, button⟩)
    · exact .inl contact.symm
    · exact .inr ⟨button ▸ named, button.symm⟩
  · rintro (contact | ⟨named, button⟩)
    · exact .inl contact.symm
    · exact .inr ⟨button ▸ named, button.symm⟩

theorem State.inputTaken_eq_false_iff (s : State) (d : DoorId) (c : DoorConfig) : s.inputTaken d c = false ↔
    ∀ j b, j ≠ d → s.drc.doors.get j = some b → c.sharesInput b.config = false := by
  unfold State.inputTaken
  simp only [List.any_eq_false, List.mem_finRange, true_implies, Bool.and_eq_true, bne_iff_ne, ne_eq, not_and]
  refine forall_congr' fun j => ?_
  cases s.drc.doors.get j with
  | none => simp
  | some b => simp

/-- The condition on the doors, an edge of input `i` having still to reach the doors of `l` that name it as their contact. -/
structure DoorsBut (l : List DoorId) (i : InputId) (s : State) : Prop where
  ok : ∀ d r, s.drc.doors.get d = some r → DoorOk r
  contact : ∀ d r, s.drc.doors.get d = some r → (d ∈ l ∧ r.config.contact = i) ∨
    r.FitsContact (s.accepted r.config.contact)
  inputs : DistinctInputs s.drc.doors
  pulse : s.drc.pulseTimer.isSome = true ↔ s.drc.alarm = .pulsing

theorem doorsOk_iff (s : State) : DoorsOk s ↔ DoorsBut [] 0 s := by
  constructor
  · intro h
    exact ⟨h.doors, fun d r found => .inr (h.contacts d r found), fun a b ra rb different foundA foundB =>
      (s.inputTaken_eq_false_iff a ra.config).mp (h.inputs a ra foundA) b rb (Ne.symm different) foundB, h.pulse⟩
  · intro h
    refine ⟨h.ok, fun d r found => (s.inputTaken_eq_false_iff d r.config).mpr fun j b different other =>
      h.inputs d j r b (Ne.symm different) found other, fun d r found => ?_, h.pulse⟩
    rcases h.contact d r found with ⟨mem, -⟩ | fits
    · exact absurd mem List.not_mem_nil
    · exact fits

section Doors

variable {s t : State} {l l' : List DoorId} {i : InputId}

theorem DoorsBut.congr (h : DoorsBut l i s) (drc : t.drc = s.drc) : DoorsBut l i t :=
  ⟨drc ▸ h.ok, by unfold State.accepted; rw [drc]; exact h.contact, drc ▸ h.inputs, drc ▸ h.pulse⟩

/-- Where the edge has reached every door, it does not matter of which input it was. -/
theorem DoorsBut.done (h : DoorsBut [] i s) (j : InputId) : DoorsBut [] j s :=
  ⟨h.ok, fun d r found => .inr ((h.contact d r found).resolve_left fun ⟨mem, _⟩ => List.not_mem_nil mem), h.inputs,
    h.pulse⟩

/-- What the doors ask of the Door Controller: the doors, the accepted levels of their contacts, and the alarm. -/
theorem DoorsBut.of_eq (h : DoorsBut l i s) (doors : t.drc.doors = s.drc.doors)
    (accepted : ∀ j : InputId, j.val < 16 → t.accepted j = s.accepted j)
    (pulse : t.drc.pulseTimer.isSome = true ↔ t.drc.alarm = .pulsing) : DoorsBut l i t := by
  refine ⟨doors ▸ h.ok, fun d r found => ?_, doors ▸ h.inputs, pulse⟩
  rw [doors] at found
  rw [accepted _ (h.ok d r found).contact]
  exact h.contact d r found

/-- One door replaced by another of its configuration. -/
theorem DoorsBut.replaceDoor (h : DoorsBut l i s) {d : DoorId} {r r' : Door} (found : s.drc.doors.get d = some r)
    (rest : ∀ e ∈ l, e ≠ d → e ∈ l') (config : r'.config = r.config) (ok : DoorOk r')
    (fits : (d ∈ l' ∧ r.config.contact = i) ∨ r'.FitsContact (s.accepted r.config.contact)) :
    DoorsBut l' i (s.setDoor d (some r')) := by
  refine ⟨fun e x isX => ?_, fun e x isX => ?_, fun a b ra rb different foundA foundB => ?_, h.pulse⟩
  · change (s.drc.doors.set d (some r')).get e = some x at isX
    rw [Table.get_set] at isX
    split at isX
    · cases isX; exact ok
    · exact h.ok e x isX
  · change (s.drc.doors.set d (some r')).get e = some x at isX
    rw [Table.get_set] at isX
    split at isX
    · next same =>
      cases isX
      rw [config, ← same]
      exact fits
    · next other =>
      rcases h.contact e x isX with ⟨mem, contact⟩ | fits
      · exact .inl ⟨rest e mem (Ne.symm other), contact⟩
      · exact .inr fits
  · change (s.drc.doors.set d (some r')).get a = some ra at foundA
    change (s.drc.doors.set d (some r')).get b = some rb at foundB
    have before : ∀ e x, (s.drc.doors.set d (some r')).get e = some x →
        ∃ y, s.drc.doors.get e = some y ∧ y.config = x.config := fun e x isX => by
      rw [Table.get_set] at isX
      split at isX
      · next same => cases isX; exact ⟨r, same ▸ found, config.symm⟩
      · exact ⟨x, isX, rfl⟩
    obtain ⟨ya, foundYa, configA⟩ := before a ra foundA
    obtain ⟨yb, foundYb, configB⟩ := before b rb foundB
    rw [← configA, ← configB]
    exact h.inputs a b ya yb different foundYa foundYb

/-- One door replaced by another of its configuration, an edge having reached it. -/
theorem DoorsBut.setDoor (h : DoorsBut l i s) {d : DoorId} {r r' : Door} (found : s.drc.doors.get d = some r)
    (rest : ∀ e ∈ l, e ≠ d → e ∈ l') (config : r'.config = r.config) (ok : DoorOk r')
    (fits : r'.FitsContact (s.accepted r.config.contact)) : DoorsBut l' i (s.setDoor d (some r')) :=
  h.replaceDoor found rest config ok (.inr fits)

/-- One door in another state that fits the same levels; an edge that has still to reach it is left so. -/
theorem DoorsBut.setState (h : DoorsBut l i s) {d : DoorId} {r r' : Door} (found : s.drc.doors.get d = some r)
    (config : r'.config = r.config) (ok : DoorOk r') (fits : ∀ level, r.FitsContact level → r'.FitsContact level) :
    DoorsBut l i (s.setDoor d (some r')) :=
  h.replaceDoor found (fun _ mem _ => mem) config ok ((h.contact d r found).imp_right (fits _))

/-! ### The passages at the doors -/

theorem State.setDoor_doors (s : State) (d : DoorId) (x : Option Door) (e : DoorId) :
    (s.setDoor d x).drc.doors.get e = if d = e then x else s.drc.doors.get e := Table.get_set _ _ _ _

/-- Only a RELEASED door has a passage. -/
theorem PassagesOk.none_of_not_released (h : PassagesOk s) {d : DoorId}
    (notReleased : ∀ r, s.drc.doors.get d = some r → r.state ≠ .released) : s.passageAt d = none := by
  rw [State.passageAt_none]
  rintro p mem rfl
  obtain ⟨r, found, released, -⟩ := h.released p mem
  exact notReleased r found released

theorem PassagesOk.same (h : PassagesOk s) (passages : t.pev.passages = s.pev.passages)
    (saved : t.savedPunches = s.savedPunches)
    (doors : ∀ p ∈ s.pev.passages, t.drc.doors.get p.door = s.drc.doors.get p.door) : PassagesOk t := by
  obtain ⟨fits, releasing⟩ := (passagesOk_iff s).mp h
  refine (passagesOk_iff t).mpr ⟨fits.congr passages saved, fun p mem => ?_⟩
  rw [passages] at mem
  unfold State.Releasing
  rw [doors p mem]
  exact releasing p mem

/-- R68: a door goes on being RELEASED, or had no passage. -/
theorem PassagesOk.setDoor (h : PassagesOk s) {d : DoorId} {x : Option Door}
    (kept : s.passageAt d = none ∨ ∃ r', x = some r' ∧ r'.state = .released ∧ r'.mode ≠ .free ∧ r'.mode ≠ .lockdown) :
    PassagesOk (s.setDoor d x) := by
  obtain ⟨fits, releasing⟩ := (passagesOk_iff s).mp h
  refine (passagesOk_iff _).mpr ⟨fits.congr rfl rfl, fun p mem => ?_⟩
  unfold State.Releasing
  rw [State.setDoor_doors]
  split
  · next same =>
    rcases kept with none | released
    · exact absurd same.symm (State.passageAt_none.mp none p mem)
    · exact released
  · exact releasing p mem

/-- R70: a door whose passage ends may take any state. -/
theorem PassagesOk.setDoor_ends (h : PassagesOk s) (d : DoorId) (x : Option Door) {u : State}
    (ended : PassagesFit (s.setDoor d x) →
      PassagesFit u ∧ u.pev.passages = s.pev.passages.filter fun q => q.door != d)
    (drc : u.drc = (s.setDoor d x).drc) : PassagesOk u := by
  obtain ⟨fits, releasing⟩ := (passagesOk_iff s).mp h
  obtain ⟨after, passages⟩ := ended (fits.congr rfl rfl)
  refine (passagesOk_iff u).mpr ⟨after, fun p mem => ?_⟩
  rw [passages, List.mem_filter] at mem
  unfold State.Releasing
  rw [drc, State.setDoor_doors, if_neg (by rintro rfl; simp at mem)]
  exact releasing p mem.1

theorem PassagesOk.setDoor_commit (h : PassagesOk s) (d : DoorId) (x : Option Door) (free : Bool) :
    PassagesOk ((s.setDoor d x).commitPassage d free) :=
  h.setDoor_ends d x (fun fits => fits.commitPassage d free) (TouchesPassages.commitPassage _ _ _).drc

theorem PassagesOk.setDoor_cancel (h : PassagesOk s) (d : DoorId) (x : Option Door) :
    PassagesOk ((s.setDoor d x).cancelPassage d) :=
  h.setDoor_ends d x (fun fits => fits.cancelPassage d) (TouchesPassages.cancelPassage _ _).drc

end Doors

/-- The doors and the passages at them, an edge of input `i` having still to reach the doors of `l`. -/
structure PlantBut (l : List DoorId) (i : InputId) (s : State) : Prop where
  doors : DoorsBut l i s
  passages : PassagesOk s

section Plant

variable {s t : State} {l l' : List DoorId} {i : InputId} {d : DoorId} {r r' : Door}

theorem PlantBut.done (h : PlantBut [] i s) (j : InputId) : PlantBut [] j s := ⟨h.doors.done j, h.passages⟩

/-- What touches neither the doors nor the passages. -/
theorem PlantBut.congr (h : PlantBut l i s) (drc : t.drc = s.drc) (passages : t.pev.passages = s.pev.passages)
    (saved : t.savedPunches = s.savedPunches) : PlantBut l i t :=
  ⟨h.doors.congr drc, h.passages.same passages saved fun _ _ => by rw [drc]⟩

theorem PlantBut.store (h : PlantBut l i s) (touches : TouchesStore s t) : PlantBut l i t :=
  h.congr touches.drc (by rw [touches.pev]) touches.savedPunches

theorem PlantBut.fireAlarm (h : PlantBut l i s) : PlantBut l i s.fireAlarm := by
  obtain ⟨a, p, fired⟩ := s.fireAlarm_touches
  have pulse : s.fireAlarm.drc.pulseTimer.isSome = true ↔ s.fireAlarm.drc.alarm = .pulsing := by
    unfold State.fireAlarm
    split
    · simp
    · split
      · exact h.doors.pulse
      · simp
  refine ⟨h.doors.of_eq ?_ (fun _ _ => ?_) pulse, h.passages.same ?_ ?_ fun _ _ => ?_⟩
  all_goals rw [fired]
  all_goals rfl

theorem PlantBut.doorBell (h : PlantBut l i s) (d : DoorId) (r : Door) : PlantBut l i (s.doorBell d r) := by
  unfold State.doorBell
  split
  · exact h
  · exact h.congr rfl rfl rfl

/-- R90, R92, R94: a door alarm at a door that had no passage. -/
theorem PlantBut.doorAlarm (h : PlantBut l i s) (found : s.drc.doors.get d = some r) (rest : ∀ e ∈ l, e ≠ d → e ∈ l')
    (config : r'.config = r.config) (ok : DoorOk r') (fits : r'.FitsContact (s.accepted r.config.contact))
    (notReleased : r.state ≠ .released) (event : DoorEvent) : PlantBut l' i (s.doorAlarm d r' event) := by
  have set : PlantBut l' i (s.setDoor d (some r')) := ⟨h.doors.setDoor found rest config ok fits,
    h.passages.setDoor (.inl (h.passages.none_of_not_released fun x isX => by cases found.symm.trans isX; exact notReleased))⟩
  exact ((set.store (.doorReport _ _ _ _ _)).fireAlarm).doorBell d r'

theorem PlantBut.setDoor_commit (h : PlantBut l i s) (found : s.drc.doors.get d = some r)
    (rest : ∀ e ∈ l, e ≠ d → e ∈ l') (config : r'.config = r.config) (ok : DoorOk r')
    (fits : r'.FitsContact (s.accepted r.config.contact)) (free : Bool) :
    PlantBut l' i ((s.setDoor d (some r')).commitPassage d free) :=
  ⟨(h.doors.setDoor found rest config ok fits).congr (TouchesPassages.commitPassage _ _ _).drc,
    h.passages.setDoor_commit d _ free⟩

theorem PlantBut.setDoor_cancel (h : PlantBut l i s) (found : s.drc.doors.get d = some r)
    (rest : ∀ e ∈ l, e ≠ d → e ∈ l') (config : r'.config = r.config) (ok : DoorOk r')
    (fits : r'.FitsContact (s.accepted r.config.contact)) :
    PlantBut l' i ((s.setDoor d (some r')).cancelPassage d) :=
  ⟨(h.doors.setDoor found rest config ok fits).congr (TouchesPassages.cancelPassage _ _).drc,
    h.passages.setDoor_cancel d _⟩

theorem PlantBut.setDoor (h : PlantBut l i s) (found : s.drc.doors.get d = some r) (rest : ∀ e ∈ l, e ≠ d → e ∈ l')
    (config : r'.config = r.config) (ok : DoorOk r') (fits : r'.FitsContact (s.accepted r.config.contact))
    (released : r.state = .released → r'.state = .released ∧ r'.mode ≠ .free ∧ r'.mode ≠ .lockdown) :
    PlantBut l' i (s.setDoor d (some r')) := by
  refine ⟨h.doors.setDoor found rest config ok fits, h.passages.setDoor ?_⟩
  by_cases isReleased : r.state = .released
  · exact .inr ⟨r', rfl, released isReleased⟩
  · exact .inl (h.passages.none_of_not_released fun x isX => by cases found.symm.trans isX; exact isReleased)

/-- A door that already stands as its contact says. -/
theorem PlantBut.reached (h : PlantBut (d :: l) i s) (fits : ∀ r, s.drc.doors.get d = some r → r.config.contact = i →
    r.FitsContact (s.accepted i)) : PlantBut l i s := by
  refine ⟨⟨h.doors.ok, fun e x isX => ?_, h.doors.inputs, h.doors.pulse⟩, h.passages⟩
  rcases h.doors.contact e x isX with ⟨mem, contact⟩ | already
  · rcases List.mem_cons.mp mem with rfl | later
    · right
      rw [contact]
      exact fits x isX contact
    · exact .inl ⟨later, contact⟩
  · exact .inr already

/-! ### Edges -/

theorem mem_of_mem_cons {d : DoorId} {l : List DoorId} : ∀ e ∈ d :: l, e ≠ d → e ∈ l := fun _ mem other =>
  (List.mem_cons.mp mem).resolve_left other

/-- R90: the contact of a swing door opens. -/
theorem PlantBut.contactOpens (h : PlantBut (d :: l) i s) (found : s.drc.doors.get d = some r)
    (swing : r.config.kind = .swing) (level : s.accepted r.config.contact = true)
    (stays : r.FitsContact true → PlantBut l i s) : PlantBut l i (s.contactOpens d r) := by
  have ok := h.doors.ok d r found
  unfold State.contactOpens
  split
  · next released =>
    exact h.setDoor_commit (r' := { r with state := .opened, releaseTimer := none, heldTimer := r.config.fullHeld }) found
      mem_of_mem_cons rfl (ok.opened (ok.mode_ne_free (by rw [released]; decide)) swing) (fun _ _ => by simp [level]) false
  · next secure =>
    exact h.doorAlarm (r' := { r with state := .forced }) found mem_of_mem_cons rfl (ok.forced secure swing)
      (fun _ _ => by simp [level]) (by rw [secure]; decide) _
  · next notReleased notSecure =>
    refine stays fun _ notFree => ?_
    cases state : r.state with
    | opened | held | forced => simp
    | secure => exact absurd state notSecure
    | released => exact absurd state notReleased
    | free => exact absurd (ok.free.mpr state) notFree

/-- R92: the contact of a swing door closes. -/
theorem PlantBut.contactCloses (h : PlantBut (d :: l) i s) (found : s.drc.doors.get d = some r)
    (level : s.accepted r.config.contact = false) (stays : r.FitsContact false → PlantBut l i s) :
    PlantBut l i (s.contactCloses d r) := by
  have ok := h.doors.ok d r found
  have closes (notReleased : r.state ≠ .released) (notFree : r.state ≠ .free) :
      PlantBut l i (s.setDoor d (some { r with state := .secure, heldTimer := none })) :=
    h.setDoor (r' := { r with state := .secure, heldTimer := none }) found mem_of_mem_cons rfl
      (ok.closed (ok.mode_ne_free notFree) notReleased) (fun _ _ => by simp [level])
      fun released => absurd released notReleased
  unfold State.contactCloses
  dsimp only
  split
  · next opened => exact closes (by rw [opened]; decide) (by rw [opened]; decide)
  · next held => exact (closes (by rw [held]; decide) (by rw [held]; decide)).store (.doorReport _ _ _ _ _)
  · next forced => exact (closes (by rw [forced]; decide) (by rw [forced]; decide)).store (.doorReport _ _ _ _ _)
  · next notOpened notHeld notForced => 
    exact stays fun _ _ => ⟨fun high => absurd high (by decide), fun state =>
      (state.elim notOpened fun state => state.elim notHeld notForced).elim⟩

/-- R94: a rotation pulse of a turnstile. -/
theorem PlantBut.rotationPulse (h : PlantBut (d :: l) i s) (found : s.drc.doors.get d = some r)
    (turnstile : r.config.kind = .turnstile) (stays : PlantBut l i s) : PlantBut l i (s.rotationPulse d r) := by
  have ok := h.doors.ok d r found
  have notSwing : r.config.kind ≠ .swing := by rw [turnstile]; decide
  unfold State.rotationPulse
  split
  · next released =>
    exact h.setDoor_commit (r' := { r with state := .secure, releaseTimer := none }) found mem_of_mem_cons rfl
      (ok.passed released) (fun swing => absurd swing notSwing) false
  · next secure =>
    exact h.doorAlarm (r' := r) found mem_of_mem_cons rfl ok (fun swing => absurd swing notSwing)
      (by rw [secure]; decide) _
  · exact stays

/-- R80: the edge of a contact reaches its door. -/
theorem PlantBut.contactEdge (h : PlantBut (d :: l) i s) (names : ∀ r, s.drc.doors.get d = some r → r.config.contact = i)
    {active : Bool} (level : s.accepted i = active) : PlantBut l i (s.contactEdge d active) := by
  unfold State.contactEdge
  split
  · next unconfigured => exact h.reached fun r found => absurd (unconfigured.symm.trans found) (by simp)
  · next r found =>
    have isLevel : s.accepted r.config.contact = active := by rw [names r found]; exact level
    have stays : r.FitsContact active → PlantBut l i s := fun fits => h.reached fun x isX _ => by
      cases found.symm.trans isX
      rw [level]
      exact fits
    split
    · next swing => exact h.contactOpens found swing isLevel stays
    · exact h.contactCloses found isLevel stays
    · next turnstile =>
      exact h.rotationPulse found turnstile (stays fun swing => absurd (swing.symm.trans turnstile) (by decide))
    · next turnstile => exact stays fun swing => absurd (swing.symm.trans turnstile) (by decide)

/-- R88: a door that is SECURE or RELEASED is released. -/
theorem PlantBut.releaseDoor (h : PlantBut l i s) (may : ∀ r, s.drc.doors.get d = some r →
    (r.state = .secure ∨ r.state = .released) ∧ r.mode ≠ .lockdown) : PlantBut l i (s.releaseDoor d) := by
  unfold State.releaseDoor
  split
  · exact h
  · next r found =>
    obtain ⟨before, notLockdown⟩ := may r found
    have ok := h.doors.ok d r found
    have notFree : r.mode ≠ .free := ok.mode_ne_free (by rcases before with h | h <;> rw [h] <;> decide)
    refine ⟨h.doors.setState found rfl (ok.released before notLockdown _) fun _ fits => ?_, h.passages.setDoor
      (.inr ⟨_, rfl, rfl, notFree, notLockdown⟩)⟩
    intro swing _
    rcases before with state | state <;> simpa [state] using fits swing notFree

/-- R89, R93: a press of the exit button. -/
theorem PlantBut.pressButton (h : PlantBut l i s) (d : DoorId) : PlantBut l i (s.pressButton d) := by
  unfold State.pressButton
  split
  · exact h
  · next r found =>
    split
    · exact h
    · next notLockdown =>
      split
      · next before =>
        exact h.releaseDoor fun x isX => by cases found.symm.trans isX; exact ⟨before, notLockdown⟩
      · exact h

/-- R80: an edge of an input reaches a door. -/
theorem PlantBut.doorEdge (h : PlantBut (d :: l) i s) {active : Bool} (level : s.accepted i = active) :
    PlantBut l i (s.doorEdge i active d) := by
  have unnamed (notContact : ∀ r, s.drc.doors.get d = some r → r.config.contact ≠ i) : PlantBut l i s :=
    h.reached fun r found contact => absurd contact (notContact r found)
  have named (uses : s.usesInput i d = true) (r : Door) (found : s.drc.doors.get d = some r) :
      r.config.contact = i ∨ r.config.button = some i := by
    unfold State.usesInput at uses
    rw [found] at uses
    simpa using uses
  unfold State.doorEdge
  split
  · next uses =>
    split
    · next low =>
      refine h.contactEdge (fun r found => (named uses r found).resolve_right fun button => ?_) level
      have := ((h.doors.ok d r found).button i button).1
      omega
    · next high =>
      have others := unnamed fun r found contact => high (contact ▸ (h.doors.ok d r found).contact)
      split
      · exact others.pressButton d
      · exact others
  · next unused =>
    refine unnamed fun r found contact => unused ?_
    unfold State.usesInput
    rw [found]
    simp [contact]

end Plant

end Sys2Proof.Machine
end

section
/-!
PROOFS. The doors through the whole part: the passages at them, and the effective mode of each (R86), which is resolved afresh
wherever something it depends on changes. The obligation O55.
-/

namespace Sys2Proof.Machine

open Sys2Proof

/-! ### The rules of the effective mode -/

/-- The doors of `m` have still to be resolved. -/
def ModesBut (m : List DoorId) (s : State) : Prop := s.tbu.supply ≠ .low → ∀ d r, s.drc.doors.get d = some r →
  d ∈ m ∨ r.mode = s.resolveMode r.config r.override

/-- R84 to R86: what an effective mode depends on beside the door. -/
structure SameRules (s t : State) : Prop where
  supply : t.tbu.supply = s.tbu.supply
  evacuation : t.accepted evacuationInput = s.accepted evacuationInput
  valid : t.tbu.calendarValid = s.tbu.calendarValid
  minute : t.minute = s.minute
  schedules : t.drc.schedules = s.drc.schedules

section Modes

variable {s t u : State} {m : List DoorId} {d : DoorId} {r : Door}

theorem SameRules.resolveMode (h : SameRules s t) (c : DoorConfig) (o : Override) :
    t.resolveMode c o = s.resolveMode c o := by
  unfold State.resolveMode State.scheduleMode
  rw [h.supply, h.evacuation, h.valid, h.minute, h.schedules]

theorem SameRules.of_eq (tbu : t.tbu = s.tbu) (inputs : t.drc.inputs = s.drc.inputs)
    (schedules : t.drc.schedules = s.drc.schedules) : SameRules s t where
  supply := by rw [tbu]
  evacuation := by unfold State.accepted; rw [inputs]
  valid := by rw [tbu]
  minute := by unfold State.minute; rw [tbu]
  schedules := schedules

theorem TouchesDoors.sameRules (h : TouchesDoors s t) : SameRules s t := .of_eq h.tbu h.inputs h.schedules

/-- Changes that leave the rules, and the configuration, the override and the mode of every door. -/
structure SameModes (s t : State) : Prop where
  tbu : t.tbu = s.tbu
  inputs : t.drc.inputs = s.drc.inputs
  schedules : t.drc.schedules = s.drc.schedules
  doors : ∀ d r', t.drc.doors.get d = some r' → ∃ r, s.drc.doors.get d = some r ∧ r'.config = r.config
    ∧ r'.override = r.override ∧ r'.mode = r.mode

theorem SameModes.rules (h : SameModes s t) : SameRules s t := .of_eq h.tbu h.inputs h.schedules

theorem SameModes.accepted (h : SameModes s t) (i : InputId) : t.accepted i = s.accepted i := by
  unfold State.accepted
  rw [h.inputs]

theorem ModesBut.same (h : ModesBut m s) (rules : SameRules s t) (doors : ∀ d r', t.drc.doors.get d = some r' →
    ∃ r, s.drc.doors.get d = some r ∧ r'.config = r.config ∧ r'.override = r.override ∧ r'.mode = r.mode) :
    ModesBut m t := by
  intro notLow d r' found
  obtain ⟨r, before, config, override, mode⟩ := doors d r' found
  rw [rules.resolveMode, config, override, mode]
  exact h (rules.supply ▸ notLow) d r before

theorem ModesBut.congr (h : ModesBut m s) (rules : SameRules s t) (doors : t.drc.doors = s.drc.doors) : ModesBut m t :=
  h.same rules fun _ r found => ⟨r, doors ▸ found, rfl, rfl, rfl⟩

theorem ModesBut.sameModes (h : ModesBut m s) (same : SameModes s t) : ModesBut m t := h.same same.rules same.doors

theorem ModesBut.all (s : State) : ModesBut (List.finRange 16) s := fun _ _ _ _ => .inl (List.mem_finRange _)

theorem ModesBut.withGlc (h : ModesBut m s) (g : Glc) : ModesBut m (s.withGlc g) :=
  h.congr (t := s.withGlc g) (.of_eq rfl rfl rfl) rfl

theorem ModesBut.of_low (low : s.tbu.supply = .low) : ModesBut m s := fun notLow => absurd low notLow

theorem ModesBut.setDoor (h : ModesBut m s) {m' : List DoorId} (rest : ∀ e ∈ m, e ≠ d → e ∈ m') {x : Option Door}
    (mode : ∀ r, x = some r → d ∈ m' ∨ r.mode = s.resolveMode r.config r.override) : ModesBut m' (s.setDoor d x) := by
  intro notLow e r found
  have rules : SameRules s (s.setDoor d x) := (TouchesDoors.setDoor s d x).sameRules
  rw [rules.resolveMode]
  rw [State.setDoor_doors] at found
  split at found
  · next same => exact same ▸ mode r found
  · next other => exact (h notLow e r found).imp_left fun mem => rest e mem (Ne.symm other)

/-! ### What keeps the modes -/

theorem SameModes.refl (s : State) : SameModes s s := ⟨rfl, rfl, rfl, fun _ r found => ⟨r, found, rfl, rfl, rfl⟩⟩

theorem SameModes.trans (h : SameModes s t) (h' : SameModes t u) : SameModes s u := by
  refine ⟨h'.tbu.trans h.tbu, h'.inputs.trans h.inputs, h'.schedules.trans h.schedules, fun d z found => ?_⟩
  obtain ⟨y, foundY, configY, overrideY, modeY⟩ := h'.doors d z found
  obtain ⟨x, foundX, configX, overrideX, modeX⟩ := h.doors d y foundY
  exact ⟨x, foundX, configY.trans configX, overrideY.trans overrideX, modeY.trans modeX⟩

theorem SameModes.of_drc (tbu : t.tbu = s.tbu) (drc : t.drc = s.drc) : SameModes s t := by
  refine ⟨tbu, by rw [drc], by rw [drc], ?_⟩
  rw [drc]
  exact (SameModes.refl s).doors

theorem TouchesStore.sameModes (h : TouchesStore s t) : SameModes s t := .of_drc h.tbu h.drc

theorem TouchesPassages.sameModes (h : TouchesPassages s t) : SameModes s t := .of_drc h.doors.tbu h.drc

theorem SameModes.fireAlarm (s : State) : SameModes s s.fireAlarm := by
  obtain ⟨a, p, fired⟩ := s.fireAlarm_touches
  rw [fired]
  exact ⟨rfl, rfl, rfl, (SameModes.refl s).doors⟩

theorem SameModes.doorBell (s : State) (d : DoorId) (r : Door) : SameModes s (s.doorBell d r) := by
  unfold State.doorBell
  split
  · exact .refl s
  · exact .of_drc rfl rfl

theorem SameModes.setDoor {r' : Door} (found : s.drc.doors.get d = some r) (config : r'.config = r.config)
    (override : r'.override = r.override) (mode : r'.mode = r.mode) : SameModes s (s.setDoor d (some r')) := by
  refine ⟨rfl, rfl, rfl, fun e x isX => ?_⟩
  rw [State.setDoor_doors] at isX
  split at isX
  · next same => cases isX; exact ⟨r, same ▸ found, config, override, mode⟩
  · exact ⟨x, isX, rfl, rfl, rfl⟩

theorem SameModes.doorAlarm {r' : Door} (found : s.drc.doors.get d = some r) (config : r'.config = r.config)
    (override : r'.override = r.override) (mode : r'.mode = r.mode) (event : DoorEvent) :
    SameModes s (s.doorAlarm d r' event) :=
  (((SameModes.setDoor found config override mode).trans (TouchesStore.doorReport _ _ _ _ _).sameModes).trans
    (.fireAlarm _)).trans (.doorBell _ _ _)

theorem SameModes.setDoor_commit {r' : Door} (found : s.drc.doors.get d = some r) (config : r'.config = r.config)
    (override : r'.override = r.override) (mode : r'.mode = r.mode) (free : Bool) :
    SameModes s ((s.setDoor d (some r')).commitPassage d free) :=
  (SameModes.setDoor found config override mode).trans (TouchesPassages.commitPassage _ _ _).sameModes

theorem SameModes.contactEdge (s : State) (d : DoorId) (active : Bool) : SameModes s (s.contactEdge d active) := by
  unfold State.contactEdge
  split
  · exact .refl s
  · next r found =>
    have closes : SameModes s (s.setDoor d (some { r with state := .secure, heldTimer := none })) :=
      .setDoor found rfl rfl rfl
    split
    · unfold State.contactOpens
      split
      · exact .setDoor_commit
          (r' := { r with state := .opened, releaseTimer := none, heldTimer := r.config.fullHeld }) found rfl rfl rfl _
      · exact .doorAlarm (r' := { r with state := .forced }) found rfl rfl rfl _
      · exact .refl s
    · unfold State.contactCloses
      dsimp only
      split
      · exact closes
      · exact closes.trans (TouchesStore.doorReport _ _ _ _ _).sameModes
      · exact closes.trans (TouchesStore.doorReport _ _ _ _ _).sameModes
      · exact .refl s
    · unfold State.rotationPulse
      split
      · exact .setDoor_commit (r' := { r with state := .secure, releaseTimer := none }) found rfl rfl rfl _
      · exact .doorAlarm (r' := r) found rfl rfl rfl _
      · exact .refl s
    · exact .refl s

theorem SameModes.releaseDoor (s : State) (d : DoorId) : SameModes s (s.releaseDoor d) := by
  unfold State.releaseDoor
  split
  · exact .refl s
  · next r found => exact .setDoor found rfl rfl rfl

theorem SameModes.pressButton (s : State) (d : DoorId) : SameModes s (s.pressButton d) := by
  unfold State.pressButton
  split
  · exact .refl s
  · split
    · exact .refl s
    · split
      · exact .releaseDoor s d
      · exact .refl s

theorem SameModes.doorEdge (i : InputId) (active : Bool) (s : State) (d : DoorId) :
    SameModes s (s.doorEdge i active d) := by
  unfold State.doorEdge
  split
  · split
    · exact .contactEdge s d active
    · split
      · exact .pressButton s d
      · exact .refl s
  · exact .refl s

theorem SameModes.foldl {α : Type} {act : State → α → State} (each : ∀ s a, SameModes s (act s a)) (l : List α)
    (s : State) : SameModes s (l.foldl act s) := by
  induction l generalizing s with
  | nil => exact .refl s
  | cons a rest ih => exact (each s a).trans (ih _)

/-! ### Resolutions -/

/-- R95 to R97: what a change of the mode leaves of the door. -/
theorem State.changeMode_doors (s : State) (d : DoorId) (r : Door) (mode : DoorMode) : ∃ x,
    (s.changeMode d r mode).drc = (s.setDoor d (some x)).drc ∧ x.config = r.config ∧ x.override = r.override
      ∧ x.mode = mode := by
  unfold State.changeMode
  split
  · next free => exact ⟨_, (TouchesPassages.commitPassage _ _ _).drc, rfl, rfl, free.symm⟩
  · have left : ∀ x : Door, (x = if r.mode = .free then r.leaveFree mode (s.accepted r.config.contact)
        else { r with mode := mode }) → x.config = r.config ∧ x.override = r.override ∧ x.mode = mode := by
      rintro x rfl
      split
      · unfold Door.leaveFree
        simp
      · exact ⟨rfl, rfl, rfl⟩
    dsimp only
    generalize isX : (if r.mode = .free then r.leaveFree mode (s.accepted r.config.contact)
      else { r with mode := mode }) = x
    obtain ⟨config, override, isMode⟩ := left x isX.symm
    split
    · split
      · refine ⟨x.enterLockdown, (TouchesPassages.cancelPassage _ _).drc, ?_⟩
        unfold Door.enterLockdown
        split
        · exact ⟨config, override, isMode⟩
        · exact ⟨config, override, isMode⟩
      · exact ⟨x, rfl, config, override, isMode⟩
    · exact ⟨x, rfl, config, override, isMode⟩

/-- R86: after its resolution a door has the mode that it gives. -/
theorem ModesBut.resolveDoor (h : ModesBut (d :: m) s) : ModesBut m (s.resolveDoor d) := by
  unfold State.resolveDoor
  split
  · next unconfigured =>
    intro notLow e r found
    refine (h notLow e r found).imp_left fun mem => (List.mem_cons.mp mem).resolve_left ?_
    rintro rfl
    simp [unconfigured] at found
  · next r found =>
    dsimp only
    split
    · next same =>
      intro notLow e x isX
      rcases h notLow e x isX with mem | resolved
      · rcases List.mem_cons.mp mem with rfl | later
        · cases found.symm.trans isX
          exact .inr same.symm
        · exact .inl later
      · exact .inr resolved
    · obtain ⟨x, drc, config, override, mode⟩ := s.changeMode_doors d r (s.resolveMode r.config r.override)
      have set : ModesBut m (s.setDoor d (some x)) := h.setDoor mem_of_mem_cons fun y isY => by
        cases isY
        rw [mode, config, override]
        exact .inr rfl
      have touches := TouchesDoors.changeMode s d r (s.resolveMode r.config r.override)
      refine set.congr (.of_eq touches.tbu ?_ ?_) ?_
      all_goals rw [drc]

theorem ModesBut.foldl_resolveDoor (l : List DoorId) (h : ModesBut l s) : ModesBut [] (l.foldl State.resolveDoor s) := by
  induction l generalizing s with
  | nil => exact h
  | cons d rest ih => exact ih h.resolveDoor

theorem ModesBut.resolveAll (s : State) : ModesBut [] s.resolveAll := (ModesBut.all s).foldl_resolveDoor _

/-! ### Minute boundary events and boundaries -/

/-- R12, R86: after a minute boundary event every door has its mode. -/
theorem ModesBut.minuteEvent (s : State) (e : MinuteEvent) : ModesBut [] (s.minuteEvent e) := by
  by_cases low : s.tbu.supply = .low
  · exact .of_low (by rw [s.minuteEvent_tbu]; exact low)
  · rw [State.minuteEvent_of_not_low low]
    generalize (s.withTbu (s.tbu.minuteEvent e)).bellMinute e = b
    obtain ⟨n, same | same⟩ := b.payAndDoors_cases e.minute
    · rw [same]
      exact (ModesBut.resolveAll _).withGlc _
    · rw [same]
      have resolved := ModesBut.resolveAll (b.withDraws n)
      have walk := TouchesBadges.autoClose (b.withDraws n).resolveAll e.minute
      exact (resolved.congr walk.doors.sameRules (by rw [walk.drc])).withGlc _

/-- R12: a second that ends without a minute boundary event leaves the minute and its validity. -/
theorem Tbu.advance_noEvent {t : Tbu} (noEvent : t.advance.event = none) :
    plantMinute t.advance.tbu.calendar = plantMinute t.calendar ∧ t.advance.tbu.calendarValid = t.calendarValid := by
  unfold Tbu.advance at noEvent ⊢
  cases held : t.pendingTime with
  | some new => simp [held, Tbu.applyTime] at noEvent
  | none =>
    rw [held] at noEvent
    by_cases last : Config.lastReading ≤ t.calendar
    · simp [last, Tbu.expire] at noEvent
    · simp only [last, if_false] at noEvent ⊢
      refine ⟨?_, trivial⟩
      split at noEvent
      · cases noEvent
      · unfold plantMinute
        omega

theorem SameRules.withTbu {x : Tbu} (supply : x.supply = s.tbu.supply) (valid : x.calendarValid = s.tbu.calendarValid)
    (minute : plantMinute x.calendar = plantMinute s.tbu.calendar) : SameRules s (s.withTbu x) :=
  ⟨supply, rfl, valid, minute, rfl⟩

theorem SameRules.boundary (noEvent : s.tbu.advance.event = none) : SameRules s (s.withTbu s.tbu.boundary) := by
  obtain ⟨minute, valid⟩ := Tbu.advance_noEvent noEvent
  have boundary := s.tbu.boundary_eq
  refine .withTbu ?_ ?_ ?_
  · rw [boundary]
  · rw [boundary]; exact valid
  · rw [boundary]; exact minute

end Modes

/-! ### Doors through the operations of the part -/

section Plant

variable {s t : State} {l : List DoorId} {i : InputId} {d : DoorId} {r : Door}

theorem PlantBut.withTbu (h : PlantBut l i s) (x : Tbu) : PlantBut l i (s.withTbu x) :=
  h.congr (t := s.withTbu x) rfl rfl rfl
theorem PlantBut.withGlc (h : PlantBut l i s) (x : Glc) : PlantBut l i (s.withGlc x) :=
  h.congr (t := s.withGlc x) rfl rfl rfl
theorem PlantBut.withBlc (h : PlantBut l i s) (x : Blc) : PlantBut l i (s.withBlc x) :=
  h.congr (t := s.withBlc x) rfl rfl rfl
theorem PlantBut.withOlc (h : PlantBut l i s) (x : Olc) : PlantBut l i (s.withOlc x) :=
  h.congr (t := s.withOlc x) rfl rfl rfl
theorem PlantBut.withDraws (h : PlantBut l i s) (n : Nat) : PlantBut l i (s.withDraws n) :=
  h.congr (t := s.withDraws n) rfl rfl rfl

theorem PlantBut.cancelPassage (h : PlantBut l i s) (d : DoorId) : PlantBut l i (s.cancelPassage d) := by
  refine ⟨h.doors.congr (TouchesPassages.cancelPassage _ _).drc, ?_⟩
  obtain ⟨fits, releasing⟩ := (passagesOk_iff s).mp h.passages
  obtain ⟨after, passages⟩ := fits.cancelPassage d
  refine (passagesOk_iff _).mpr ⟨after, fun p mem => ?_⟩
  rw [passages] at mem
  unfold State.Releasing
  rw [(TouchesPassages.cancelPassage s d).drc]
  exact releasing p (List.mem_filter.mp mem).1

/-- R95 to R97: a change of a door's mode. -/
theorem PlantBut.changeMode (h : PlantBut [] i s) (found : s.drc.doors.get d = some r) (mode : DoorMode) :
    PlantBut [] i (s.changeMode d r mode) := by
  have ok := h.doors.ok d r found
  have fits : r.FitsContact (s.accepted r.config.contact) :=
    (h.doors.contact d r found).resolve_left fun ⟨mem, _⟩ => List.not_mem_nil mem
  have rest : ∀ e ∈ ([] : List DoorId), e ≠ d → e ∈ ([] : List DoorId) := fun _ mem _ => mem
  unfold State.changeMode
  split
  · exact h.setDoor_commit (r' := { r with mode := .free, state := .free, releaseTimer := none, heldTimer := none }) found
      rest rfl ok.freed (fun _ notFree => absurd rfl notFree) true
  · next stays =>
    dsimp only
    by_cases free : r.mode = .free
    · -- the door leaves FREE, in which it had no passage
      have closed := Door.closedState_ok (r := { r with mode := mode }) ok.config stays (s.accepted r.config.contact)
      have notReleased : (r.leaveFree mode (s.accepted r.config.contact)).state ≠ .released :=
        Door.closedState_state { r with mode := mode } (s.accepted r.config.contact)
      have set : PlantBut [] i (s.setDoor d (some (r.leaveFree mode (s.accepted r.config.contact)))) :=
        h.setDoor found rest (Door.closedState_config _ _) closed.1 closed.2 fun released =>
          absurd ((ok.free.mp free).symm.trans released) (by decide)
      rw [if_pos free, if_neg notReleased]
      split
      · exact set
      · exact set
    · have fitsAfter : Door.FitsContact { r with mode := mode } (s.accepted r.config.contact) := fun swing _ =>
        fits swing free
      rw [if_neg free]
      split
      · next lockdown =>
        split
        · next released =>
          have locked : Door.enterLockdown { r with mode := mode } =
              { r with mode := mode, state := .secure, releaseTimer := none } := if_pos released
          rw [locked]
          refine h.setDoor_cancel (r' := { r with mode := mode, state := .secure, releaseTimer := none }) found rest rfl
            ((DoorOk.passed ok released).withMode free stays fun _ => by simp) fun swing _ => ?_
          have state : r.state = .released := released
          simpa [state] using fits swing free
        · next notReleased =>
          exact h.setDoor (r' := { r with mode := mode }) found rest rfl (ok.withMode free stays fun _ => notReleased)
            fitsAfter fun released => absurd released notReleased
      · next notLockdown =>
        exact h.setDoor (r' := { r with mode := mode }) found rest rfl
          (ok.withMode free stays fun lockdown => absurd lockdown notLockdown) fitsAfter
          fun released => ⟨released, stays, notLockdown⟩

theorem PlantBut.resolveDoor (h : PlantBut [] i s) (d : DoorId) : PlantBut [] i (s.resolveDoor d) := by
  unfold State.resolveDoor
  split
  · exact h
  · next r found =>
    dsimp only
    split
    · exact h
    · exact h.changeMode found _

theorem PlantBut.resolveAll (h : PlantBut [] i s) : PlantBut [] i s.resolveAll :=
  foldl_keeps (P := PlantBut [] i) (fun d h => h.resolveDoor d) _ h

theorem PlantBut.foldl_doorEdge (l : List DoorId) {active : Bool} (h : PlantBut l i s) (level : s.accepted i = active) :
    PlantBut [] i (l.foldl (State.doorEdge i active) s) := by
  induction l generalizing s with
  | nil => exact h
  | cons d rest ih =>
    rw [List.foldl_cons]
    exact ih (h.doorEdge level) (((SameModes.doorEdge i active s d).accepted i).trans level)

/-- A change of one input that leaves its accepted level, or of the evacuation input, which no door names. -/
theorem PlantBut.setInput (h : PlantBut l i s) (j : InputId) (x : Input)
    (same : j.val < 16 → x.accepted = s.accepted j) : PlantBut l i (s.setInput j x) := by
  refine ⟨h.doors.of_eq rfl (fun k low => ?_) h.doors.pulse, h.passages.same rfl rfl fun _ _ => rfl⟩
  change ((s.drc.inputs.set j x).get k).accepted = _
  rw [Table.get_set]
  split
  · next own => rw [← own] at low ⊢; exact same low
  · rfl

/-- A new accepted level has still to reach the doors. -/
theorem PlantBut.newLevel (h : PlantBut [] i s) (j : InputId) (x : Input) :
    PlantBut (List.finRange 16) j (s.setInput j x) := by
  refine ⟨⟨h.doors.ok, fun d r found => ?_, h.doors.inputs, h.doors.pulse⟩, h.passages.same rfl rfl fun _ _ => rfl⟩
  by_cases names : r.config.contact = j
  · exact .inl ⟨List.mem_finRange d, names⟩
  · right
    have level : (s.setInput j x).accepted r.config.contact = s.accepted r.config.contact := by
      change ((s.drc.inputs.set j x).get _).accepted = _
      rw [Table.get_set, if_neg (Ne.symm names)]
      rfl
    rw [level]
    exact (h.doors.contact d r found).resolve_left fun ⟨mem, _⟩ => List.not_mem_nil mem

/-- R80: an accepted level and its edge. -/
theorem PlantBut.edge (h : PlantBut [] i s) (j : InputId) (x : Input) :
    PlantBut [] i ((s.setInput j x).inputEvent j x.accepted) := by
  unfold State.inputEvent
  split
  · next evacuation =>
    have set : PlantBut [] i (s.setInput j x) := h.setInput j x fun low => by
      rw [evacuation] at low
      exact absurd low (by decide)
    unfold State.evacuationEdge
    dsimp only
    split
    · exact set.resolveAll.withBlc _
    · exact set.resolveAll.withBlc _
  · refine ((h.newLevel j x).foldl_doorEdge _ ?_).done i
    change ((s.drc.inputs.set j x).get j).accepted = _
    rw [Table.get_set_self]

end Plant

end Sys2Proof.Machine
end

section
/-!
PROOFS. The doors through minute boundary events, changes of the supply, restarts, punches and commands: the obligation O55.
-/

namespace Sys2Proof.Machine

open Sys2Proof

section Plant

variable {s t : State} {l : List DoorId} {i : InputId} {d : DoorId} {r : Door}

/-! ### Minute boundary events and changes of the supply -/

/-- What keeps the doors, their levels, and the alarm with its timer. -/
theorem PlantBut.withDrc (h : PlantBut l i s) {x : Drc} (doors : x.doors = s.drc.doors)
    (accepted : ∀ j, (x.inputs.get j).accepted = s.accepted j) (pulse : x.pulseTimer.isSome = true ↔ x.alarm = .pulsing) :
    PlantBut l i (s.withDrc x) :=
  ⟨h.doors.of_eq (t := s.withDrc x) doors (fun j _ => accepted j) pulse,
    h.passages.same (t := s.withDrc x) rfl rfl fun _ _ => congrArg (fun t => Table.get t _) doors⟩

theorem PlantBut.autoClose (h : PlantBut l i s) (now : Nat) : PlantBut l i (s.autoClose now) :=
  h.congr (TouchesBadges.autoClose s now).drc (by rw [(TouchesBadges.autoClose s now).pev])
    (State.savedPunches_autoCloseFrom now _ s)

theorem PlantBut.payAndDoors (h : PlantBut [] i s) (now : Nat) : PlantBut [] i (s.payAndDoors now) := by
  obtain ⟨n, same | same⟩ := s.payAndDoors_cases now
  · rw [same]
    exact ((h.withDraws n).autoClose now).resolveAll
  · rw [same]
    exact (h.withDraws n).resolveAll.autoClose now

theorem PlantBut.minuteEvent (h : PlantBut [] i s) (e : MinuteEvent) : PlantBut [] i (s.minuteEvent e) := by
  by_cases low : s.tbu.supply = .low
  · rw [State.minuteEvent_of_low low]
    exact h.withTbu _
  · rw [State.minuteEvent_of_not_low low]
    have bells : PlantBut [] i ((s.withTbu (s.tbu.minuteEvent e)).bellMinute e) := by
      unfold State.bellMinute
      split
      · exact (h.withTbu _).withBlc _
      · exact h.withTbu _
    exact (bells.payAndDoors e.minute).withGlc _

theorem PlantBut.enterBattery (h : PlantBut [] i s) : PlantBut [] i s.enterBattery := by
  rw [State.enterBattery_eq]
  have reported : PlantBut [] i s.lossReports := (h.withTbu s.tbu.toBattery).store s.lossReports_touches
  refine (PlantBut.resolveAll (reported.withDrc (x := s.lossReports.drc.startSampling) rfl (fun j => ?_)
    reported.doors.pulse)).withBlc _
  simp [Drc.startSampling, State.accepted]

theorem Input.watch_accepted (x : Input) : x.watch.accepted = x.accepted := by
  unfold Input.watch
  split
  · rfl
  · split <;> rfl

theorem PlantBut.restoreMains (h : PlantBut [] i s) : PlantBut [] i s.restoreMains := by
  rw [State.restoreMains_eq]
  have reported : PlantBut [] i s.returnReports := (h.withTbu s.tbu.toMains).store s.returnReports_touches
  refine PlantBut.resolveAll (reported.withDrc (x := s.returnReports.drc.startWatching) rfl (fun j => ?_)
    reported.doors.pulse)
  simp [Drc.startWatching, State.accepted, Input.watch_accepted]

theorem PlantBut.refreshSource (h : PlantBut l i s) : PlantBut l i s.refreshSource :=
  (h.withTbu s.tbu.refreshSource).store s.refreshSource_touches

theorem PlantBut.quiesce (h : PlantBut l i s) : PlantBut l i s.quiesce := by
  have silent : PlantBut l i ((s.withGlc s.glc.silence).withDrc s.drc.enterLow) :=
    (h.withGlc _).withDrc rfl (fun j => by simp [Drc.enterLow, Drc.stopConditioner, State.accepted])
      (by simp [Drc.enterLow])
  exact (silent.withBlc _).withOlc _

theorem PlantBut.losePower (h : PlantBut l i s) : PlantBut l i s.losePower := by
  unfold State.losePower
  split
  · exact h
  · exact ((h.withTbu s.tbu.losePower).store (.reportSource _ _)).quiesce

/-! ### Restarts -/

/-- The doors without their passages: a warm start works them out afresh. -/
structure DoorsNamed (s : State) : Prop where
  configs : ∀ d r, s.drc.doors.get d = some r → r.config.Fits
  inputs : DistinctInputs s.drc.doors
  passages : s.pev.passages = []
  saved : ∀ e ∈ s.savedPunches, e.2 = false

theorem DoorsNamed.congr (h : DoorsNamed s) (doors : t.drc.doors = s.drc.doors) (passages : t.pev.passages = s.pev.passages)
    (saved : t.savedPunches = s.savedPunches) : DoorsNamed t :=
  ⟨doors ▸ h.configs, doors ▸ h.inputs, passages.trans h.passages, saved ▸ h.saved⟩

theorem DoorsNamed.of_plant (h : PlantBut [] i s) (passages : s.pev.passages = []) : DoorsNamed s := by
  refine ⟨fun d r found => (h.doors.ok d r found).config, h.doors.inputs, passages, fun e mem => ?_⟩
  rw [((passagesOk_iff s).mp h.passages).1.saved e mem, ← Bool.not_eq_true, State.passageOf_isSome, passages]
  simp

/-- R101: every door worked out afresh. -/
theorem DoorsNamed.fresh (h : DoorsNamed s) (off : s.drc.alarm = .off) (stopped : s.drc.pulseTimer = none) :
    PlantBut [] 0 s.freshDoors := by
  have before : ∀ d x, s.freshDoors.drc.doors.get d = some x → ∃ r, s.drc.doors.get d = some r ∧ x = s.freshDoor r := by
    intro d x isX
    change (s.drc.doors.map fun r => r.map s.freshDoor).get d = some x at isX
    rw [Table.get_map, Option.map_eq_some_iff] at isX
    obtain ⟨r, found, rfl⟩ := isX
    exact ⟨r, found, rfl⟩
  have worked : ∀ r : Door, r.config.Fits → DoorOk (s.freshDoor r) ∧
      (s.freshDoor r).FitsContact (s.accepted r.config.contact) := fun r fits => Door.workOut_ok fits _ _
  have config : ∀ r : Door, (s.freshDoor r).config = r.config := fun r => Door.workOut_config _ _ _
  refine ⟨⟨fun d x isX => ?_, fun d x isX => ?_, fun a b xa xb different isA isB => ?_, ?_⟩, ?_⟩
  · obtain ⟨r, found, rfl⟩ := before d x isX
    exact (worked r (h.configs d r found)).1
  · obtain ⟨r, found, rfl⟩ := before d x isX
    rw [config]
    exact .inr (worked r (h.configs d r found)).2
  · obtain ⟨ra, foundA, rfl⟩ := before a xa isA
    obtain ⟨rb, foundB, rfl⟩ := before b xb isB
    rw [config, config]
    exact h.inputs a b ra rb different foundA foundB
  · change s.drc.pulseTimer.isSome = true ↔ s.drc.alarm = .pulsing
    rw [off, stopped]
    simp
  · have none : s.freshDoors.pev.passages = [] := h.passages
    refine (passagesOk_iff _).mpr ⟨⟨?_, ?_, ?_, fun e mem => ?_⟩, ?_⟩
    · simp [none]
    · simp [none]
    · simp [none]
    · rw [h.saved e mem]
      symm
      rw [← Bool.not_eq_true, State.passageOf_isSome, none]
      simp
    · simp [none]

theorem DoorsNamed.warmBlocks (h : DoorsNamed s) : PlantBut [] 0 s.warmBlocks := by
  have fresh : PlantBut [] 0 ((s.withGlc s.glc.warm).withDrc s.drc.warm).freshDoors :=
    DoorsNamed.fresh (h.congr rfl rfl rfl) rfl rfl
  refine fresh.congr ?_ ?_ ?_
  · exact State.warmBells_drc _
  · exact congrArg Pev.passages (State.warmBells_pev _)
  · exact congrArg (fun b : Btb => b.entries.map fun b => (b.number, b.savedPunch.isSome)) (State.warmBells_btb _)

theorem State.cancelPassage_passages (s : State) (fits : PassagesFit s) (d : DoorId) :
    (s.cancelPassage d).pev.passages = s.pev.passages.filter fun q => q.door != d := (fits.cancelPassage d).2

/-- R77: the passages at some doors are cancelled, and those at the others remain. -/
theorem PlantBut.foldl_cancelPassage (l : List DoorId) (h : PlantBut [] i s) :
    PlantBut [] i (l.foldl State.cancelPassage s) ∧
      ∀ p ∈ (l.foldl State.cancelPassage s).pev.passages, p ∈ s.pev.passages ∧ p.door ∉ l := by
  induction l generalizing s with
  | nil => exact ⟨h, fun p mem => ⟨mem, List.not_mem_nil⟩⟩
  | cons d rest ih =>
    rw [List.foldl_cons]
    obtain ⟨plant, remain⟩ := ih (h.cancelPassage d)
    refine ⟨plant, fun p mem => ?_⟩
    obtain ⟨before, notRest⟩ := remain p mem
    rw [s.cancelPassage_passages ((passagesOk_iff s).mp h.passages).1, List.mem_filter] at before
    refine ⟨before.1, fun inList => ?_⟩
    rcases List.mem_cons.mp inList with rfl | inRest
    · simp at before
    · exact notRest inRest

/-- R77: every pending passage is cancelled. -/
theorem PlantBut.cancelAll (h : PlantBut [] i s) : DoorsNamed s.cancelAll := by
  unfold State.cancelAll
  obtain ⟨plant, remain⟩ := h.foldl_cancelPassage (List.finRange 16)
  generalize (List.finRange 16).foldl State.cancelPassage s = u at plant remain
  exact .of_plant plant (List.eq_nil_iff_forall_not_mem.mpr fun p mem => (remain p mem).2 (List.mem_finRange _))

theorem DoorsNamed.clearConflicts (h : DoorsNamed s) : DoorsNamed s.clearConflicts := h.congr rfl rfl rfl

theorem DoorsNamed.withTbu (h : DoorsNamed s) (x : Tbu) : DoorsNamed (s.withTbu x) := h.congr rfl rfl rfl

theorem PlantBut.abandon (h : PlantBut [] i s) : DoorsNamed s.abandon := h.cancelAll.clearConflicts

theorem DoorsNamed.store (h : DoorsNamed s) (touches : TouchesStore s t) : DoorsNamed t :=
  h.congr (by rw [touches.drc]) (by rw [touches.pev]) touches.savedPunches

theorem PlantBut.warmStart (h : PlantBut [] i s) : PlantBut [] 0 s.warmStart := by
  rw [State.warmStart_eq]
  exact ((h.abandon.store (.supplyReport _ _ _)).warmBlocks).minuteEvent _

theorem PlantBut.warmStartFromLow (h : PlantBut [] i s) : PlantBut [] 0 s.warmStartFromLow := by
  rw [State.warmStartFromLow_eq]
  have reports : DoorsNamed s.wakeReports :=
    (h.abandon.withTbu s.tbu.warmFromLow).store s.wakeReports_touches
  exact reports.warmBlocks.minuteEvent _

theorem State.coldStart_plant (s : State) : PlantBut [] 0 s.coldStart := by
  have doors : ∀ d, s.coldStart.drc.doors.get d = none := fun d => by simp [Drc.cold]
  have noDoor : ∀ d r, s.coldStart.drc.doors.get d ≠ some r := fun d r found => by
    rw [doors d] at found
    cases found
  refine ⟨⟨fun d r found => absurd found (noDoor d r), fun d r found => absurd found (noDoor d r),
    fun a _ ra _ _ found => absurd found (noDoor a ra), by simp [Drc.cold]⟩, ?_⟩
  refine (passagesOk_iff _).mpr ⟨⟨?_, ?_, ?_, ?_⟩, ?_⟩
  · simp [Pev.cold]
  · simp [Pev.cold]
  · simp [Pev.cold]
  · simp [State.savedPunches, Btb.cold]
  · simp [Pev.cold]

theorem PlantBut.minuteEvent? (h : PlantBut [] 0 s) (e : Option MinuteEvent) : PlantBut [] 0 (s.minuteEvent? e) := by
  cases e with
  | none => exact h
  | some e => exact h.minuteEvent e

theorem PlantBut.mainsReturn (h : PlantBut [] 0 s) (e : Option MinuteEvent) : PlantBut [] 0 (s.mainsReturn e) := by
  unfold State.mainsReturn
  split
  · exact h.restoreMains.minuteEvent? e
  · split
    · exact h.warmStartFromLow
    · exact s.coldStart_plant
  · exact h.refreshSource.minuteEvent? e

theorem PlantBut.secondBoundary (h : PlantBut [] 0 s) : PlantBut [] 0 s.secondBoundary := by
  have reported := (h.withTbu s.tbu.boundary).store (.timeReport _ s.tbu.advance.report)
  unfold State.secondBoundary
  dsimp only
  split
  · exact (reported.mainsReturn _).withTbu _
  · exact (reported.refreshSource.minuteEvent? _).withTbu _

end Plant

/-! ### The modes through the same -/

section Modes

variable {s t : State} {m : List DoorId}

theorem ModesBut.store (h : ModesBut m s) (touches : TouchesStore s t) : ModesBut m t := h.sameModes touches.sameModes

theorem ModesBut.withTbu (h : ModesBut m s) {x : Tbu} (rules : SameRules s (s.withTbu x)) : ModesBut m (s.withTbu x) :=
  h.congr rules rfl

theorem ModesBut.withBlc (h : ModesBut m s) (x : Blc) : ModesBut m (s.withBlc x) :=
  h.congr (t := s.withBlc x) (.of_eq rfl rfl rfl) rfl

theorem ModesBut.refreshSource (h : ModesBut m s) : ModesBut m s.refreshSource :=
  (h.withTbu (x := s.tbu.refreshSource) (.withTbu rfl rfl rfl)).store s.refreshSource_touches

theorem ModesBut.minuteEvent? (h : ModesBut [] s) (e : Option MinuteEvent) : ModesBut [] (s.minuteEvent? e) := by
  cases e with
  | none => exact h
  | some e => exact .minuteEvent s e

theorem ModesBut.restoreMains (s : State) : ModesBut [] s.restoreMains := by
  rw [State.restoreMains_eq]
  exact .resolveAll _

theorem ModesBut.enterBattery (s : State) : ModesBut [] s.enterBattery := by
  rw [State.enterBattery_eq]
  exact (ModesBut.resolveAll _).withBlc _

theorem ModesBut.coldStart (s : State) : ModesBut [] s.coldStart := fun _ d r found => by simp [Drc.cold] at found

theorem Tbu.startSecond_calendar (t : Tbu) : t.startSecond.calendar = t.calendar ∧
    t.startSecond.calendarValid = t.calendarValid := by
  unfold Tbu.startSecond
  dsimp only
  split
  · exact ⟨rfl, rfl⟩
  · exact ⟨rfl, rfl⟩

/-- R86: the doors through a second boundary. -/
theorem ModesBut.secondBoundary (h : ModesBut [] s) : ModesBut [] s.secondBoundary := by
  have reported : s.tbu.advance.event = none →
      ModesBut [] ((s.withTbu s.tbu.boundary).timeReport s.tbu.advance.report) := fun noEvent =>
    (h.withTbu (.boundary noEvent)).store (.timeReport _ _)
  generalize reports : (s.withTbu s.tbu.boundary).timeReport s.tbu.advance.report = u at reported
  -- without an event the doors stay resolved, and an event resolves them
  have after : ∀ {v : State}, (s.tbu.advance.event = none → ModesBut [] v) →
      ModesBut [] (v.minuteEvent? s.tbu.advance.event) := by
    intro v stays
    cases event : s.tbu.advance.event with
    | none => exact stays event
    | some e => exact .minuteEvent v e
  have next : ∀ {v : State}, ModesBut [] v → ModesBut [] (v.withTbu v.tbu.startSecond) := fun {v} hv =>
    hv.withTbu (.withTbu (Tbu.startSecond_supply _) v.tbu.startSecond_calendar.2
      (by rw [v.tbu.startSecond_calendar.1]))
  unfold State.secondBoundary
  dsimp only
  rw [reports]
  split
  · refine next ?_
    unfold State.mainsReturn
    split
    · exact after fun _ => .restoreMains u
    · split
      · rw [State.warmStartFromLow_eq]
        exact .minuteEvent _ _
      · exact .coldStart u
    · exact after fun noEvent => (reported noEvent).refreshSource
  · exact next (after fun noEvent => (reported noEvent).refreshSource)

end Modes

end Sys2Proof.Machine
end

section
/-!
PROOFS. The condition on doors and passages through every event and every command: the obligation O55.
-/

namespace Sys2Proof.Machine

open Sys2Proof

theorem doorsAndPassagesOk_iff (s : State) : DoorsAndPassagesOk s ↔ PlantBut [] 0 s ∧ ModesBut [] s := by
  have modes : ModesResolved s ↔ ModesBut [] s := by
    refine forall_congr' fun _ => forall_congr' fun d => forall_congr' fun r => forall_congr' fun _ => ?_
    simp
  constructor
  · exact fun h => ⟨⟨(doorsOk_iff s).mp h.doors, h.passages⟩, modes.mp h.modes⟩
  · exact fun ⟨plant, resolved⟩ => ⟨(doorsOk_iff s).mpr plant.doors, modes.mpr resolved, plant.passages⟩

namespace DoorsAndPassagesOk

variable {s t : State} {d : DoorId} {r : Door}

theorem of (plant : PlantBut [] 0 s) (modes : ModesBut [] s) : DoorsAndPassagesOk s :=
  (doorsAndPassagesOk_iff s).mpr ⟨plant, modes⟩

theorem plant (h : DoorsAndPassagesOk s) : PlantBut [] 0 s := ((doorsAndPassagesOk_iff s).mp h).1
theorem resolved (h : DoorsAndPassagesOk s) : ModesBut [] s := ((doorsAndPassagesOk_iff s).mp h).2

theorem sameModes (h : DoorsAndPassagesOk s) (plant : PlantBut [] 0 t) (same : SameModes s t) : DoorsAndPassagesOk t :=
  .of plant (h.resolved.sameModes same)

/-- What touches neither the doors, nor the passages, nor what a mode depends on. -/
theorem congr (h : DoorsAndPassagesOk s) (tbu : t.tbu = s.tbu) (drc : t.drc = s.drc)
    (passages : t.pev.passages = s.pev.passages) (saved : t.savedPunches = s.savedPunches) : DoorsAndPassagesOk t :=
  h.sameModes (h.plant.congr drc passages saved) (.of_drc tbu drc)

theorem store (h : DoorsAndPassagesOk s) (touches : TouchesStore s t) : DoorsAndPassagesOk t :=
  h.congr touches.tbu touches.drc (by rw [touches.pev]) touches.savedPunches

theorem withTbu (h : DoorsAndPassagesOk s) {x : Tbu} (rules : SameRules s (s.withTbu x)) :
    DoorsAndPassagesOk (s.withTbu x) := .of (h.plant.withTbu x) (h.resolved.withTbu rules)

theorem withGlc (h : DoorsAndPassagesOk s) (x : Glc) : DoorsAndPassagesOk (s.withGlc x) :=
  h.congr (t := s.withGlc x) rfl rfl rfl rfl
theorem withBlc (h : DoorsAndPassagesOk s) (x : Blc) : DoorsAndPassagesOk (s.withBlc x) :=
  h.congr (t := s.withBlc x) rfl rfl rfl rfl
theorem withSps (h : DoorsAndPassagesOk s) (x : Sps) : DoorsAndPassagesOk (s.withSps x) :=
  h.congr (t := s.withSps x) rfl rfl rfl rfl
theorem withOlc (h : DoorsAndPassagesOk s) (x : Olc) : DoorsAndPassagesOk (s.withOlc x) :=
  h.congr (t := s.withOlc x) rfl rfl rfl rfl
theorem withDraws (h : DoorsAndPassagesOk s) (n : Nat) : DoorsAndPassagesOk (s.withDraws n) :=
  h.congr (t := s.withDraws n) rfl rfl rfl rfl
theorem withPending (h : DoorsAndPassagesOk s) (q : List Instr) : DoorsAndPassagesOk (s.withPending q) :=
  h.congr (t := s.withPending q) rfl rfl rfl rfl
theorem withPause (h : DoorsAndPassagesOk s) (p : Bool) : DoorsAndPassagesOk (s.withPause p) :=
  h.congr (t := s.withPause p) rfl rfl rfl rfl
theorem withConflictSet (h : DoorsAndPassagesOk s) (c : StationSet) :
    DoorsAndPassagesOk (s.withPev { s.pev with conflictSet := c }) :=
  h.congr (t := s.withPev { s.pev with conflictSet := c }) rfl rfl rfl rfl

theorem settle (h : DoorsAndPassagesOk s) : DoorsAndPassagesOk s.settle :=
  h.congr (by simp) (by simp) (by simp) (by unfold State.savedPunches; simp)

/-! ### The time base and the supply -/

theorem secondBoundary (h : DoorsAndPassagesOk s) : DoorsAndPassagesOk s.secondBoundary :=
  .of h.plant.secondBoundary h.resolved.secondBoundary

theorem secondBoundaries (n : Nat) (h : DoorsAndPassagesOk s) : DoorsAndPassagesOk (s.secondBoundaries n) := by
  induction n generalizing s with
  | zero => exact h
  | succ n ih => exact ih h.secondBoundary

theorem mainsLoss (h : DoorsAndPassagesOk s) : DoorsAndPassagesOk s.mainsLoss := by
  have lost : DoorsAndPassagesOk (if s.tbu.supply = .mains then (s.withTbu s.tbu.lose).enterBattery
      else (s.withTbu s.tbu.lose).refreshSource) := by
    split
    · exact .of (h.plant.withTbu _).enterBattery (.enterBattery _)
    · exact .of (h.plant.withTbu _).refreshSource (h.resolved.withTbu (x := s.tbu.lose) (.withTbu rfl rfl rfl)).refreshSource
  unfold State.mainsLoss
  dsimp only
  split
  · exact lost.secondBoundary
  · exact lost

theorem losePower (h : DoorsAndPassagesOk s) : DoorsAndPassagesOk s.losePower :=
  .of h.plant.losePower (.of_low s.losePower_supply)

theorem outlast (h : DoorsAndPassagesOk s) : DoorsAndPassagesOk s.outlast := by
  have ran := h.secondBoundaries (openOutage s.draws)
  unfold State.outlast
  dsimp only
  generalize s.secondBoundaries (openOutage s.draws) = u at ran ⊢
  have tick : SameRules u (u.withTbu (u.tbu.atOpenTick s.draws)) := by
    refine .withTbu (Tbu.atOpenTick_supply _ _) ?_ ?_
    · unfold Tbu.atOpenTick
      split <;> rfl
    · unfold Tbu.atOpenTick
      split <;> rfl
  exact (ran.withTbu tick).withDraws _

theorem enterLow (h : DoorsAndPassagesOk s) : DoorsAndPassagesOk s.enterLow :=
  .of ((h.plant.withTbu s.tbu.toLow).store (.supplyReport _ _ _)).quiesce (.of_low (by rw [s.enterLow_tbu]; rfl))

theorem warmStart (h : DoorsAndPassagesOk s) : DoorsAndPassagesOk s.warmStart := by
  refine .of h.plant.warmStart ?_
  rw [State.warmStart_eq]
  exact .minuteEvent _ _

/-! ### Inputs and doors -/

theorem setInput (h : DoorsAndPassagesOk s) (i : InputId) {x : Input} (same : x.accepted = s.accepted i) :
    DoorsAndPassagesOk (s.setInput i x) := by
  have accepted : (s.setInput i x).accepted evacuationInput = s.accepted evacuationInput := by
    change ((s.drc.inputs.set i x).get evacuationInput).accepted = _
    rw [Table.get_set]
    split
    · next own => rw [← own]; exact same
    · rfl
  exact .of (h.plant.setInput i x fun _ => same)
    (h.resolved.congr (t := s.setInput i x) ⟨rfl, accepted, rfl, rfl, rfl⟩ rfl)

/-- R80: an accepted level and its edge. -/
theorem edge (h : DoorsAndPassagesOk s) (i : InputId) (x : Input) :
    DoorsAndPassagesOk ((s.setInput i x).inputEvent i x.accepted) := by
  refine .of (h.plant.edge i x) ?_
  unfold State.inputEvent
  split
  · unfold State.evacuationEdge
    dsimp only
    split
    · exact (ModesBut.resolveAll _).withBlc _
    · exact (ModesBut.resolveAll _).withBlc _
  · next other =>
    have accepted : (s.setInput i x).accepted evacuationInput = s.accepted evacuationInput := by
      change ((s.drc.inputs.set i x).get evacuationInput).accepted = _
      rw [Table.get_set, if_neg other]
      rfl
    exact (h.resolved.congr (t := s.setInput i x) ⟨rfl, accepted, rfl, rfl, rfl⟩ rfl).sameModes
      (.foldl (SameModes.doorEdge i x.accepted) _ _)

theorem acceptInput (h : DoorsAndPassagesOk s) (i : InputId) : DoorsAndPassagesOk (s.acceptInput i) :=
  h.edge i { s.drc.inputs.get i with accepted := (s.drc.inputs.get i).logical, change := none }

theorem sampleInput (h : DoorsAndPassagesOk s) (i : InputId) : DoorsAndPassagesOk (s.sampleInput i) := by
  unfold State.sampleInput
  dsimp only
  split
  · exact h.edge i { s.drc.inputs.get i with accepted := (s.drc.inputs.get i).logical,
                                             lastSample := some (s.drc.inputs.get i).logical }
  · exact h.setInput i rfl

theorem sampleAll (h : DoorsAndPassagesOk s) : DoorsAndPassagesOk s.sampleAll :=
  foldl_keeps (fun i h => h.sampleInput i) _ h

theorem putInput (h : DoorsAndPassagesOk s) (i : InputId) (level : ActiveLevel) (filter : Nat) :
    DoorsAndPassagesOk (s.putInput i level filter) := by
  unfold State.putInput
  dsimp only
  split
  · have set := h.setInput i (x := Input.watch { s.drc.inputs.get i with activeLevel := level, filterTime := filter })
      (Input.watch_accepted _)
    split
    · exact set.acceptInput i
    · exact set
  · exact h.setInput i rfl

theorem withDrc (h : DoorsAndPassagesOk s) {x : Drc} (doors : x.doors = s.drc.doors) (inputs : x.inputs = s.drc.inputs)
    (schedules : x.schedules = s.drc.schedules) (pulse : x.pulseTimer.isSome = true ↔ x.alarm = .pulsing) :
    DoorsAndPassagesOk (s.withDrc x) := by
  refine .of (h.plant.withDrc doors (fun j => ?_) pulse) (h.resolved.congr (.of_eq rfl inputs schedules) doors)
  rw [inputs]
  rfl

theorem pressButton (h : DoorsAndPassagesOk s) (d : DoorId) : DoorsAndPassagesOk (s.pressButton d) :=
  h.sameModes (h.plant.pressButton d) (.pressButton s d)

/-- R92: a held timer runs out. -/
theorem heldEnds (h : DoorsAndPassagesOk s) (found : s.drc.doors.get d = some r) (opened : r.state = .opened) :
    DoorsAndPassagesOk (s.doorAlarm d { r with state := .held, heldTimer := none } .held) := by
  have fits := (h.plant.doors.contact d r found).resolve_left fun ⟨mem, _⟩ => List.not_mem_nil mem
  refine h.sameModes (h.plant.doorAlarm (r' := { r with state := .held, heldTimer := none }) found (fun _ mem _ => mem) rfl
    ((h.plant.doors.ok d r found).overdue opened) (fun swing notFree => ?_) (by rw [opened]; decide) _)
    (.doorAlarm (r' := { r with state := .held, heldTimer := none }) found rfl rfl rfl _)
  simpa [opened] using fits swing notFree

/-- R91: a release timer runs out. -/
theorem releaseEnds (h : DoorsAndPassagesOk s) (found : s.drc.doors.get d = some r) (released : r.state = .released) :
    DoorsAndPassagesOk (s.releaseRunsOut d r) := by
  have fits := (h.plant.doors.contact d r found).resolve_left fun ⟨mem, _⟩ => List.not_mem_nil mem
  have ok := (h.plant.doors.ok d r found).passed released
  refine h.sameModes (h.plant.setDoor_cancel (r' := { r with state := .secure, releaseTimer := none }) found
    (fun _ mem _ => mem) rfl ok fun swing notFree => ?_)
    ((SameModes.setDoor (r' := { r with state := .secure, releaseTimer := none }) found rfl rfl rfl).trans
      (TouchesPassages.cancelPassage _ _).sameModes)
  simpa [released] using fits swing notFree

/-- R87: an override and the resolution that follows. -/
theorem setOverride (h : DoorsAndPassagesOk s) (o : Override) (d : DoorId) : DoorsAndPassagesOk (s.setOverride o d) := by
  unfold State.setOverride
  split
  · exact h
  · next r found =>
    have fits := (h.plant.doors.contact d r found).resolve_left fun ⟨mem, _⟩ => List.not_mem_nil mem
    have ok := h.plant.doors.ok d r found
    have set : PlantBut [] 0 (s.setDoor d (some { r with override := o })) :=
      h.plant.setDoor (r' := { r with override := o }) found (fun _ mem _ => mem) rfl (ok.withOverride o) fits
        fun released => ⟨released, ok.mode_ne_free (by rw [released]; decide), fun lockdown => ok.lockdown lockdown released⟩
    have left : ModesBut [d] (s.setDoor d (some { r with override := o })) :=
      h.resolved.setDoor (fun _ mem _ => absurd mem List.not_mem_nil) fun _ _ => .inl (List.mem_singleton_self d)
    exact .of (set.resolveDoor d) left.resolveDoor

/-- R84, R86: a schedule and the resolutions that follow. -/
theorem putSchedule (h : DoorsAndPassagesOk s) (k : ScheduleId) (windows : List Window) :
    DoorsAndPassagesOk (s.putSchedule k windows) := by
  have set : PlantBut [] 0 (s.withDrc { s.drc with schedules := s.drc.schedules.set k windows }) :=
    h.plant.withDrc rfl (fun _ => rfl) h.plant.doors.pulse
  have left : ModesBut ((List.finRange 16).filter (s.namesSchedule k))
      (s.withDrc { s.drc with schedules := s.drc.schedules.set k windows }) := by
    intro notLow d r found
    by_cases names : r.config.schedule = some k
    · left
      have door : s.drc.doors.get d = some r := found
      rw [List.mem_filter]
      unfold State.namesSchedule
      rw [door]
      simp [names]
    · right
      rw [(h.resolved notLow d r found).resolve_left List.not_mem_nil]
      have schedule : (s.withDrc { s.drc with schedules := s.drc.schedules.set k windows }).scheduleMode r.config =
          s.scheduleMode r.config := by
        unfold State.scheduleMode
        cases own : r.config.schedule with
        | none => rfl
        | some j =>
          have other : k ≠ j := fun same => names (by rw [own, same])
          simp only [State.withDrc_tbu, State.withDrc_drc, Table.get_set_of_ne _ _ _ _ other]
          rfl
      unfold State.resolveMode
      rw [schedule]
      rfl
  exact .of (foldl_keeps (P := PlantBut [] 0) (act := State.resolveDoor) (fun d h => h.resolveDoor d) _ set)
    (left.foldl_resolveDoor _)

/-- R82: a door that has no passage is no longer configured. -/
theorem removeDoor (h : DoorsAndPassagesOk s) (free : s.passageAt d = none) : DoorsAndPassagesOk (s.setDoor d none) := by
  have before : ∀ e x, (s.setDoor d none).drc.doors.get e = some x → s.drc.doors.get e = some x := fun e x isX => by
    rw [State.setDoor_doors] at isX
    split at isX
    · cases isX
    · exact isX
  refine .of ⟨⟨fun e x isX => h.plant.doors.ok e x (before e x isX), fun e x isX => h.plant.doors.contact e x (before e x isX),
    fun a b xa xb different isA isB => h.plant.doors.inputs a b xa xb different (before a xa isA) (before b xb isB),
    h.plant.doors.pulse⟩, h.plant.passages.setDoor (.inl free)⟩ ?_
  exact h.resolved.setDoor (fun _ mem _ => mem) fun _ isR => nomatch isR

/-- R82: a door that has no passage, worked out afresh. -/
theorem putDoor (h : DoorsAndPassagesOk s) {c : DoorConfig} (taken : s.inputTaken d c = false)
    (free : s.passageAt d = none) (fits : c.Fits) : DoorsAndPassagesOk (s.putDoor d c) := by
  have worked := Door.workOut_ok (r := ⟨c, keptOverride (s.drc.doors.get d), .card, .secure, none, none⟩) fits
    (s.resolveMode c (keptOverride (s.drc.doors.get d))) (s.accepted c.contact)
  have config := Door.workOut_config ⟨c, keptOverride (s.drc.doors.get d), .card, .secure, none, none⟩
    (s.resolveMode c (keptOverride (s.drc.doors.get d))) (s.accepted c.contact)
  have override := Door.workOut_override ⟨c, keptOverride (s.drc.doors.get d), .card, .secure, none, none⟩
    (s.resolveMode c (keptOverride (s.drc.doors.get d))) (s.accepted c.contact)
  have mode := Door.workOut_mode ⟨c, keptOverride (s.drc.doors.get d), .card, .secure, none, none⟩
    (s.resolveMode c (keptOverride (s.drc.doors.get d))) (s.accepted c.contact)
  unfold State.putDoor State.freshDoor
  dsimp only
  generalize Door.workOut _ _ _ = x at worked config override mode ⊢
  dsimp only at config override mode
  have apart := (s.inputTaken_eq_false_iff d c).mp taken
  refine .of ⟨⟨fun e y isY => ?_, fun e y isY => .inr ?_, fun a b ya yb different isA isB => ?_, h.plant.doors.pulse⟩,
    h.plant.passages.setDoor (.inl free)⟩ ?_
  · rw [State.setDoor_doors] at isY
    split at isY
    · cases isY; exact worked.1
    · exact h.plant.doors.ok e y isY
  · rw [State.setDoor_doors] at isY
    split at isY
    · cases isY
      rw [config]
      exact worked.2
    · exact (h.plant.doors.contact e y isY).resolve_left fun ⟨mem, _⟩ => List.not_mem_nil mem
  · rw [State.setDoor_doors] at isA isB
    split at isA
    · next ownA =>
      cases isA
      rw [if_neg (fun ownB => different (ownA.symm.trans ownB))] at isB
      rw [config]
      exact apart b yb (fun same => different (ownA.symm.trans same.symm)) isB
    · next otherA =>
      split at isB
      · cases isB
        rw [config, DoorConfig.sharesInput_comm]
        exact apart a ya (Ne.symm otherA) isA
      · exact h.plant.doors.inputs a b ya yb different isA isB
  · refine h.resolved.setDoor (fun _ mem _ => mem) fun y isY => .inr ?_
    cases isY
    rw [mode, config, override]

end DoorsAndPassagesOk

end Sys2Proof.Machine
end

section
/-!
PROOFS. Punches, commands, ticks and events of the doors and passages: the obligation O55.
-/

namespace Sys2Proof.Machine

open Sys2Proof

section Tables

variable {s t : State}

/-- A change of the badge table that keeps every badge of a passage, and its saved punches exactly with the passages. -/
theorem PassagesOk.withBadges (h : PassagesOk s) (passages : t.pev.passages = s.pev.passages)
    (doors : t.drc.doors = s.drc.doors) (present : ∀ p ∈ s.pev.passages, p.badge ∈ s.savedPunches.map Prod.fst →
      p.badge ∈ t.savedPunches.map Prod.fst)
    (saved : ∀ e ∈ t.savedPunches, e ∈ s.savedPunches ∨ e.2 = false ∧ s.passageOf e.1 = none) : PassagesOk t := by
  obtain ⟨fits, releasing⟩ := (passagesOk_iff s).mp h
  refine (passagesOk_iff t).mpr ⟨⟨?_, ?_, fun p mem => ?_, fun e mem => ?_⟩, fun p mem => ?_⟩
  · rw [passages]
    exact fits.ascending
  · rw [passages]
    exact fits.badges
  · rw [passages] at mem
    exact present p mem (fits.present p mem)
  · rw [State.passageOf_congr passages]
    rcases saved e mem with old | ⟨none, free⟩
    · exact fits.saved e old
    · rw [none, free]
      rfl
  · rw [passages] at mem
    unfold State.Releasing
    rw [doors]
    exact releasing p mem

theorem DoorsAndPassagesOk.withBadges (h : DoorsAndPassagesOk s) (x : Btb) (present : ∀ p ∈ s.pev.passages,
    p.badge ∈ s.savedPunches.map Prod.fst → p.badge ∈ (s.withBtb x).savedPunches.map Prod.fst)
    (saved : ∀ e ∈ (s.withBtb x).savedPunches, e ∈ s.savedPunches ∨ e.2 = false ∧ s.passageOf e.1 = none) :
    DoorsAndPassagesOk (s.withBtb x) :=
  h.sameModes ⟨h.plant.doors.congr (t := s.withBtb x) rfl, h.plant.passages.withBadges rfl rfl present saved⟩
    (.of_drc rfl rfl)

theorem DoorsAndPassagesOk.updateBadge (h : DoorsAndPassagesOk s) (n : Nat) {f : Badge → Badge}
    (number : ∀ b, (f b).number = b.number) (saved : ∀ b : Badge, (f b).savedPunch.isSome = b.savedPunch.isSome) :
    DoorsAndPassagesOk (s.updateBadge n f) :=
  h.congr (t := s.updateBadge n f) rfl rfl rfl (s.savedPunches_updateBadge n number saved)

/-- R42: a new entry, for a number that no entry holds. -/
theorem DoorsAndPassagesOk.insertBadge (h : DoorsAndPassagesOk s) {e : Badge} (absent : s.findBadge e.number = none)
    (saved : e.savedPunch = none) :
    DoorsAndPassagesOk (s.withBtb { s.btb with entries := Machine.insertBadge e s.btb.entries }) := by
  have free : s.passageOf e.number = none := by
    rw [State.passageOf_none]
    intro p mem same
    have present := h.passages.present p mem
    rw [same, absent] at present
    cases present
  refine h.withBadges _ (fun p _ old => ?_) fun x mem => ?_
  · obtain ⟨x, memX, same⟩ := List.mem_map.mp old
    obtain ⟨b, entry, rfl⟩ := List.mem_map.mp memX
    rw [← same]
    exact List.mem_map_of_mem (List.mem_map_of_mem ((mem_insertBadge e b _).mpr (.inr entry)))
  · obtain ⟨b, entry, rfl⟩ := List.mem_map.mp mem
    rcases (mem_insertBadge e b _).mp entry with rfl | old
    · exact .inr ⟨by rw [saved]; rfl, free⟩
    · exact .inl (List.mem_map_of_mem old)

/-- R44: an entry without a passage leaves the table. -/
theorem DoorsAndPassagesOk.removeBadge (h : DoorsAndPassagesOk s) {n : Nat} (free : s.passageOf n = none) :
    DoorsAndPassagesOk (s.removeBadge n) := by
  refine h.withBadges _ (fun p memP old => ?_) fun x mem => ?_
  · obtain ⟨x, memX, same⟩ := List.mem_map.mp old
    obtain ⟨b, entry, rfl⟩ := List.mem_map.mp memX
    rw [← same]
    refine List.mem_map_of_mem (List.mem_map_of_mem (List.mem_filter.mpr ⟨entry, ?_⟩))
    have other := State.passageOf_none.mp free p memP
    simpa [← same] using other
  · obtain ⟨b, entry, rfl⟩ := List.mem_map.mp mem
    exact .inl (List.mem_map_of_mem (List.mem_filter.mp entry).1)

theorem DoorsAndPassagesOk.mapBadges (h : DoorsAndPassagesOk s) {f : Badge → Badge} {x : Btb}
    (entries : x.entries = s.btb.entries.map f) (number : ∀ b, (f b).number = b.number)
    (saved : ∀ b : Badge, (f b).savedPunch.isSome = b.savedPunch.isSome) : DoorsAndPassagesOk (s.withBtb x) := by
  refine h.congr (t := s.withBtb x) rfl rfl rfl ?_
  unfold State.savedPunches
  rw [State.withBtb_btb, entries, List.map_map]
  exact List.map_congr_left fun b _ => by simp [number, saved]

/-! ### Punches -/

/-- R51: a conflict that is refused. -/
theorem DoorsAndPassagesOk.refuseConflict (h : DoorsAndPassagesOk s) (p : Punch) (dir : Direction) (l : LastPunch) :
    DoorsAndPassagesOk (s.refuseConflict p dir l) := by
  have joined : DoorsAndPassagesOk ((s.refuse p (some dir) .conflict).joinConflicts p.station l.station) :=
    (h.store (.store _ _ _)).withConflictSet _
  unfold State.refuseConflict
  dsimp only
  split
  · have reported := joined.store (.nonPunch _ .conflict
      (.conflict ⟨p.badge, p.station, l.station, p.config.zone, p.time, l.time, s.tbu.calendar⟩))
    exact reported.sameModes reported.plant.fireAlarm (.fireAlarm _)
  · exact joined

/-- R71: a commit at once. -/
theorem DoorsAndPassagesOk.commitAtOnce (h : DoorsAndPassagesOk s) (p : Punch) (b : Badge) (dir : Direction) (c : Captured)
    (door : Option (DoorId × Door)) : DoorsAndPassagesOk (s.commitAtOnce p b dir c door) := by
  unfold State.commitAtOnce
  have punched : DoorsAndPassagesOk (s.updateBadge b.number fun e => e.acceptAtOnce ⟨p.station, p.time⟩) :=
    h.updateBadge _ (fun _ => rfl) fun _ => rfl
  have touches := TouchesBadges.commitWork (s.updateBadge b.number fun e => e.acceptAtOnce ⟨p.station, p.time⟩)
  exact punched.congr (touches _).doors.tbu (touches _).drc (by rw [(touches _).pev]) (State.savedPunches_commitWork _ _)

/-- R68: a pending passage is created and its door released. -/
theorem DoorsAndPassagesOk.createPassage (h : DoorsAndPassagesOk s) {p : Punch} {b : Badge} {dir : Direction}
    {c : Captured} {d : DoorId} {r : Door} (found : s.findBadge b.number = some b) (free : s.passageOf b.number = none)
    (door : s.drc.doors.get d = some r) (notFree : r.mode ≠ .free) (notLockdown : r.mode ≠ .lockdown)
    (notBusy : s.doorBusy d r = false) : DoorsAndPassagesOk (s.createPassage p b dir c d) := by
  obtain ⟨fits, releasing⟩ := (passagesOk_iff s).mp h.passages
  have ok := h.plant.doors.ok d r door
  have rest : s.passageAt d = none ∧ (r.state = .secure ∨ r.state = .released) := by
    unfold State.doorBusy at notBusy
    simp only [Bool.or_eq_false_iff, Option.isSome_eq_false_iff, Option.isNone_iff_eq_none, beq_eq_false_iff_ne] at notBusy
    obtain ⟨⟨⟨noPassage, notOpened⟩, notHeld⟩, notForced⟩ := notBusy
    refine ⟨noPassage, ?_⟩
    cases state : r.state with
    | secure => exact .inl rfl
    | released => exact .inr rfl
    | opened => exact absurd state notOpened
    | held => exact absurd state notHeld
    | forced => exact absurd state notForced
    | free => exact absurd (ok.free.mpr state) notFree
  obtain ⟨noPassage, before⟩ := rest
  have contact := (h.plant.doors.contact d r door).resolve_left fun ⟨mem, _⟩ => List.not_mem_nil mem
  unfold State.createPassage
  dsimp only
  generalize isP : (Passage.mk d b.number p.station dir p.time p.age p.arrival p.late c s.tbu.calendar) = q
  have doorQ : q.door = d := by rw [← isP]
  have badgeQ : q.badge = b.number := by rw [← isP]
  generalize isU : (s.withPev { s.pev with passages := Machine.insertPassage q s.pev.passages }).updateBadge b.number
    (fun e => e.acceptPending ⟨p.station, p.time⟩) = u
  have drc : u.drc = s.drc := by rw [← isU]; rfl
  have tbu : u.tbu = s.tbu := by rw [← isU]; rfl
  have passages : u.pev.passages = insertPassage q s.pev.passages := by rw [← isU]; rfl
  have saved : u.savedPunches = s.savedPunches.map fun e => (e.1, if e.1 = q.badge then true else e.2) := by
    rw [← isU, badgeQ]
    exact State.savedPunches_setSaved _ b.number (f := fun e => e.acceptPending ⟨p.station, p.time⟩) (fun _ => rfl) fun _ => rfl
  have joined : PassagesFit u := fits.insert (by rw [doorQ]; exact noPassage) (by rw [badgeQ]; exact free)
    (by rw [badgeQ, ← s.findBadge_isSome_iff, found]; rfl) passages saved
  have doorU : u.drc.doors.get d = some r := by rw [drc]; exact door
  have released : u.releaseDoor d
      = u.setDoor d (some { r with state := .released, releaseTimer := some r.config.fullRelease }) := by
    unfold State.releaseDoor
    rw [doorU]
  rw [released]
  refine h.sameModes ⟨(h.plant.doors.congr drc).setState doorU rfl (ok.released before notLockdown _) ?_, ?_⟩
    ((SameModes.of_drc tbu drc).trans (.setDoor doorU rfl rfl rfl))
  · intro level fit swing _
    rcases before with state | state <;> simpa [state] using fit swing notFree
  · refine (passagesOk_iff _).mpr ⟨joined.congr rfl rfl, fun x mem => ?_⟩
    unfold State.Releasing
    rw [State.setDoor_doors]
    change x ∈ u.pev.passages at mem
    rw [passages] at mem
    split
    · exact ⟨_, rfl, rfl, notFree, notLockdown⟩
    · next other =>
      rw [drc]
      rcases (mem_insertPassage q x _).mp mem with rfl | old
      · exact absurd doorQ.symm other
      · exact releasing x old

theorem DoorsAndPassagesOk.judged (h : DoorsAndPassagesOk s) {p : Punch} {v : Verdict} (judged : Judged s p v) :
    DoorsAndPassagesOk v.state := by
  cases judged with
  | silent => exact h
  | refused _ => exact h.store (.store _ _ _)
  | conflict _ => exact h.refuseConflict _ _ _
  | atOnce _ _ _ => exact h.commitAtOnce _ _ _ _ _
  | pending _ found free door notFree notLockdown notBusy =>
    refine h.createPassage ?_ free door notFree notLockdown notBusy
    rw [State.findBadge_number found]
    exact found

/-! ### Commands, events and steps -/

theorem State.tick_drc (s : State) : s.tick.drc = s.drc ∨ s.tick.drc = s.drc.tick := by
  unfold State.tick
  split
  · dsimp only
    split
    · exact .inl rfl
    · exact .inr rfl
  · exact .inl rfl

theorem DoorsAndPassagesOk.withTick (h : DoorsAndPassagesOk s) : DoorsAndPassagesOk (s.withDrc s.drc.tick) := by
  have before : ∀ d x, (s.withDrc s.drc.tick).drc.doors.get d = some x → ∃ r, s.drc.doors.get d = some r ∧ x = r.tick := by
    intro d x isX
    change (s.drc.doors.map fun r => r.map Door.tick).get d = some x at isX
    rw [Table.get_map, Option.map_eq_some_iff] at isX
    obtain ⟨r, found, rfl⟩ := isX
    exact ⟨r, found, rfl⟩
  have accepted : ∀ i, (s.withDrc s.drc.tick).accepted i = s.accepted i := fun i => by
    change ((s.drc.inputs.map Input.tick).get i).accepted = _
    rw [Table.get_map]
    rfl
  obtain ⟨fits, releasing⟩ := (passagesOk_iff s).mp h.passages
  refine .of ⟨⟨fun d x isX => ?_, fun d x isX => .inr ?_, fun a b xa xb different isA isB => ?_, ?_⟩, ?_⟩
    (h.resolved.same ⟨rfl, accepted _, rfl, rfl, rfl⟩ fun d x isX => ?_)
  · obtain ⟨r, found, rfl⟩ := before d x isX
    exact (h.plant.doors.ok d r found).tick
  · obtain ⟨r, found, rfl⟩ := before d x isX
    rw [accepted]
    exact (h.plant.doors.contact d r found).resolve_left fun ⟨mem, _⟩ => List.not_mem_nil mem
  · obtain ⟨ra, foundA, rfl⟩ := before a xa isA
    obtain ⟨rb, foundB, rfl⟩ := before b xb isB
    exact h.plant.doors.inputs a b ra rb different foundA foundB
  · simpa [Drc.tick, tickTimer] using h.plant.doors.pulse
  · refine (passagesOk_iff _).mpr ⟨fits.congr rfl rfl, fun p mem => ?_⟩
    obtain ⟨r, found, state, notFree, notLockdown⟩ := releasing p mem
    refine ⟨r.tick, ?_, state, notFree, notLockdown⟩
    change (s.drc.doors.map fun r => r.map Door.tick).get p.door = _
    rw [Table.get_map, found]
    rfl
  · obtain ⟨r, found, rfl⟩ := before d x isX
    exact ⟨r, found, rfl, rfl, rfl⟩

theorem DoorsAndPassagesOk.tick (h : DoorsAndPassagesOk s) : DoorsAndPassagesOk s.tick := by
  have ticked : DoorsAndPassagesOk (s.withTbu s.tbu.tick) := h.withTbu (.withTbu rfl rfl rfl)
  unfold State.tick
  split
  · dsimp only
    split
    · exact ticked
    · exact (((ticked.withGlc _).withTick).withBlc _)
  · exact h

theorem DoorsAndPassagesOk.command (h : DoorsAndPassagesOk s) (work : CommandEffect s t) : DoorsAndPassagesOk t := by
  cases work with
  | nothing => exact h
  | setTime _ => exact h.withTbu (.withTbu rfl rfl rfl)
  | putStation _ => exact h.withGlc _
  | resumeStation _ _ => exact ((h.withGlc _).withGlc _).store (.stationReport _ _ _)
  | display _ => exact h.withGlc _
  | replaceBadge _ _ => exact h.updateBadge _ (fun _ => rfl) fun _ => rfl
  | insertBadge absent _ _ => exact h.insertBadge absent rfl
  | removeBadge found free =>
    refine h.removeBadge ?_
    unfold State.dropBusy State.tied at free
    rw [State.findBadge_number found] at free
    simp only [Bool.or_eq_false_iff, Option.isSome_eq_false_iff, Option.isNone_iff_eq_none] at free
    exact free.1.1.2
  | setPresence _ _ _ => exact h.updateBadge _ (fun _ => rfl) fun _ => rfl
  | clearConflicts => exact h.withConflictSet 0
  | putInput => exact h.putInput _ _ _
  | removeDoor free => exact h.removeDoor free
  | putDoor taken free contact button => exact h.putDoor taken free ⟨contact, button⟩
  | putSchedule => exact h.putSchedule _ _
  | overrideDoors => exact foldl_keeps (P := DoorsAndPassagesOk) (fun d h => h.setOverride _ d) _ h
  | pressButtons => exact foldl_keeps (P := DoorsAndPassagesOk) (act := State.pressButton) (fun d h => h.pressButton d) _ h
  | clearAlarm => exact h.withDrc rfl rfl rfl (by simp)
  | putPlan _ => exact h.withSps _
  | closeRecord _ _ _ _ =>
    have touches := TouchesBadges.closeRecord s
    exact h.congr (touches _ _ _ _).doors.tbu (touches _ _ _ _).drc (by rw [(touches _ _ _ _).pev])
      (s.savedPunches_closeRecord _ _ _ _)
  | closePeriod => exact h.mapBadges (f := Badge.closePeriod) rfl (fun _ => rfl) fun _ => rfl
  | releaseClosed => exact h.mapBadges (f := fun b => { b with closed := none }) rfl (fun _ => rfl) fun _ => rfl
  | putEntry => exact h.withBlc _
  | putPattern => exact h.withBlc _
  | ring _ => exact h.withBlc _
  | stopOutputs => exact h.withBlc _
  | setPause => exact h.withPause _
  | putSettings _ _ _ => exact (h.withOlc _).withTbu (.withTbu rfl rfl rfl)
  | reset => exact h.warmStart

theorem DoorsAndPassagesOk.gate (h : DoorsAndPassagesOk s) (touches : TouchesGate s t) : DoorsAndPassagesOk t := by
  obtain ⟨g, r, rfl⟩ := touches
  exact (h.withGlc g).congr (t := (s.withGlc g).withRps r) rfl rfl rfl rfl

theorem DoorsAndPassagesOk.withSampleTimer (h : DoorsAndPassagesOk s) (x : Option Nat) :
    DoorsAndPassagesOk (s.withDrc { s.drc with sampleTimer := x }) := h.withDrc rfl rfl rfl h.plant.doors.pulse

theorem DoorsAndPassagesOk.event (h : DoorsAndPassagesOk s) (effect : EventEffect s t) : DoorsAndPassagesOk t := by
  cases effect with
  | nothing => exact h
  | secondEnds _ _ => exact h.secondBoundary.settle
  | cycle _ => exact h.withTbu (.withTbu rfl rfl rfl)
  | cycleEndsSecond _ _ => exact (h.withTbu (x := s.tbu.cycle) (.withTbu rfl rfl rfl)).secondBoundary.settle
  | mainsLoss _ _ => exact h.mainsLoss.settle
  | batterySample _ => exact h.withTbu (.withTbu rfl rfl rfl)
  | lowBattery _ => exact (h.withTbu (x := s.tbu.sampleBattery _) (.withTbu rfl rfl rfl)).enterLow.settle
  | attention | round _ _ | restEnds _ | probeTimer _ _ | probeWaitEnds _ _ | frameSent _ => exact (h.withGlc _).settle
  | punch _ _ _ _ => exact ((DoorsAndPassagesOk.judged (h.withGlc _) (State.judge_judged _ _)).withGlc _).settle
  | status _ _ _ _ => exact (h.gate (.statusUnderGrant _ _ _ _ _)).settle
  | probeAnswer _ _ _ _ => exact (h.gate (.probeAnswer _ _ _ _)).settle
  | grantTimeout _ _ _ => exact (h.gate (.grantTimeout _ _)).settle
  | wire =>
    unfold State.wireLevel
    dsimp only
    split
    · exact h.setInput _ (Input.watch_accepted _)
    · exact h.setInput _ rfl
  | filterEnds _ _ => exact (h.acceptInput _).settle
  | sampleInputs _ => exact (h.sampleAll.withSampleTimer _).settle
  | releaseEnds door released _ => exact (h.releaseEnds door released).settle
  | heldEnds door opened _ => exact (h.heldEnds door opened).settle
  | pulseEnds _ => exact h.withDrc rfl rfl rfl (by simp)
  | phaseEnds _ => exact h.withBlc _
  | ready => exact (h.withOlc _).settle
  | reportSent _ _ => exact ((h.withOlc _).store (.depart _)).settle
  | replySent _ _ => exact h.congr (by simp) (by simp) (by simp) (by unfold State.savedPunches; simp)
  | backupLost => exact h.losePower.withTbu (.withTbu rfl rfl rfl)
  | powerReturns _ _ => exact h.losePower.outlast
  | restarts _ =>
    have lost : DoorsAndPassagesOk (s.losePower.withTbu (s.losePower.tbu.restartLost s.losePower.draws)) :=
      .of (h.losePower.plant.withTbu _) (.of_low ((Tbu.restartLost_supply _ _).trans s.losePower_supply))
    exact (lost.store (.reportSource _ _)).withDraws _

theorem DoorsAndPassagesOk.stepEffect (h : DoorsAndPassagesOk s) (effect : StepEffect s t) : DoorsAndPassagesOk t := by
  cases effect with
  | event effect => exact h.event effect
  | tick => exact h.tick
  | waits _ _ _ _ | noCommand _ _ _ => exact h.withOlc _
  | taken _ work => exact ((h.command work).withOlc _).settle
  | takenLater _ _ work =>
    exact ((DoorsAndPassagesOk.command (s := s.emptyAssembly) (h.withOlc _) work).withOlc _).settle

end Tables

/-- Settles O55: what each event and command makes of the doors, their modes and the passages at them. -/
theorem everyStepKeepsDoorsAndPassages : Obligations.EveryStepKeepsDoorsAndPassages := by
  unfold Obligations.EveryStepKeepsDoorsAndPassages
  intro s t h next
  exact step_keeps (P := DoorsAndPassagesOk) (fun _ _ h => h.withPending _) (fun _ _ h effect => h.stepEffect effect) h next

end Sys2Proof.Machine
end

section
/-!
PROOFS. What a command or an event leaves, said once for the chapters that follow: taken commands are carried out or refused
as their work says (R175 to R177), and no command or event touches the queue of those that wait. Obligations O1 to O5 and O7.
-/

namespace Sys2Proof.Machine

open Sys2Proof

/-! ### Commands carried out and refused -/

section Work

variable {s u : State} {c : Instr} {kind : Nat} {r : ReplyResult}

/-- A command is carried out as its work says. -/
theorem carried_of_work (takes : s.takes) (command : commandKind c = some kind) (work : commandWork s c = done u r) :
    Carried c s u kind r := by
  have supply : u.tbu.supply = s.tbu.supply := by
    have effect := commandWork_effect s c
    rw [work] at effect
    exact CommandEffect.supply effect
  refine carried_of_exec takes (by rw [supply]; exact takes.1) ?_
  rw [← work]
  exact exec_eq_receive command s

/-- A command is refused as its work says. -/
theorem refused_of_work {status : Status} (takes : s.takes) (command : commandKind c = some kind)
    (work : commandWork s c = denied s status) : Refused c s kind status := by
  refine refused_of_exec takes ?_
  rw [← work]
  exact exec_eq_receive command s

/-- R177: an answer other than OK changes nothing and gives no fields. -/
def Answered.RefusesClean (s : State) (a : Answered) : Prop := a.status ≠ .ok → a = denied s a.status

namespace Answered.RefusesClean

theorem of_done : RefusesClean s (done u r) := fun notOk => absurd rfl notOk

theorem of_denied {status : Status} : RefusesClean s (denied s status) := fun _ => rfl

theorem of_fields {α : Type} {p : Payload α} {f : α → Answered} (h : ∀ a, RefusesClean s (f a)) :
    RefusesClean s (withFields s p f) := by
  cases p with
  | malformed => exact of_denied
  | fields a => exact h a

theorem of_checked {α : Type} {checked : Option α} {f : α → Answered} (h : ∀ a, RefusesClean s (f a)) :
    RefusesClean s (withChecked s checked f) := by
  cases checked with
  | none => exact of_denied
  | some a => exact h a

theorem of_ite {p : Prop} [Decidable p] {a b : Answered} (h : RefusesClean s a) (h' : RefusesClean s b) :
    RefusesClean s (if p then a else b) := by
  split
  · exact h
  · exact h'

/-- A command whose fields, once checked, are always carried out. -/
theorem checked {α : Type} {x : Option α} {f : α → State} {g : α → ReplyResult} :
    RefusesClean s (withChecked s x fun a => done (f a) (g a)) := of_checked fun _ => of_done

theorem of_putBadge (c : BadgeConfig) : RefusesClean s (s.putBadge c) := by
  unfold State.putBadge
  split
  · exact of_ite of_denied of_done
  · exact of_ite of_denied of_done

theorem of_putPresence (n : Nat) (p : Presence) : RefusesClean s (s.putPresence n p) := by
  unfold State.putPresence
  split
  · exact of_denied
  · exact of_ite of_denied (of_ite of_denied of_done)

theorem of_closeOf (n outTime : Nat) : RefusesClean s (s.closeOf n outTime) := by
  unfold State.closeOf
  split
  · exact of_denied
  · split
    · exact of_denied
    · exact of_ite of_denied (of_ite of_denied of_done)

theorem of_doorCommand (target : Nat) (act : State → DoorId → State) : RefusesClean s (s.doorCommand target act) := by
  refine of_checked fun t => ?_
  split
  · exact of_denied
  · exact of_done

theorem of_actDoorPut (a : DoorPutArgs) : RefusesClean s (actDoorPut s a) := by
  refine of_checked fun x => ?_
  dsimp only
  split
  · exact of_ite of_denied of_done
  · exact of_ite of_denied (of_ite of_denied of_done)

theorem of_actBadgeDrop (badge : Nat) : RefusesClean s (actBadgeDrop s badge) := by
  refine of_checked fun n => ?_
  split
  · exact of_denied
  · exact of_ite of_denied of_done

theorem of_actBadgeGet (a : BadgeGetArgs) : RefusesClean s (actBadgeGet s a) := by
  refine of_checked fun x => ?_
  dsimp only
  split
  · exact of_denied
  · exact of_done

theorem of_actTotalsGet (a : TotalsGetArgs) : RefusesClean s (actTotalsGet s a) := by
  refine of_checked fun x => ?_
  dsimp only
  refine of_ite of_denied ?_
  split
  · exact of_denied
  · exact of_done

end Answered.RefusesClean

open Answered.RefusesClean in
/-- R177: what a command that is refused leaves. -/
theorem commandWork_refusesClean (s : State) (c : Instr) : Answered.RefusesClean s (commandWork s c) := by
  cases c with
  | setTime p | stationGet p | inputPut p | inputGet p | doorGet p | schedulePut p | scheduleGet p | shiftPut p | shiftGet p
  | rotaPut p | rotaGet p | payclassPut p | payclassGet p | bellPut p | bellGet p | patternPut p | patternGet p | bellRing p
  | bellStop p | settingsPut p => exact of_fields fun _ => checked
  | conflictRead p | alarmClear p | holidayList p | pause p | resume p | settingsGet p | status p | ident p | reset p =>
    exact of_fields fun _ => of_done
  | bellDrop p => exact of_fields fun _ => of_checked fun _ => of_ite of_done of_denied
  | stationPut p | display p => exact of_fields fun _ => of_checked fun _ => of_ite of_denied of_done
  | stationResume p => exact of_fields fun _ => of_checked fun _ => of_ite of_denied (of_ite of_done of_done)
  | badgePut p => exact of_fields fun _ => of_checked fun _ => of_putBadge _
  | badgeDrop p => exact of_fields of_actBadgeDrop
  | badgeGet p => exact of_fields of_actBadgeGet
  | presenceSet p => exact of_fields fun _ => of_checked fun _ => of_putPresence _ _
  | doorPut p => exact of_fields of_actDoorPut
  | doorCommandLockdown p | doorCommandHoldFree p | doorCommandNormal p | releaseOnce p =>
    exact of_fields fun _ => of_doorCommand _ _
  | holidayPut p => exact of_fields fun _ => of_checked fun _ => of_ite of_done (of_ite of_denied of_done)
  | holidayDrop p => exact of_fields fun _ => of_checked fun _ => of_ite of_done of_denied
  | closeRecord p => exact of_fields fun _ => of_checked fun _ => of_closeOf _ _
  | closePeriod p => exact of_fields fun _ => of_ite of_denied (of_ite of_denied of_done)
  | totalsGet p => exact of_fields of_actTotalsGet
  | releaseClosed p => exact of_fields fun _ => of_ite of_denied of_done
  | _ => exact of_denied

/-- R177: a payload that is not the one its kind requires. -/
theorem commandWork_malformed : ∀ p ∈ malformedCommands, commandKind p.2 = some p.1 ∧
    ∀ s, commandWork s p.2 = denied s .badArg := by
  unfold malformedCommands
  simp only [List.forall_mem_append, List.forall_mem_cons, commandKind, commandWork, withFields]
  simp

end Work

/-! ### What keeps the queue and the assembly -/

section Queue

variable {s t u : State}

theorem CommandEffect.pending (work : CommandEffect s u) : u.pending = s.pending := by
  have plant : TouchesPlant s u → u.pending = s.pending := fun touches => touches.pending
  cases work with
  | nothing | setTime _ | putStation _ | display _ | replaceBadge _ _ | insertBadge _ _ _ | removeBadge _ _
  | setPresence _ _ _ | clearConflicts | removeDoor _ | putDoor _ _ _ _ | clearAlarm | putPlan _ | closePeriod
  | releaseClosed | putEntry | putPattern | ring _ | stopOutputs | setPause | putSettings _ _ _ => rfl
  | resumeStation _ _ => exact (TouchesGate.resumeStation _ _ _).pending
  | putInput => exact plant (.putInput _ _ _ _)
  | putSchedule => exact plant (.putSchedule _ _ _)
  | overrideDoors => exact plant (.foldl _ (TouchesPlant.setOverride _) _ _)
  | pressButtons => exact plant (.foldl _ TouchesPlant.pressButton _ _)
  | closeRecord _ _ _ _ => exact plant (TouchesBadges.closeRecord _ _ _ _ _).doors.plant
  | reset => exact s.warmStart_pending

/-- R182: a command leaves the assembly, or empties it as RESET does. -/
theorem CommandEffect.assembly (work : CommandEffect s u) :
    u.olc.assembly = s.olc.assembly ∨ u.olc.assembly = none := by
  have plant : TouchesPlant s u → u.olc.assembly = s.olc.assembly ∨ u.olc.assembly = none := fun touches =>
    .inl (by rw [touches.olc])
  cases work with
  | nothing | setTime _ | putStation _ | display _ | replaceBadge _ _ | insertBadge _ _ _ | removeBadge _ _
  | setPresence _ _ _ | clearConflicts | removeDoor _ | putDoor _ _ _ _ | clearAlarm | putPlan _ | closePeriod
  | releaseClosed | putEntry | putPattern | ring _ | stopOutputs | setPause | putSettings _ _ _ => exact .inl rfl
  | resumeStation _ _ => exact .inl (by rw [(TouchesGate.resumeStation _ _ _).olc])
  | putInput => exact plant (.putInput _ _ _ _)
  | putSchedule => exact plant (.putSchedule _ _ _)
  | overrideDoors => exact plant (.foldl _ (TouchesPlant.setOverride _) _ _)
  | pressButtons => exact plant (.foldl _ TouchesPlant.pressButton _ _)
  | closeRecord _ _ _ _ => exact plant (TouchesBadges.closeRecord _ _ _ _ _).doors.plant
  | reset => exact .inr (by rw [s.warmStart_olc])

theorem State.minuteEvent?_pending (s : State) (e : Option MinuteEvent) : (s.minuteEvent? e).pending = s.pending := by
  cases e with
  | none => rfl
  | some e => exact s.minuteEvent_pending e

theorem State.mainsReturn_pending (s : State) (e : Option MinuteEvent) : (s.mainsReturn e).pending = s.pending := by
  unfold State.mainsReturn
  split
  · exact (State.minuteEvent?_pending _ _).trans s.restoreMains_touches.pending
  · split
    · exact s.warmStartFromLow_pending
    · exact s.coldStart_pending
  · exact (State.minuteEvent?_pending _ _).trans s.refreshSource_touches.pending

theorem State.secondBoundary_pending (s : State) : s.secondBoundary.pending = s.pending := by
  have reported := (TouchesStore.timeReport (s.withTbu s.tbu.boundary) s.tbu.advance.report).pending
  unfold State.secondBoundary
  dsimp only
  split
  · exact (State.mainsReturn_pending _ _).trans reported
  · exact ((State.minuteEvent?_pending _ _).trans (State.refreshSource_touches _).pending).trans reported

theorem State.secondBoundaries_pending (n : Nat) (s : State) : (s.secondBoundaries n).pending = s.pending := by
  induction n generalizing s with
  | zero => rfl
  | succ n ih => exact (ih _).trans s.secondBoundary_pending

theorem State.mainsLoss_pending (s : State) : s.mainsLoss.pending = s.pending := by
  have lost : (if s.tbu.supply = .mains then (s.withTbu s.tbu.lose).enterBattery
      else (s.withTbu s.tbu.lose).refreshSource).pending = s.pending := by
    split
    · exact (State.enterBattery_touches _).pending
    · exact (State.refreshSource_touches _).pending
  unfold State.mainsLoss
  dsimp only
  split
  · exact (State.secondBoundary_pending _).trans lost
  · exact lost

theorem State.losePower_pending (s : State) : s.losePower.pending = s.pending := by
  unfold State.losePower
  split
  · rfl
  · exact (TouchesStore.reportSource (s.withTbu s.tbu.losePower) s.tbu.timeSource).pending

theorem State.enterLow_pending (s : State) : s.enterLow.pending = s.pending :=
  (TouchesStore.supplyReport (s.withTbu s.tbu.toLow) .lowBattery none).pending

theorem EventEffect.pending (effect : EventEffect s t) : t.pending = s.pending := by
  have plant : ∀ {u : State}, TouchesPlant s u → u.settle.pending = s.pending := fun touches =>
    (State.settle_pending _).trans touches.pending
  have gate : ∀ {u : State}, TouchesGate s u → u.settle.pending = s.pending := fun touches =>
    (State.settle_pending _).trans touches.pending
  cases effect with
  | nothing | cycle _ | batterySample _ | wire | pulseEnds _ | phaseEnds _ => rfl
  | secondEnds _ _ => rw [State.settle_pending, State.secondBoundary_pending]
  | cycleEndsSecond _ _ => rw [State.settle_pending, State.secondBoundary_pending]; rfl
  | mainsLoss _ _ => rw [State.settle_pending, State.mainsLoss_pending]
  | lowBattery _ => rw [State.settle_pending, State.enterLow_pending]; rfl
  | attention | round _ _ | restEnds _ | probeTimer _ _ | probeWaitEnds _ _ | frameSent _ | ready =>
    rw [State.settle_pending]; rfl
  | punch _ _ _ _ => rw [State.settle_pending, State.punchUnderGrant_pending]
  | status _ _ _ _ => exact gate (.statusUnderGrant _ _ _ _ _)
  | probeAnswer _ _ _ _ => exact gate (.probeAnswer _ _ _ _)
  | grantTimeout _ _ _ => exact gate (.grantTimeout _ _)
  | filterEnds _ _ => exact plant (.acceptInput _ _)
  | sampleInputs _ => exact plant ((TouchesPlant.sampleAll s).trans (.withDrc _ _))
  | releaseEnds _ _ _ => exact plant (.releaseRunsOut _ _ _)
  | heldEnds _ _ _ => exact plant (.doorAlarm _ _ _ _)
  | reportSent _ _ => rw [State.settle_pending, (TouchesStore.depart _).pending]; rfl
  | replySent _ _ => exact s.replySent_pending
  | backupLost => exact s.losePower_pending
  | powerReturns _ _ => exact (State.secondBoundaries_pending _ _).trans s.losePower_pending
  | restarts _ =>
    exact (TouchesStore.reportSource (s.losePower.withTbu (s.losePower.tbu.restartLost s.losePower.draws))
      s.losePower.tbu.timeSource).pending.trans s.losePower_pending

/-- No command and no event touches the queue of those that wait. -/
theorem StepEffect.pending (effect : StepEffect s t) : t.pending = s.pending := by
  cases effect with
  | event effect => exact effect.pending
  | tick => exact s.tick_pending
  | waits _ _ _ _ | noCommand _ _ _ => rfl
  | taken _ work => rw [State.answer_pending, work.pending]
  | takenLater _ _ work => rw [State.answer_pending, work.pending]; rfl

end Queue

/-! ### Steps, commands that wait, and replies -/

/-- Settles O1: by the definition of a step. -/
theorem stepTakesTheFrontCommandElseTimePasses : Obligations.StepTakesTheFrontCommandElseTimePasses := by
  unfold Obligations.StepTakesTheFrontCommandElseTimePasses
  refine ⟨fun c rest s => rfl, fun e later s empty due => ?_, fun s empty due => ?_⟩
  · simp [step, State.idle, empty, due]
  · simp [step, State.idle, empty, due]

/-- Settles O2: every answer is one of the effects, and none of them touches the queue. -/
theorem everyCommandAnswersAndKeepsTheQueue : Obligations.EveryCommandAnswersAndKeepsTheQueue := by
  unfold Obligations.EveryCommandAnswersAndKeepsTheQueue
  intro c s
  obtain ⟨t, next, effect⟩ := exec_effect c s
  exact ⟨t, next, effect.pending⟩

/-- R176: the slot holds the reply once both lines have gone on. -/
theorem State.answer_slot (u : State) (r : Reply) : (u.answer r).olc.slot = some r := by
  have settled := State.settle_settled (u.withOlc { u.olc with slot := some r })
  unfold State.answer
  unfold Settled at settled
  rw [settled]
  split <;> rfl

theorem State.answer_assembly (u : State) (r : Reply) : (u.answer r).olc.assembly = u.olc.assembly := by
  have settled := State.settle_settled (u.withOlc { u.olc with slot := some r })
  unfold State.answer
  unfold Settled at settled
  rw [settled]
  split <;> rfl

section Commands

variable {s : State} {c : Instr} {kind : Nat}

theorem exec_of_takes (command : commandKind c = some kind) (takes : s.takes) :
    exec c s = .next ((commandWork s c).reply kind) := by
  rw [exec_eq_receive command, State.receive_of_takes takes]

theorem ignored_of_low (command : commandKind c = some kind) (low : s.tbu.supply = .low) : Ignored c s := by
  unfold Ignored After
  rw [exec_eq_receive command, State.receive_cases, if_pos low]

/-- R176: the command in the assembly is taken. -/
theorem exec_commandTakenFromAssembly (command : commandKind c = some kind) (waits : s.olc.assembly = some c)
    (slot : s.olc.slot = none) (notLow : s.tbu.supply ≠ .low) :
    exec .commandTakenFromAssembly s = .next ((commandWork s.emptyAssembly c).reply kind) := by
  change execCommandTakenFromAssembly s = _
  unfold execCommandTakenFromAssembly
  rw [waits]
  dsimp only
  rw [if_pos ⟨by rw [slot]; rfl, (State.isLow_eq_false_iff s).mpr notLow⟩]
  exact congrArg _ (takeCommand_eq_reply command s.emptyAssembly)

end Commands

/-- Settles O3: by the cases of `receive`, and for the command that waited by the work it has once the assembly is empty. -/
theorem commandsWaitAndAreTakenLater : Obligations.CommandsWaitAndAreTakenLater := by
  unfold Obligations.CommandsWaitAndAreTakenLater
  refine ⟨fun c k s command => ⟨ignored_of_low command, fun waits => ?_, fun notLow empty full => ?_⟩,
    fun c k s command waits slot notLow => ?_, fun s none => ?_⟩
  · unfold Ignored After
    rw [exec_eq_receive command, State.receive_cases, if_pos waits]
    split <;> rfl
  · unfold After
    rw [exec_eq_receive command, State.receive_cases, if_neg notLow, empty, if_neg (by simp), if_pos full]
    rfl
  · have takes : s.emptyAssembly.takes := ⟨notLow, rfl, slot⟩
    refine ⟨_, exec_commandTakenFromAssembly command waits slot notLow, exec_of_takes command takes, ?_, ?_⟩
    · rw [Answered.reply_eq_answer, State.answer_assembly]
      exact (commandWork_effect s.emptyAssembly c).assembly.elim id id
    · rw [Answered.reply_eq_answer, State.answer_slot]
      rfl
  · unfold Ignored After
    change execCommandTakenFromAssembly s = _
    unfold execCommandTakenFromAssembly
    split
    · rfl
    · next c waits =>
      refine if_neg fun ⟨slot, notLow⟩ => ?_
      rcases none with full | low | empty
      · rw [Option.isNone_iff_eq_none] at slot
        simp [slot] at full
      · exact (State.isLow_eq_false_iff s).mp notLow low
      · cases waits.symm.trans empty

/-- Settles O4: one reply follows from the work of the command, and a refusal is `denied` on the state itself. -/
theorem takenCommandsAreAnsweredOnce : Obligations.TakenCommandsAreAnsweredOnce := by
  unfold Obligations.TakenCommandsAreAnsweredOnce
  refine ⟨fun c k s command takes => ?_, fun c k s malformed takes => ?_, fun k s takes => refused_of_work takes rfl rfl⟩
  · refine ⟨_, (commandWork s c).status, (commandWork s c).result, exec_of_takes command takes, ?_, fun notOk => ?_⟩
    · rw [Answered.reply_eq_answer, State.answer_slot]
    · have clean := commandWork_refusesClean s c notOk
      have replied := (denied s (commandWork s c).status).reply_replied k takes.1
      rw [clean]
      exact replied
  · obtain ⟨command, work⟩ := commandWork_malformed (k, c) malformed
    exact refused_of_work takes command (work s)

/-! ### The transmitter -/

theorem settled_of_settle {u v : State} (same : u = v) : Settled v u.settle := same ▸ u.settle_settled

/-- R168: the head record leaves the store, and owed reports are emitted; the store alone changes. -/
theorem State.depart_eq (s : State) : s.depart = { s with
    rps := ({ s with rps := { s.rps with records := s.rps.records.tail } }).emitOwed.rps } := by
  obtain ⟨r, emitted⟩ := TouchesStore.emitOwed (s.withRps { s.rps with records := s.rps.records.tail })
  change (s.withRps { s.rps with records := s.rps.records.tail }).emitOwed = { s with
    rps := (s.withRps { s.rps with records := s.rps.records.tail }).emitOwed.rps }
  rw [emitted]
  rfl

/-- What is owed is emitted without regard to the office link. -/
theorem State.emitSource_withOlc (s : State) (o : Olc) (src : ReportSource) :
    (s.withOlc o).emitSource src = (s.emitSource src).withOlc o := by
  unfold State.emitSource
  rw [State.withOlc_rps]
  cases s.rps.owed.held src with
  | none => rfl
  | some body =>
    dsimp only
    split
    · next room => rw [if_pos (by exact room)]; rfl
    · next full => rw [if_neg (by exact full)]

theorem State.emitOwed_withOlc (s : State) (o : Olc) : (s.withOlc o).emitOwed = s.emitOwed.withOlc o := by
  unfold State.emitOwed
  generalize emissionOrder = l
  induction l generalizing s with
  | nil => rfl
  | cons src rest ih => rw [List.foldl_cons, List.foldl_cons, State.emitSource_withOlc, ih]

theorem State.depart_withOlc (s : State) (o : Olc) : (s.withOlc o).depart = { s with
    olc := o
    rps := ({ s with rps := { s.rps with records := s.rps.records.tail } }).emitOwed.rps } := by
  have departed : (s.withOlc o).depart = s.depart.withOlc o :=
    (s.withRps { s.rps with records := s.rps.records.tail }).emitOwed_withOlc o
  rw [departed, State.depart_eq]
  generalize (State.emitOwed _).rps = emitted
  rfl

/-- Settles O5: what each event of the transmitter leaves before both lines go on. -/
theorem transmitterSendsOneFrameAtATime : Obligations.TransmitterSendsOneFrameAtATime := by
  unfold Obligations.TransmitterSendsOneFrameAtATime
  refine ⟨fun asserted s => ⟨_, rfl, State.settle_settled _⟩, fun s transmitter notLow => ?_,
    fun s transmitter notLow empty => ?_, fun s transmitter notLow waits => ?_, fun s transmitter => ?_,
    fun s transmitter => ?_⟩
  · refine ⟨_, if_pos ⟨transmitter, (State.isLow_eq_false_iff s).mpr notLow⟩, settled_of_settle (State.depart_withOlc s _)⟩
  · refine ⟨_, if_pos ⟨transmitter, (State.isLow_eq_false_iff s).mpr notLow⟩, ?_⟩
    unfold State.replySent
    dsimp only
    rw [if_pos (by rw [State.withOlc_olc, empty]; rfl)]
    exact State.settle_settled _
  · refine ⟨_, if_pos ⟨transmitter, (State.isLow_eq_false_iff s).mpr notLow⟩, ?_⟩
    unfold State.replySent
    dsimp only
    rw [if_neg (by rw [State.withOlc_olc]; simp [Option.isSome_iff_ne_none.mp waits])]
    split
    · exact .inl (State.settle_settled _)
    · exact .inr rfl
  · exact if_neg fun ⟨sends, _⟩ => transmitter sends
  · exact if_neg fun ⟨sends, _⟩ => transmitter sends

end Sys2Proof.Machine
end

section
/-!
PROOFS. The commands of the settings, the pause and the readings (10.3, 10.5, 10.6), and SET_TIME (1.5): obligations O7 and
O11.
-/

namespace Sys2Proof.Machine

open Sys2Proof

/-! ### Settings -/

/-- 10.5: the settings are checked value by value. -/
theorem checkSettingsPut_fields {set : Settings} {f : Frequency} {src : Source} {trim : Int}
    (range : settingsInRange (settingsFields set f src trim)) :
    checkSettingsPut (settingsFields set f src trim) = some (set, f, src, trim) := by
  obtain ⟨duplicate, conflict, stale, budget1, budget4, catchUp, nightStart, nightEnd, -, -, -, -, trimLow, trimHigh⟩ := range
  have alarm : ofCode alarmModes (settingsFields set f src trim).alarmMode = some set.alarmMode := by
    unfold settingsFields
    dsimp only
    cases set.alarmMode <;> rfl
  have frequency : frequency? (settingsFields set f src trim).frequency = some f := by
    cases f <;> rfl
  have source : ofCode sources (settingsFields set f src trim).source = some src := by
    cases src <;> rfl
  have pattern : toFin? 16 (settingsFields set f src trim).evacuationPattern = some set.evacuationPattern :=
    toFin?_val set.evacuationPattern
  unfold checkSettingsPut
  rw [pattern, alarm, frequency, source]
  exact if_pos ⟨duplicate, conflict, stale, budget1, budget4, catchUp, nightStart, nightEnd, trimLow, trimHigh⟩

theorem ofCode_length {α : Type} {values : List α} {code : Nat} {v : α} (h : ofCode values code = some v) :
    code < values.length := (List.getElem?_eq_some_iff.mp h).1

theorem frequency?_isSome {code : Nat} {f : Frequency} (h : frequency? code = some f) : code = 50 ∨ code = 60 := by
  unfold frequency? at h
  split at h
  · exact .inl rfl
  · exact .inr rfl
  · cases h

theorem checkSettingsPut_eq_none {a : SettingsPutArgs} (range : ¬ settingsInRange a) : checkSettingsPut a = none := by
  by_contra accepted
  obtain ⟨⟨set, f, src, trim⟩, isSome⟩ := Option.ne_none_iff_exists'.mp accepted
  unfold checkSettingsPut at isSome
  simp only [Option.bind_eq_bind, Option.bind_eq_some_iff] at isSome
  obtain ⟨pattern, isPattern, mode, isMode, frequency, isFrequency, source, isSource, rest⟩ := isSome
  split at rest
  · next inRange =>
    obtain ⟨duplicate, conflict, stale, budget1, budget4, catchUp, nightStart, nightEnd, trimLow, trimHigh⟩ := inRange
    have patternRange := toFin?_eq_some isPattern
    have modeRange := ofCode_length isMode
    have sourceRange := ofCode_length isSource
    exact range ⟨duplicate, conflict, stale, budget1, budget4, catchUp, nightStart, nightEnd, by omega,
      Nat.lt_succ_iff.mp modeRange, frequency?_isSome isFrequency, Nat.lt_succ_iff.mp sourceRange, trimLow, trimHigh⟩
  · cases rest

theorem Owed.any_eq_true_iff (o : Owed) : o.any = true ↔ ∃ src, (o.held src).isSome = true := by
  unfold Owed.any
  rw [List.any_eq_true]
  exact ⟨fun ⟨src, _, held⟩ => ⟨src, held⟩, fun ⟨src, held⟩ => ⟨src, mem_emissionOrder src, held⟩⟩

/-- Settles O7: each command is carried out or refused as its work says. -/
theorem settingsPauseAndReadingCommands : Obligations.SettingsPauseAndReadingCommands := by
  unfold Obligations.SettingsPauseAndReadingCommands
  refine ⟨fun s takes => ⟨carried_of_work takes rfl rfl, carried_of_work takes rfl rfl, carried_of_work takes rfl rfl,
    carried_of_work takes rfl rfl, s.rps.owed.any, s.rps.owed.any_eq_true_iff, carried_of_work takes rfl rfl⟩,
    fun set f src trim s takes range => carried_of_work takes rfl ?_, fun a s takes range => refused_of_work takes rfl ?_⟩
  · change withChecked s (checkSettingsPut _) _ = _
    rw [checkSettingsPut_fields range]
    rfl
  · change withChecked s (checkSettingsPut a) _ = _
    rw [checkSettingsPut_eq_none range]
    rfl

/-! ### SET_TIME -/

/-- 3.2: a year more. -/
theorem daysToYear_succ {year : Nat} (first : 2000 ≤ year) :
    daysToYear (year + 1) = daysToYear year + if leapYear year then 366 else 365 := by
  unfold daysToYear
  rw [Nat.sub_add_comm first, List.range_succ]
  simp [Nat.add_sub_cancel' first]

theorem daysToMonth_succ (year : Nat) {month : Nat} (first : 1 ≤ month) :
    daysToMonth year (month + 1) = daysToMonth year month + daysInMonth year month := by
  unfold daysToMonth
  obtain ⟨m, rfl⟩ := Nat.exists_eq_add_of_le' first
  simp [List.range_succ]

/-- 3.2: the months of a year make its days. -/
theorem daysToMonth_thirteen (year : Nat) : daysToMonth year 13 = if leapYear year then 366 else 365 := by
  unfold daysToMonth daysInMonth
  cases leapYear year <;> rfl

theorem readingOf_le {a : SetTimeArgs} (range : dateInRange a) :
    readingOf a.year a.month a.day a.hour a.minute a.second ≤ 3155759999 :=
  checkSetTime_le (a := a) (if_pos range)

/-- Settles O11: the pending time by the work of SET_TIME, and the readings by the days of the months and the years. -/
theorem setTimeBecomesThePendingTime : Obligations.SetTimeBecomesThePendingTime := by
  unfold Obligations.SetTimeBecomesThePendingTime
  refine ⟨fun a s takes => ⟨fun range => carried_of_work takes rfl ?_, fun range => refused_of_work takes rfl ?_⟩, rfl,
    fun a range => ⟨readingOf_le range, ?_⟩⟩
  · change withChecked s (checkSetTime a) _ = _
    rw [show checkSetTime a = some _ from if_pos range]
    rfl
  · change withChecked s (checkSetTime a) _ = _
    rw [show checkSetTime a = none from if_neg range]
    rfl
  · obtain ⟨firstYear, lastYear, firstMonth, lastMonth, firstDay, lastDay, hour, minute, second⟩ := range
    have nextMonth := daysToMonth_succ a.year firstMonth
    have nextYear := daysToYear_succ firstYear
    have december := daysToMonth_succ a.year (month := 12) (by omega)
    have january : daysToMonth (a.year + 1) 1 = 0 := rfl
    have dec31 : daysInMonth a.year 12 = 31 := rfl
    have wholeYear := daysToMonth_thirteen a.year
    unfold readingOf
    refine ⟨fun _ => by omega, fun _ => by omega, fun _ => by omega, fun _ => by omega, fun _ => ?_, fun _ => ?_⟩
    · rw [nextMonth]
      omega
    · rw [nextYear, january]
      rw [← wholeYear, december]
      omega

end Sys2Proof.Machine
end

section
/-!
PROOFS. The gate line (chapter 2): its own frames, rounds, grants, probes and the commands of the station table. Obligations
O18 to O25.
-/

namespace Sys2Proof.Machine

open Sys2Proof

/-! ### The raw fields of a payload -/

theorem toFin?_lt {n k : Nat} {i : Fin n} (h : toFin? n k = some i) : k < n := by
  rw [toFin?_eq_some h]
  exact i.isLt

theorem yesNo_le {k : Nat} {b : Bool} (h : yesNo k = some b) : k ≤ 1 := by
  unfold yesNo at h
  split at h
  · exact Nat.zero_le 1
  · exact le_refl 1
  · cases h

theorem yesNo_flag (b : Bool) : yesNo (if b then 1 else 0) = some b := by
  cases b <;> rfl

theorem optionalIndex_range {n k : Nat} {x : Option (Fin n)} (h : optionalIndex n k = some x) : k < n ∨ k = 255 := by
  unfold optionalIndex at h
  split at h
  · next all => exact .inr all
  · rw [Option.map_eq_some_iff] at h
    obtain ⟨i, found, -⟩ := h
    exact .inl (toFin?_lt found)

theorem optionalIndex_some {n : Nat} (below : n ≤ 255) (i : Fin n) : optionalIndex n i.val = some (some i) := by
  have other : i.val ≠ 255 := by omega
  unfold optionalIndex
  rw [if_neg (by exact other), toFin?_val]
  rfl

theorem inSet_takeOut_iff {n : Nat} {m : BitVec n} {i j : Fin n} :
    inSet (takeOut m i) j = true ↔ inSet m j = true ∧ j ≠ i := by
  rw [inSet_takeOut, Bool.and_eq_true, Bool.not_eq_true', decide_eq_false_iff_not, ne_comm]

theorem inSet_addTo_iff {n : Nat} {m : BitVec n} {i j : Fin n} :
    inSet (addTo m i) j = true ↔ inSet m j = true ∨ j = i := by
  rw [inSet_addTo, Bool.or_eq_true, decide_eq_true_iff, eq_comm (a := i)]

/-! ### The part's own frames (R24, R34 to R37) -/

namespace Glc

variable {g : Glc} {reading : Nat} {q : ClockQuality} {spare : Nat}

theorem weigh_of_busy (busy : g.line ≠ .free ∨ g.sending ≠ none) : g.weigh reading q spare = g :=
  if_neg fun ⟨free, idle⟩ => busy.elim (fun h => h free) fun h => h idle

/-- R24: a line that sends its own frame opens no round. -/
theorem weigh_of_sends (free : g.line = .free) (idle : g.sending = none) (sends : (g.sendOwn reading q).line ≠ .free) :
    g.weigh reading q spare = g.sendOwn reading q := by
  unfold Glc.weigh
  rw [if_pos ⟨free, idle⟩]
  simp only [mayOpenRound_of_line_ne_free sends, Bool.false_eq_true, if_false]

theorem nextProbe_eq_none_of_noProbe (noProbe : g.pendingProbes = 0) : g.nextProbe = none := by
  unfold Glc.nextProbe
  rw [noProbe]
  have empty : members (0 : StationSet) = [] := List.eq_nil_iff_forall_not_mem.mpr fun i mem => by
    rw [mem_members] at mem
    simp [inSet] at mem
  rw [empty]
  rfl

/-- The first element of a list of ascending station ids with a property. -/
theorem findSome?_finRange {α : Type} {f : StationId → Option α} {p : StationId → Bool} {id : StationId} {a : α}
    (mem : p id = true) (found : f id = some a) (before : ∀ j, j < id → p j = true → f j = none) :
    ((List.finRange 15).filter p).findSome? f = some a := by
  have split : List.finRange 15 = (List.finRange 15).take id.val ++ id :: (List.finRange 15).drop (id.val + 1) := by
    have bound : id.val < (List.finRange 15).length := by simp
    conv_lhs => rw [← List.take_append_drop id.val (List.finRange 15), List.drop_eq_getElem_cons bound]
    simp
  rw [split, List.filter_append, List.filter_cons_of_pos mem, List.findSome?_append]
  have noneBefore : (((List.finRange 15).take id.val).filter p).findSome? f = none := by
    rw [List.findSome?_eq_none_iff]
    intro j memJ
    obtain ⟨inTake, holds⟩ := List.mem_filter.mp memJ
    obtain ⟨k, bound, isJ⟩ := List.mem_take_iff_getElem.mp inTake
    refine before j ?_ holds
    rw [← isJ]
    have below : k < id.val := (Nat.lt_min.mp bound).1
    simpa [Fin.lt_def] using below
  rw [noneBefore, List.findSome?_cons, found]
  rfl

theorem nextProbe_eq {id : StationId} {c : StationConfig} (pending : inSet g.pendingProbes id = true)
    (config : (g.stations.get id).config = some c)
    (before : ∀ j : StationId, j < id → inSet g.pendingProbes j = true → (g.stations.get j).config = none) :
    g.nextProbe = some (id, c) := by
  unfold Glc.nextProbe members
  refine findSome?_finRange pending ?_ fun j less inProbes => ?_
  · rw [config]; rfl
  · rw [before j less inProbes]; rfl

theorem messageLevel_eq_some_iff {m : DisplayMessage} {level : Option (Fin 15)} :
    g.messageLevel m = some level ↔ addressedTo g m level := by
  unfold Glc.messageLevel addressedTo
  cases m.target with
  | all => simp [eq_comm]
  | station id =>
    simp only [Option.map_eq_some_iff]
    exact exists_congr fun c => and_congr_right fun _ => eq_comm

theorem messageLevel_isSome_eq_false {m : DisplayMessage} (unaddressed : ∀ l, ¬ addressedTo g m l) :
    (g.messageLevel m).isSome = false := by
  rw [← Bool.not_eq_true, Option.isSome_iff_exists]
  rintro ⟨l, found⟩
  exact unaddressed l (messageLevel_eq_some_iff.mp found)

/-- R37: the messages before the first with a configured target are removed. -/
theorem sendable_append {skipped l : List DisplayMessage} (unaddressed : ∀ x ∈ skipped, ∀ l, ¬ addressedTo g x l) :
    g.sendable (skipped ++ l) = g.sendable l := by
  induction skipped with
  | nil => rfl
  | cons x rest ih =>
    have removed : g.sendable (x :: rest ++ l) = g.sendable (rest ++ l) := by
      rw [List.cons_append, Glc.sendable, messageLevel_isSome_eq_false (unaddressed x List.mem_cons_self),
        if_neg Bool.false_ne_true]
    rw [removed]
    exact ih fun y mem => unaddressed y (List.mem_cons_of_mem _ mem)

theorem sendOwn_of_noTime (noTime : g.timePending = false) (noProbe : g.pendingProbes = 0) :
    g.sendOwn reading q = g.sendDisplay := by
  unfold Glc.sendOwn
  rw [noTime, if_neg Bool.false_ne_true, nextProbe_eq_none_of_noProbe noProbe]

theorem sendDisplay_of_none (unaddressed : ∀ x ∈ g.displayQueue, ∀ l, ¬ addressedTo g x l) :
    g.sendDisplay = { g with displayQueue := [] } := by
  unfold Glc.sendDisplay
  have empty : g.sendable g.displayQueue = [] := by
    rw [← List.append_nil g.displayQueue, sendable_append unaddressed]
    rfl
  rw [empty]

theorem mayOpenRound_iff : g.mayOpenRound spare = true ↔ g.line = .free ∧ g.attention = true ∧ g.timePending = false
    ∧ g.pendingProbes = 0 ∧ g.displayQueue = [] ∧ g.restTimer = none ∧ 64 ≤ spare := by
  have threshold : decide (Config.grantThreshold ≤ spare) = true ↔ 64 ≤ spare := decide_eq_true_iff
  unfold Glc.mayOpenRound
  simp only [Bool.and_eq_true, threshold]
  simp [and_assoc]

end Glc

/-- Settles O18: the choice of `weigh` in the order TIME, probe, message, round. -/
theorem freeLineSendsOwnFramesBeforeItOpensARound : Obligations.FreeLineSendsOwnFramesBeforeItOpensARound := by
  unfold Obligations.FreeLineSendsOwnFramesBeforeItOpensARound
  refine ⟨fun g reading q spare busy => Glc.weigh_of_busy busy, fun g reading q spare free idle => ⟨fun time =>
    Glc.weigh_of_timePending free idle time reading q spare, fun id c noTime pending config before => ?_,
    fun skipped m rest level noTime noProbe queue unaddressed addressed => ?_, fun noTime noProbe unaddressed => ?_⟩⟩
  · refine ⟨takeOut g.pendingProbes id, fun j => inSet_takeOut_iff, ?_⟩
    · have own : g.sendOwn reading q = { g with
          pendingProbes := takeOut g.pendingProbes id, probed := some id, line := .own
          sending := some (.probe c.level) } := by
        unfold Glc.sendOwn
        rw [noTime, if_neg Bool.false_ne_true, Glc.nextProbe_eq pending config before]
        rfl
      rw [Glc.weigh_of_sends free idle (by rw [own]; exact (by decide : LineState.own ≠ .free)), own]
  · have own : g.sendOwn reading q = { g with
        displayQueue := rest, line := .own, sending := some (.display level m.text) } := by
      have isLevel := Glc.messageLevel_eq_some_iff.mpr addressed
      rw [Glc.sendOwn_of_noTime noTime noProbe]
      unfold Glc.sendDisplay
      rw [queue, Glc.sendable_append unaddressed, Glc.sendable, isLevel]
      dsimp only [Option.isSome_some]
      rw [if_pos rfl]
      dsimp only
      rw [isLevel]
      rfl
    rw [Glc.weigh_of_sends free idle (by rw [own]; exact (by decide : LineState.own ≠ .free)), own]
  · have own : g.sendOwn reading q = { g with displayQueue := [] } :=
      (Glc.sendOwn_of_noTime noTime noProbe).trans (Glc.sendDisplay_of_none unaddressed)
    unfold Glc.weigh
    rw [if_pos ⟨free, idle⟩, own]
    dsimp only
    refine ⟨fun ⟨pulled, rested, room⟩ => ?_, fun stays => ?_⟩
    · exact if_pos (Glc.mayOpenRound_iff (g := { g with displayQueue := [] }).mpr
        ⟨free, pulled, noTime, noProbe, rfl, rested, room⟩)
    · refine if_neg fun opens => ?_
      obtain ⟨-, pulled, -, -, -, rested, room⟩ := Glc.mayOpenRound_iff.mp opens
      rcases stays with still | running | full
      · exact absurd (still.symm.trans pulled) (by decide)
      · exact running rested
      · exact absurd room (Nat.not_le.mpr full)

/-! ### Rounds (R25) -/

section Rounds

variable {g : Glc} {answered : BitVec 15} {i w : StationId} {c : StationConfig}

theorem contender_iff : (∃ c, contender g answered i c) ↔ (g.stations.get i).contends answered = true :=
  (Station.contends_iff _ _).symm

theorem contender_of_config (contends : (g.stations.get i).contends answered = true)
    (config : (g.stations.get i).config = some c) : contender g answered i c := by
  obtain ⟨c', config', rest⟩ := (Station.contends_iff _ _).mp contends
  cases config.symm.trans config'
  exact ⟨config, rest⟩

/-- R25: a station's state after the slots, the holds cleared or not. -/
def stateAfter (answered : BitVec 15) (cleared : Bool) (r : Station) : StationState :=
  if cleared then ((r.afterSlots answered).clearHold answered).state else (r.afterSlots answered).state

theorem Station.afterSlots_eq (r : Station) : r.afterSlots answered = { r with
    state := if r.contends answered = true ∧ r.state = .idle then .contending
      else if r.contends answered = false ∧ r.config.isSome = true ∧ r.state = .contending then .idle else r.state } := by
  unfold Station.afterSlots
  cases contends : r.contends answered with
  | true => by_cases idle : r.state = .idle <;> simp [idle]
  | false => by_cases leaves : r.config.isSome = true ∧ r.state = .contending <;> simp [leaves]

theorem Station.clearHold_eq (r : Station) : r.clearHold answered = { r with
    state := if r.state = .hold then (if r.contends answered = true then .contending else .idle) else r.state } := by
  unfold Station.clearHold
  split
  · split <;> rfl
  · rfl

/-- R25: the slots neither suspend a station nor restore one. -/
theorem Station.afterSlots_contends (r : Station) : (r.afterSlots answered).contends answered = r.contends answered := by
  rw [Bool.eq_iff_iff, Station.contends_iff, Station.contends_iff, Station.afterSlots_eq]
  refine exists_congr fun c => and_congr_right fun config => and_congr_right fun enabled => ?_
  dsimp only
  split
  · next idle => simp [idle.2]
  · split
    · next contending => simp [contending.2.2]
    · rfl

theorem roundStates_stateAfter (cleared : Bool) :
    RoundStates g answered cleared fun i => stateAfter answered cleared (g.stations.get i) := by
  intro i
  rw [contender_iff]
  unfold stateAfter
  dsimp only
  rw [Station.clearHold_eq, Station.afterSlots_contends, Station.afterSlots_eq]
  constructor
  · intro contends
    cases cleared <;> cases state : (g.stations.get i).state <;> simp [contends]
  · intro silent
    rw [Bool.not_eq_true] at silent
    cases cleared <;> cases state : (g.stations.get i).state <;>
      cases (g.stations.get i).config <;> simp [silent]

/-- R25: whether the holds are cleared: every contender is in HOLD. -/
def holdsCleared (t : Table 15 Station) (answered : BitVec 15) : Bool :=
  (unheld (t.map (Station.afterSlots answered)) answered).isEmpty
    && anyContender (t.map (Station.afterSlots answered)) answered

theorem roundStations_get (t : Table 15 Station) (answered : BitVec 15) (i : StationId) :
    (roundStations t answered).get i = { t.get i with state := stateAfter answered (holdsCleared t answered) (t.get i) } := by
  unfold roundStations stateAfter holdsCleared
  dsimp only
  split
  · rw [Table.get_map, Table.get_map, Station.clearHold_eq, Station.afterSlots_eq]
  · rw [Table.get_map, Station.afterSlots_eq]

theorem afterSlots_hold {r : Station} : (r.afterSlots answered).state = .hold ↔ r.state = .hold := by
  rw [Station.afterSlots_eq]
  cases r.contends answered <;> cases r.state <;> cases r.config <;> simp

theorem anyContender_iff {t : Table 15 Station} : anyContender (t.map (Station.afterSlots answered)) answered = true ↔
    ∃ i, (t.get i).contends answered = true := by
  unfold anyContender
  simp [Station.afterSlots_contends]

theorem mem_unheld_afterSlots {t : Table 15 Station} : i ∈ unheld (t.map (Station.afterSlots answered)) answered ↔
    (t.get i).contends answered = true ∧ (t.get i).state ≠ .hold := by
  rw [mem_unheld, Table.get_map, Station.afterSlots_contends, ne_eq, afterSlots_hold]

theorem holdsCleared_iff {t : Table 15 Station} : holdsCleared t answered = true ↔
    (∃ i, (t.get i).contends answered = true) ∧ ∀ i, (t.get i).contends answered = true → (t.get i).state = .hold := by
  unfold holdsCleared
  rw [Bool.and_eq_true, anyContender_iff, and_comm, List.isEmpty_iff, List.eq_nil_iff_forall_not_mem]
  refine and_congr_right fun _ => forall_congr' fun i => ?_
  rw [mem_unheld_afterSlots, not_and, ne_eq, not_not]

theorem stateAfter_suspended {cleared : Bool} {r : Station} :
    stateAfter answered cleared r = .suspended ↔ r.state = .suspended := by
  unfold stateAfter
  rw [Station.clearHold_eq, Station.afterSlots_contends, Station.afterSlots_eq]
  cases cleared <;> cases r.state <;> cases r.contends answered <;> cases r.config <;> simp

theorem stateAfter_hold {cleared : Bool} {r : Station} :
    stateAfter answered cleared r = .hold ↔ cleared = false ∧ r.state = .hold := by
  unfold stateAfter
  rw [Station.clearHold_eq, Station.afterSlots_contends, Station.afterSlots_eq]
  cases cleared <;> cases r.state <;> cases r.contends answered <;> cases r.config <;> simp

theorem contends_stateAfter {cleared : Bool} {r : Station} :
    Station.contends { r with state := stateAfter answered cleared r } answered = r.contends answered := by
  rw [Bool.eq_iff_iff, Station.contends_iff, Station.contends_iff]
  refine exists_congr fun c => and_congr_right fun _ => and_congr_right fun _ => and_congr_left fun _ => ?_
  exact not_congr stateAfter_suspended

/-- R25: among which stations the winner is chosen. -/
theorem mem_unheld_roundStations {t : Table 15 Station} : i ∈ unheld (roundStations t answered) answered ↔
    (t.get i).contends answered = true ∧ (holdsCleared t answered = true ∨ (t.get i).state ≠ .hold) := by
  rw [mem_unheld, roundStations_get, contends_stateAfter]
  refine and_congr_right fun _ => ?_
  dsimp only
  rw [ne_eq, stateAfter_hold, not_and_or, Bool.not_eq_false]

theorem lowestLevel_none {t : Table 15 Station} {l : List StationId} (noWinner : lowestLevel t l = none) :
    ∀ j ∈ l, (t.get j).config = none := by
  induction l with
  | nil => exact fun _ mem => absurd mem List.not_mem_nil
  | cons k rest ih =>
    intro j mem
    cases config : (t.get k).config with
    | none =>
      rw [lowestLevel, config] at noWinner
      rcases List.mem_cons.mp mem with rfl | inRest
      · exact config
      · exact ih noWinner j inRest
    | some c =>
      rw [lowestLevel, config] at noWinner
      cases best : lowestLevel t rest with
      | none => rw [best] at noWinner; cases noWinner
      | some b =>
        rw [best] at noWinner
        dsimp only at noWinner
        split at noWinner <;> cases noWinner

/-- R25: no station of a list has a lower level than its winner. -/
theorem lowestLevel_least {t : Table 15 Station} {l : List StationId} {id : StationId} {c : StationConfig}
    (found : lowestLevel t l = some (id, c)) : ∀ j ∈ l, ∀ d, (t.get j).config = some d → c.level ≤ d.level := by
  induction l generalizing id c with
  | nil => cases found
  | cons k rest ih =>
    intro j mem d isD
    have cases_mem : j = k ∨ j ∈ rest := List.mem_cons.mp mem
    cases config : (t.get k).config with
    | none =>
      rw [lowestLevel, config] at found
      rcases cases_mem with rfl | inRest
      · cases config.symm.trans isD
      · exact ih found j inRest d isD
    | some own =>
      rw [lowestLevel, config] at found
      cases best : lowestLevel t rest with
      | none =>
        rw [best] at found
        cases found
        rcases cases_mem with rfl | inRest
        · cases config.symm.trans isD
          exact le_refl _
        · cases (lowestLevel_none best j inRest).symm.trans isD
      | some b =>
        obtain ⟨jb, db⟩ := b
        rw [best] at found
        dsimp only at found
        split at found
        · next lower =>
          cases found
          rcases cases_mem with rfl | inRest
          · cases config.symm.trans isD
            exact le_refl _
          · exact lower.trans (ih best j inRest d isD)
        · next higher =>
          cases found
          rcases cases_mem with rfl | inRest
          · cases config.symm.trans isD
            exact le_of_lt (not_le.mp higher)
          · exact ih best j inRest d isD

/-- R25, R26: the contender of the lowest level among those that stand is granted. -/
theorem Glc.roundResult_of_winner (budget : Nat) (contends : contender g answered w c)
    (stands : holdsCleared g.stations answered = true ∨ (g.stations.get w).state ≠ .hold)
    (distinct : ∀ i j ci cj, (g.stations.get i).config = some ci → (g.stations.get j).config = some cj →
      ci.level = cj.level → i = j)
    (least : ∀ i ci, contender g answered i ci →
      holdsCleared g.stations answered = true ∨ (g.stations.get i).state ≠ .hold → c.level ≤ ci.level) :
    g.roundResult answered budget = ({ g with stations := roundStations g.stations answered } : Glc).grantTo w c budget := by
  have mem : w ∈ unheld (roundStations g.stations answered) answered :=
    mem_unheld_roundStations.mpr ⟨contender_iff.mp ⟨c, contends⟩, stands⟩
  have sameConfig : ∀ i, ((roundStations g.stations answered).get i).config = (g.stations.get i).config := fun i => by
    rw [roundStations_get]
  have configW : ((roundStations g.stations answered).get w).config = some c := (sameConfig w).trans contends.1
  unfold Glc.roundResult
  dsimp only
  cases winner : lowestLevel (roundStations g.stations answered) (unheld (roundStations g.stations answered) answered) with
  | none => cases configW.symm.trans (lowestLevel_none winner w mem)
  | some best =>
    obtain ⟨id, d⟩ := best
    obtain ⟨memId, configId⟩ := lowestLevel_some winner
    rw [sameConfig] at configId
    obtain ⟨contendsId, standsId⟩ := mem_unheld_roundStations.mp memId
    have level : d.level = c.level := le_antisymm (lowestLevel_least winner w mem c configW)
      (least id d (contender_of_config contendsId configId) standsId)
    obtain rfl := distinct id w d c configId contends.1 level
    cases configId.symm.trans contends.1
    rfl

/-- R25: a round without a contender. -/
theorem Glc.roundResult_of_none (budget : Nat) (none : ∀ i c, ¬ contender g answered i c) :
    g.roundResult answered budget = { g with
      stations := roundStations g.stations answered, line := .free, restTimer := some (Config.tensOfMs 5) } := by
  have empty : unheld (roundStations g.stations answered) answered = [] :=
    List.eq_nil_iff_forall_not_mem.mpr fun i mem => by
      obtain ⟨c, contends⟩ := contender_iff.mpr (mem_unheld_roundStations.mp mem).1
      exact none i c contends
  unfold Glc.roundResult
  dsimp only
  rw [empty]
  rfl

theorem exec_roundResult {s : State} (notLow : s.tbu.supply ≠ .low) (line : s.glc.line = .round) (answered : BitVec 15) :
    exec (.roundResult answered) s =
      .next (s.withGlc (s.glc.roundResult answered s.olc.settings.burstBudget)).settle :=
  if_pos ⟨line, (State.isLow_eq_false_iff s).mpr notLow⟩

end Rounds

/-- Settles O19: the states after the slots, the winner of the lowest level that stands, and the rest of an empty round. -/
theorem roundGrantsTheLowestLevelNotHeld : Obligations.RoundGrantsTheLowestLevelNotHeld := by
  unfold Obligations.RoundGrantsTheLowestLevelNotHeld
  refine ⟨fun answered w c cleared s notLow line distinct contends isCleared least stands => ?_,
    fun answered s notLow line none => ?_, fun answered s outside => ?_⟩
  · have same : holdsCleared s.glc.stations answered = cleared := by
      rw [Bool.eq_iff_iff, isCleared, holdsCleared_iff]
      constructor
      · exact fun ⟨_, held⟩ i ci contendsI => held i (contender_iff.mp ⟨ci, contendsI⟩)
      · refine fun held => ⟨⟨w, contender_iff.mp ⟨c, contends⟩⟩, fun i contendsI => ?_⟩
        obtain ⟨ci, contendsI⟩ := contender_iff.mpr contendsI
        exact held i ci contendsI
    refine ⟨_, (roundStations s.glc.stations answered).modify w fun r => { r with state := .granted },
      fun i => stateAfter answered cleared (s.glc.stations.get i), exec_roundResult notLow line answered,
      roundStates_stateAfter cleared, fun i => ?_, settled_of_settle ?_⟩
    · by_cases own : i = w
      · rw [own, Table.get_modify_self, roundStations_get, if_pos rfl]
      · rw [Table.get_modify_of_ne _ _ _ _ (Ne.symm own), roundStations_get, if_neg own, same]
    · rw [Glc.roundResult_of_winner _ contends (same ▸ stands) distinct (same ▸ least)]
      rfl
  · have notCleared : holdsCleared s.glc.stations answered = false := by
      rw [← Bool.not_eq_true, holdsCleared_iff]
      rintro ⟨⟨i, contends⟩, -⟩
      obtain ⟨c, contends⟩ := contender_iff.mpr contends
      exact none i c contends
    refine ⟨_, roundStations s.glc.stations answered, fun i => stateAfter answered false (s.glc.stations.get i),
      exec_roundResult notLow line answered, roundStates_stateAfter false, fun i => ?_, settled_of_settle ?_⟩
    · rw [roundStations_get, notCleared]
    · rw [Glc.roundResult_of_none _ none]
      rfl
  · refine if_neg fun ⟨line, notLow⟩ => ?_
    rcases outside with low | other
    · exact (State.isLow_eq_false_iff s).mp notLow low
    · exact other line

/-! ### The last byte of a frame -/

theorem exec_gateFrameSent {s : State} {f : GateFrame} (sending : s.glc.sending = some f) :
    exec .gateFrameSent s = .next (s.withGlc (s.glc.frameSent f)).settle := by
  change execGateFrameSent s = _
  unfold execGateFrameSent
  rw [sending]

/-- Settles O20: `frameSent` for each kind of frame. -/
theorem lastByteOfAGateFrame : Obligations.LastByteOfAGateFrame := by
  unfold Obligations.LastByteOfAGateFrame
  refine ⟨fun s gr grant => ⟨fun level budget sending => ?_, fun level code release sending => ?_,
    fun level code release sending => ?_⟩, fun s level id sending probed => ?_,
    fun s f sending noGrant noProbe => ?_, fun s idle => ?_⟩
  · refine ⟨_, exec_gateFrameSent sending, settled_of_settle ?_⟩
    unfold Glc.frameSent
    rw [grant]
    rfl
  · refine ⟨_, exec_gateFrameSent sending, settled_of_settle ?_⟩
    unfold Glc.frameSent
    rw [grant]
    rfl
  · refine ⟨_, exec_gateFrameSent sending, settled_of_settle ?_⟩
    unfold Glc.frameSent
    rw [grant]
    rfl
  · refine ⟨_, exec_gateFrameSent sending, settled_of_settle ?_⟩
    unfold Glc.frameSent
    dsimp only
    rw [probed]
    rfl
  · refine ⟨_, exec_gateFrameSent sending, settled_of_settle ?_⟩
    have freed : s.glc.frameSent f = { s.glc with sending := none, line := .free } := by
      unfold Glc.frameSent
      dsimp only
      cases f with
      | grant _ _ | reply _ _ _ _ => dsimp only; rw [noGrant trivial]
      | probe _ => dsimp only; rw [noProbe ⟨_, rfl⟩]
      | time _ _ | display _ _ => rfl
    rw [freed]
    rfl
  · unfold Ignored After
    change execGateFrameSent s = _
    unfold execGateFrameSent
    rw [idle]

end Sys2Proof.Machine
end

section
/-!
PROOFS. Frames and timers under a grant or a probe (2.4, 2.5), and the commands of the station table (2.1, 2.6). Obligations
O21 to O25.
-/

namespace Sys2Proof.Machine

open Sys2Proof

/-! ### Reports beside the gate line -/

/-- R170: a report is made without regard to the gate line. -/
theorem State.nonPunch_withGlc (s : State) (g : Glc) (src : ReportSource) (b : ReportBody) :
    (s.withGlc g).nonPunch src b = (s.nonPunch src b).withGlc g := by
  unfold State.nonPunch
  split
  · next stored => rw [if_pos (by exact stored)]; rfl
  · next owed => rw [if_neg (by exact owed)]; rfl

theorem State.stationReport_withGlc (s : State) (g : Glc) (id : StationId) (event : StationEvent) :
    (s.withGlc g).stationReport id event = (s.stationReport id event).withGlc g := s.nonPunch_withGlc g _ _

theorem State.statusReports_withGlc (s : State) (g : Glc) (id : StationId) (tamper fault : Bool) :
    (s.withGlc g).statusReports id tamper fault = (s.statusReports id tamper fault).withGlc g := by
  unfold State.statusReports
  cases tamper <;> cases fault <;> simp only [State.stationReport_withGlc, if_true, if_false, Bool.false_eq_true]

theorem State.statusReports_eq (s : State) (id : StationId) (tamper fault : Bool) :
    s.statusReports id tamper fault = statusReported s id false tamper fault := by
  have calendar := (TouchesStore.stationReport s id .tamper).tbu
  unfold State.statusReports statusReported
  dsimp only
  rw [if_neg Bool.false_ne_true]
  cases tamper with
  | false => rfl
  | true =>
    rw [if_pos rfl, if_pos rfl]
    unfold State.stationReport at calendar ⊢
    rw [calendar]

/-! ### Frames under a grant -/

theorem Glc.takeFrame_eq (g : Glc) (gr : Grant) : g.takeFrame gr = frameTaken g gr := rfl

section Frames

variable {s : State} {gr : Grant} {c : StationConfig}

theorem State.receiving_of (notLow : s.tbu.supply ≠ .low) (idle : s.glc.sending = none) : s.receiving = true :=
  s.receiving_iff.mpr ⟨idle, notLow⟩

theorem exec_punchFrame (notLow : s.tbu.supply ≠ .low) (idle : s.glc.sending = none) (grant : s.glc.grant = some gr)
    (config : s.stationConfig gr.station = some c) (badge age : Nat) (more : Bool) :
    exec (.punchFrame badge age more) s = .next (s.punchUnderGrant gr c badge age more).settle := by
  change execPunchFrame badge age more s = _
  unfold execPunchFrame
  rw [State.receiving_of notLow idle, grant]
  dsimp only
  rw [config]

theorem exec_statusFrame (notLow : s.tbu.supply ≠ .low) (idle : s.glc.sending = none) (grant : s.glc.grant = some gr)
    (config : s.stationConfig gr.station = some c) (tamper fault : Bool) :
    exec (.statusFrame tamper fault) s = .next (s.statusUnderGrant gr c tamper fault).settle := by
  change execStatusFrame tamper fault s = _
  unfold execStatusFrame
  rw [if_pos (State.receiving_of notLow idle), grant]
  dsimp only
  rw [config]

theorem replyEnds_iff {more : Bool} {taken budget : Nat} {code : ReplyCode} :
    replyEnds more taken budget code = true ↔ more = false ∨ budget ≤ taken ∨ code = .wait := by
  unfold replyEnds
  rw [Bool.or_eq_true, Bool.or_eq_true, Bool.not_eq_true', decide_eq_true_iff, beq_iff_eq, or_assoc]

end Frames

/-- Settles O21: the judging of the punch on the state with the frame taken, and the reply by its END rule. -/
theorem punchesAreAnsweredInsideTheGrant : Obligations.PunchesAreAnsweredInsideTheGrant := by
  unfold Obligations.PunchesAreAnsweredInsideTheGrant
  refine ⟨fun badge age more s gr c notLow idle grant config => ?_, fun badge age more s discards => ?_⟩
  · have glc := (TouchesStaff.judge (s.withGlc (s.glc.takeFrame gr))
      ((s.withGlc (s.glc.takeFrame gr)).punchOf gr.station c badge age)).glc
    refine ⟨_, _, replyEnds more (gr.taken + 1) gr.budget _, exec_punchFrame notLow idle grant config badge age more, rfl,
      replyEnds_iff, glc, settled_of_settle ?_⟩
    unfold State.punchUnderGrant
    dsimp only
    rw [glc]
    rfl
  · unfold Ignored After
    change execPunchFrame badge age more s = _
    unfold execPunchFrame
    split
    · next receiving grant =>
      obtain ⟨idle, notLow⟩ := s.receiving_iff.mp receiving
      rcases discards with low | busy | none
      · exact absurd low notLow
      · exact absurd idle busy
      · cases grant.symm.trans none
    · rfl

/-- R32: what a STATUS frame in a probe wait reports, and what it makes of its station. -/
theorem State.probeAnswer_eq (s : State) (id : StationId) (tamper fault : Bool) : s.probeAnswer id tamper fault =
    (statusReported s id (decide ((s.glc.stations.get id).state = .suspended)) tamper fault).withGlc { s.glc with
      stations := if (s.glc.stations.get id).state = .suspended then
          s.glc.stations.set id { s.glc.stations.get id with state := .idle, timeouts := 0, probeTimer := none }
        else s.glc.stations
      line := .free, probed := none, probeWait := none } := by
  have glc := (TouchesStore.statusReports s id tamper fault).glc
  unfold State.probeAnswer State.restoreStation
  dsimp only
  by_cases suspended : (s.glc.stations.get id).state = .suspended
  · have reports : statusReported s id true tamper fault
        = statusReported (s.stationReport id .restored) id false tamper fault := by
      have calendar := (TouchesStore.stationReport s id .restored).tbu
      unfold statusReported
      dsimp only
      rw [calendar]
      rfl
    rw [if_pos suspended, if_pos suspended, decide_eq_true suspended, reports, ← State.statusReports_eq]
    unfold State.setStation
    rw [State.stationReport_withGlc, State.statusReports_withGlc]
    rfl
  · rw [if_neg suspended, if_neg suspended, decide_eq_false suspended, ← State.statusReports_eq, glc]
    rfl

/-- Settles O22: the reports of the frame beside what the grant or the probe wait makes of the line. -/
theorem statusFramesAreNotedOrAnswerAProbe : Obligations.StatusFramesAreNotedOrAnswerAProbe := by
  unfold Obligations.StatusFramesAreNotedOrAnswerAProbe
  refine ⟨fun tamper fault s gr c notLow idle grant config => ?_, fun tamper fault s id notLow idle noGrant probed => ?_,
    fun tamper fault s discards => ?_⟩
  · refine ⟨_, exec_statusFrame notLow idle grant config tamper fault, settled_of_settle ?_⟩
    unfold State.statusUnderGrant
    dsimp only
    rw [State.statusReports_withGlc, State.statusReports_eq]
    rfl
  · refine ⟨_, _, ?_, rfl, settled_of_settle (s.probeAnswer_eq id tamper fault)⟩
    unfold After
    change execStatusFrame tamper fault s = _
    unfold execStatusFrame
    rw [if_pos (State.receiving_of notLow idle), noGrant, probed]
  · unfold Ignored After
    change execStatusFrame tamper fault s = _
    unfold execStatusFrame
    split
    · next receiving =>
      obtain ⟨idle, notLow⟩ := s.receiving_iff.mp receiving
      rcases discards with low | busy | ⟨noGrant, noProbe⟩
      · exact absurd low notLow
      · exact absurd idle busy
      · rw [noGrant, noProbe]
    · rfl

/-! ### Timers -/

section Timers

variable {s : State} {gr : Grant}

theorem exec_grantTimeout (notLow : s.tbu.supply ≠ .low) (grant : s.glc.grant = some gr) (runs : gr.timer.isSome = true) :
    exec .grantTimeout s = .next (s.grantTimeout gr).settle := by
  change execGrantTimeout s = _
  unfold execGrantTimeout
  rw [grant]
  exact if_pos ⟨runs, (State.isLow_eq_false_iff s).mpr notLow⟩

/-- R30: the first and the second timeout. -/
theorem State.grantTimeout_hold (few : (s.glc.stations.get gr.station).timeouts < 2) : s.grantTimeout gr =
    s.withGlc { s.glc with
      grant := none, line := .free
      stations := s.glc.stations.set gr.station { s.glc.stations.get gr.station with
        state := .hold, timeouts := (s.glc.stations.get gr.station).timeouts + 1 } } := by
  have held : (s.glc.stations.get gr.station).timedOut = { s.glc.stations.get gr.station with
      state := .hold, timeouts := (s.glc.stations.get gr.station).timeouts + 1 } := if_neg (by omega)
  unfold State.grantTimeout
  rw [held]
  exact if_neg (by simp)

/-- R30: the third timeout. -/
theorem State.grantTimeout_suspended (third : 2 ≤ (s.glc.stations.get gr.station).timeouts) : s.grantTimeout gr =
    (s.withGlc { s.glc with
      grant := none, line := .free
      stations := s.glc.stations.set gr.station { s.glc.stations.get gr.station with
        state := .suspended, timeouts := 0, probeTimer := some (Config.seconds 60) } }).stationReport gr.station
          .suspended := by
  have suspended : (s.glc.stations.get gr.station).timedOut = { s.glc.stations.get gr.station with
      state := .suspended, timeouts := 0, probeTimer := some (Config.seconds 60) } := if_pos (by omega)
  unfold State.grantTimeout
  rw [suspended]
  exact if_pos rfl

end Timers

/-- Settles O23: what each timer of the gate line and the attention wire leave. -/
theorem gateLineTimersAndTheAttentionWire : Obligations.GateLineTimersAndTheAttentionWire := by
  unfold Obligations.GateLineTimersAndTheAttentionWire
  refine ⟨fun s gr notLow grant runs => ⟨fun few => ?_, fun third => ?_⟩, fun s id notLow runs => ?_,
    fun s notLow line => ?_, fun s stopped => ?_, fun pulled s => ⟨_, rfl, State.settle_settled _⟩,
    fun s notLow runs => ?_, fun s stopped => ?_, fun s id stopped => ?_, fun s outside => ?_⟩
  · exact ⟨_, exec_grantTimeout notLow grant runs, settled_of_settle (State.grantTimeout_hold few)⟩
  · exact ⟨_, exec_grantTimeout notLow grant runs, settled_of_settle (State.grantTimeout_suspended third)⟩
  · exact ⟨_, addTo s.glc.pendingProbes id, if_pos ⟨runs, (State.isLow_eq_false_iff s).mpr notLow⟩,
      fun j => inSet_addTo_iff, State.settle_settled _⟩
  · exact ⟨_, if_pos ⟨line, (State.isLow_eq_false_iff s).mpr notLow⟩, State.settle_settled _⟩
  · unfold Ignored After
    change execGrantTimeout s = _
    unfold execGrantTimeout
    split
    · rfl
    · next gr grant =>
      refine if_neg fun ⟨runs, notLow⟩ => ?_
      rcases stopped with low | none | ⟨gr', grant', timer⟩
      · exact (State.isLow_eq_false_iff s).mp notLow low
      · cases grant.symm.trans none
      · cases grant.symm.trans grant'
        rw [timer] at runs
        cases runs
  · exact ⟨_, if_pos ⟨runs, (State.isLow_eq_false_iff s).mpr notLow⟩, State.settle_settled _⟩
  · refine if_neg fun ⟨runs, notLow⟩ => ?_
    rcases stopped with low | none
    · exact (State.isLow_eq_false_iff s).mp notLow low
    · rw [none] at runs
      cases runs
  · refine if_neg fun ⟨runs, notLow⟩ => ?_
    rcases stopped with low | none
    · exact (State.isLow_eq_false_iff s).mp notLow low
    · rw [none] at runs
      cases runs
  · refine if_neg fun ⟨line, notLow⟩ => ?_
    rcases outside with low | other
    · exact (State.isLow_eq_false_iff s).mp notLow low
    · exact other line

/-! ### The station table -/

theorem checkStationPut_fields (id : StationId) (configured : Bool) (c : StationConfig) :
    checkStationPut (stationFields id configured c) = some (id, configured, c) := by
  have mode : ofCode stationModes (stationFields id configured c).mode = some c.mode := by
    unfold stationFields
    dsimp only
    cases c.mode <;> rfl
  have door : optionalIndex 16 (stationFields id configured c).door = some c.door := by
    unfold stationFields
    dsimp only
    cases c.door with
    | none => rfl
    | some d => exact optionalIndex_some (by decide) d
  unfold checkStationPut
  rw [mode, door]
  simp only [stationFields, toFin?_val, yesNo_flag, Option.bind_eq_bind, Option.bind_some]

theorem checkStationPut_eq_none {a : StationPutArgs} (range : ¬ stationInRange a) : checkStationPut a = none := by
  by_contra accepted
  obtain ⟨x, isSome⟩ := Option.ne_none_iff_exists'.mp accepted
  unfold checkStationPut at isSome
  simp only [Option.bind_eq_bind, Option.bind_eq_some_iff] at isSome
  obtain ⟨id, isId, configured, isConfigured, level, isLevel, mode, isMode, door, isDoor, zone, isZone, enabled, isEnabled,
    -⟩ := isSome
  refine range ⟨Nat.lt_succ_iff.mp (toFin?_lt isId), yesNo_le isConfigured, Nat.lt_succ_iff.mp (toFin?_lt isLevel),
    Nat.lt_succ_iff.mp (ofCode_length isMode), ?_, Nat.lt_succ_iff.mp (toFin?_lt isZone), yesNo_le isEnabled⟩
  exact (optionalIndex_range isDoor).imp_left Nat.lt_succ_iff.mp

theorem levelTaken_iff (s : State) (id : StationId) (level : Fin 15) :
    s.glc.levelTaken id level = true ↔ levelHeld s id level := by
  rw [← Bool.not_eq_false, Glc.levelTaken_eq_false_iff]
  unfold levelHeld State.stationConfig
  simp only [not_forall, ne_eq, not_not, exists_prop]

/-- R29: a put ends the current grant of its station. -/
theorem Glc.endGrantOf_eq (g : Glc) (id : StationId) : g.endGrantOf id = grantEnded g id := by
  unfold Glc.endGrantOf grantEnded
  cases grant : g.grant with
  | none => rfl
  | some gr =>
    dsimp only
    split
    · next own =>
      rw [Glc.Fits.endGrant_eq grant, own]
      cases g.sending <;> rfl
    · rfl

section StationPut

variable {s : State} {id : StationId}

theorem stationPut_work (s : State) (id : StationId) (configured : Bool) (c : StationConfig) :
    commandWork s (.stationPut (.fields (stationFields id configured c))) =
      if configured && s.glc.levelTaken id c.level then denied s .duplicateLevel
      else done (s.withGlc (s.glc.putStation id configured c)) .none := by
  change withChecked s (checkStationPut _) _ = _
  rw [checkStationPut_fields]
  rfl

theorem Glc.putStation_new {g : Glc} (unconfigured : (g.stations.get id).config = none) (c : StationConfig) :
    g.putStation id true c = { g with stations := g.stations.set id ⟨some c, .idle, 0, none⟩ } := by
  unfold Glc.putStation
  rw [unconfigured]

theorem Glc.putStation_replaced {g : Glc} (configured : (g.stations.get id).config ≠ none) (c : StationConfig) :
    g.putStation id true c = grantEnded { g with
      stations := g.stations.set id { g.stations.get id with config := some c } } id := by
  obtain ⟨old, isOld⟩ := Option.ne_none_iff_exists'.mp configured
  rw [← Glc.endGrantOf_eq]
  unfold Glc.putStation
  rw [isOld]
  rfl

theorem Glc.putStation_absent {g : Glc} (unconfigured : (g.stations.get id).config = none) (c : StationConfig) :
    g.putStation id false c = g := by
  unfold Glc.putStation
  rw [unconfigured]

/-- Only the station of the grant is touched when a put ends it. -/
theorem grantEnded_set (g : Glc) (id : StationId) (r : Station) :
    (grantEnded g id).stations.set id r = g.stations.set id r := by
  have kept : ∀ x : Station, (g.stations.set id x).set id r = g.stations.set id r := fun x => Table.ext_get _ _ fun i => by
    rw [Table.get_set, Table.get_set, Table.get_set]
    split <;> rfl
  unfold grantEnded
  split
  · split
    · exact kept _
    · rfl
  · rfl

theorem grantEnded_frame (g : Glc) (id : StationId) : (grantEnded g id).pendingProbes = g.pendingProbes ∧
    (grantEnded g id).probed = g.probed ∧ (grantEnded g id).probeWait = g.probeWait := by
  unfold grantEnded
  split
  · split <;> exact ⟨rfl, rfl, rfl⟩
  · exact ⟨rfl, rfl, rfl⟩

theorem Glc.putStation_removed {g : Glc} (configured : (g.stations.get id).config ≠ none) (c : StationConfig) :
    g.putStation id false c = { grantEnded g id with
      stations := g.stations.set id ⟨none, .idle, 0, none⟩
      pendingProbes := takeOut g.pendingProbes id
      probed := if g.probed = some id then none else g.probed
      probeWait := if g.probed = some id then none else g.probeWait
      line := if g.probed = some id ∧ (grantEnded g id).line = .probeWait then .free else (grantEnded g id).line } := by
  obtain ⟨old, isOld⟩ := Option.ne_none_iff_exists'.mp configured
  obtain ⟨probes, probed, probeWait⟩ := grantEnded_frame g id
  have stations := grantEnded_set g id Station.cold
  unfold Glc.putStation Glc.dropProbe
  rw [isOld]
  dsimp only
  rw [Glc.endGrantOf_eq, probed, probes]
  by_cases own : g.probed = some id
  · rw [if_pos own]
    dsimp only
    rw [stations]
    simp only [own, if_true, true_and]
    rfl
  · rw [if_neg own]
    dsimp only
    rw [stations, probeWait]
    simp only [own, false_and, if_false]
    rfl

end StationPut

/-- Settles O24: the cases of `putStation`. -/
theorem stationPutReplacesTheRecord : Obligations.StationPutReplacesTheRecord := by
  unfold Obligations.StationPutReplacesTheRecord
  have free : ∀ {s : State} {id : StationId} {c : StationConfig}, ¬ levelHeld s id c.level →
      (true && s.glc.levelTaken id c.level) ≠ true := fun {s id c} held taken => by
    rw [Bool.true_and] at taken
    exact held ((levelTaken_iff s id c.level).mp taken)
  refine ⟨fun id c s takes held => ⟨fun unconfigured => ?_, fun configured => ?_⟩, fun id c s takes =>
    ⟨fun unconfigured => ?_, fun configured => ⟨takeOut s.glc.pendingProbes id, fun j => inSet_takeOut_iff, ?_⟩⟩,
    fun id c s takes held => ?_, fun a s takes range => ?_⟩
  · refine carried_of_work takes rfl ?_
    rw [stationPut_work, if_neg (free held), Glc.putStation_new unconfigured]
    rfl
  · refine carried_of_work takes rfl ?_
    rw [stationPut_work, if_neg (free held), Glc.putStation_replaced configured]
    rfl
  · refine carried_of_work takes rfl ?_
    rw [stationPut_work, Bool.false_and, if_neg Bool.false_ne_true, Glc.putStation_absent unconfigured]
    rfl
  · refine carried_of_work takes rfl ?_
    rw [stationPut_work, Bool.false_and, if_neg Bool.false_ne_true, Glc.putStation_removed configured]
    rfl
  · refine refused_of_work takes rfl ?_
    rw [stationPut_work, Bool.true_and, if_pos ((levelTaken_iff s id c.level).mpr held)]
  · refine refused_of_work takes rfl ?_
    change withChecked s (checkStationPut a) _ = _
    rw [checkStationPut_eq_none range]
    rfl

/-! ### STATION_GET, STATION_RESUME and DISPLAY -/

section Display

variable {text : List Nat}

/-- R36: the characters of a message. -/
theorem display_unfit_iff : (32 < text.length ∨ text.any (fun c => c < 32 || 126 < c) = true) ↔
    32 < text.length ∨ ∃ c ∈ text, c < 0x20 ∨ 0x7E < c := by
  rw [List.any_eq_true]
  simp only [Bool.or_eq_true, decide_eq_true_eq]

theorem checkDisplay_fit (short : text.length ≤ 32) (fits : ∀ c ∈ text, 0x20 ≤ c ∧ c ≤ 0x7E) (target : Nat) :
    checkDisplay ⟨target, text⟩ = if target = 0xFE then some ⟨.all, text⟩
      else (toFin? 15 target).map fun id => ⟨.station id, text⟩ := by
  refine if_neg fun unfit => ?_
  rcases display_unfit_iff.mp unfit with long | ⟨c, mem, low | high⟩
  · exact absurd long (Nat.not_lt.mpr short)
  · exact absurd low (Nat.not_lt.mpr (fits c mem).1)
  · exact absurd high (Nat.not_lt.mpr (fits c mem).2)

theorem checkDisplay_station (short : text.length ≤ 32) (fits : ∀ c ∈ text, 0x20 ≤ c ∧ c ≤ 0x7E) (id : StationId) :
    checkDisplay ⟨id, text⟩ = some ⟨.station id, text⟩ := by
  rw [checkDisplay_fit short fits, if_neg (by omega), toFin?_val]
  rfl

theorem checkDisplay_eq_none {a : DisplayArgs} (unfit : (14 < a.target ∧ a.target ≠ 0xFE) ∨ 32 < a.text.length
    ∨ ∃ c ∈ a.text, c < 0x20 ∨ 0x7E < c) : checkDisplay a = none := by
  by_cases bad : 32 < a.text.length ∨ ∃ c ∈ a.text, c < 0x20 ∨ 0x7E < c
  · exact if_pos (display_unfit_iff.mpr bad)
  · obtain ⟨outside, notAll⟩ := unfit.resolve_right bad
    have nobody : toFin? 15 a.target = none := toFin?_eq_none_iff.mpr outside
    refine (if_neg fun unfit => bad (display_unfit_iff.mp unfit)).trans ?_
    rw [if_neg (by exact notAll), nobody]
    rfl

theorem display_work {s : State} {a : DisplayArgs} {m : DisplayMessage} (checked : checkDisplay a = some m) :
    commandWork s (.display (.fields a)) = if 32 ≤ s.glc.displayQueue.length then denied s .queueFull
      else done (s.withGlc { s.glc with displayQueue := s.glc.displayQueue ++ [m] }) .none := by
  change withChecked s (checkDisplay a) _ = _
  rw [checked]
  rfl

end Display

section Resume

variable {s : State} {id : StationId}

theorem stationResume_work (s : State) (id : StationId) : commandWork s (.stationResume (.fields id)) =
    if (s.glc.stations.get id).config.isNone then denied s .notFound
    else if (s.glc.stations.get id).state = .suspended then done (s.resumeStation id (s.glc.stations.get id)) .none
    else done s .none := by
  change withChecked s (toFin? 15 id.val) _ = _
  rw [toFin?_val]
  rfl

end Resume

/-- Settles O25: the work of each of the three commands. -/
theorem stationGetResumeAndDisplay : Obligations.StationGetResumeAndDisplay := by
  unfold Obligations.StationGetResumeAndDisplay
  have configured : ∀ {s : State} {id : StationId}, s.stationConfig id ≠ none →
      ¬ (s.glc.stations.get id).config.isNone = true := fun some none => some (Option.isNone_iff_eq_none.mp none)
  refine ⟨fun id s takes => ⟨?_, fun unconfigured => ?_, fun some running => ?_, fun some suspended =>
    ⟨takeOut s.glc.pendingProbes id, fun j => inSet_takeOut_iff, ?_⟩⟩, fun n s takes outside => ⟨?_, ?_⟩,
    fun text s takes short fits => ⟨fun room => ⟨?_, fun id => ?_⟩, fun full => ⟨?_, fun id => ?_⟩⟩,
    fun a s takes unfit => ?_⟩
  · refine carried_of_work takes rfl ?_
    change withChecked s (toFin? 15 id.val) _ = _
    rw [toFin?_val]
    rfl
  · refine refused_of_work takes rfl ?_
    rw [stationResume_work, if_pos (by exact Option.isNone_iff_eq_none.mpr unconfigured)]
  · refine carried_of_work takes rfl ?_
    rw [stationResume_work, if_neg (configured some), if_neg running]
  · refine carried_of_work takes rfl ?_
    rw [stationResume_work, if_neg (configured some), if_pos suspended]
    rfl
  · refine refused_of_work takes rfl ?_
    change withChecked s (toFin? 15 n) _ = _
    rw [toFin?_eq_none_iff.mpr outside]
    rfl
  · refine refused_of_work takes rfl ?_
    change withChecked s (toFin? 15 n) _ = _
    rw [toFin?_eq_none_iff.mpr outside]
    rfl
  · refine carried_of_work takes rfl ?_
    rw [display_work (checkDisplay_fit short fits 0xFE), if_neg (Nat.not_le.mpr room)]
    rfl
  · refine carried_of_work takes rfl ?_
    rw [display_work (checkDisplay_station short fits id), if_neg (Nat.not_le.mpr room)]
    rfl
  · refine refused_of_work takes rfl ?_
    rw [display_work (checkDisplay_fit short fits 0xFE), if_pos full]
  · refine refused_of_work takes rfl ?_
    rw [display_work (checkDisplay_station short fits id), if_pos full]
  · refine refused_of_work takes rfl ?_
    change withChecked s (checkDisplay a) _ = _
    rw [checkDisplay_eq_none unfit]
    rfl

end Sys2Proof.Machine
end

section
/-!
PROOFS. The commands of the badge table and of the conflict set (chapter 3). Obligations O26 and O27.
-/

namespace Sys2Proof.Machine

open Sys2Proof

/-! ### An entry in its place -/

section Entry

variable {s : State} {below above : List Badge} {b : Badge}

/-- R41: below an entry stand the lower numbers, above it the higher ones. -/
theorem BadgesOk.placed (h : BadgesOk s) (entries : s.btb.entries = below ++ b :: above) :
    (∀ x ∈ below, x.number < b.number) ∧ ∀ x ∈ above, b.number < x.number := by
  have order := h.pairwise
  rw [entries] at order
  obtain ⟨-, upper, across⟩ := List.pairwise_append.mp order
  exact ⟨fun x mem => across x mem b List.mem_cons_self, (List.pairwise_cons.mp upper).1⟩

theorem BadgesOk.findBadge_entry (h : BadgesOk s) (entries : s.btb.entries = below ++ b :: above) :
    s.findBadge b.number = some b := by
  obtain ⟨lower, -⟩ := h.placed entries
  unfold State.findBadge
  rw [entries]
  exact List.find?_eq_some_iff_append.mpr ⟨beq_self_eq_true _, below, above, rfl, fun x mem => by
    have := lower x mem
    rw [Bool.not_eq_true', beq_eq_false_iff_ne]
    exact Nat.ne_of_lt this⟩

theorem BadgesOk.updateBadge_entry (h : BadgesOk s) (entries : s.btb.entries = below ++ b :: above) (f : Badge → Badge) :
    s.updateBadge b.number f = withEntries s (below ++ f b :: above) := by
  obtain ⟨lower, upper⟩ := h.placed entries
  have keep : ∀ l : List Badge, (∀ x ∈ l, x.number ≠ b.number) →
      l.map (fun x => if x.number = b.number then f x else x) = l := fun l other =>
    (List.map_congr_left fun x mem => if_neg (other x mem)).trans (List.map_id' l)
  unfold State.updateBadge
  rw [entries, List.map_append, List.map_cons, keep below fun x mem => Nat.ne_of_lt (lower x mem),
    keep above fun x mem => Nat.ne_of_gt (upper x mem), if_pos rfl]
  rfl

theorem BadgesOk.removeBadge_entry (h : BadgesOk s) (entries : s.btb.entries = below ++ b :: above) :
    s.removeBadge b.number = withEntries s (below ++ above) := by
  obtain ⟨lower, upper⟩ := h.placed entries
  have keep : ∀ l : List Badge, (∀ x ∈ l, x.number ≠ b.number) →
      l.filter (fun x => x.number != b.number) = l := fun l other =>
    List.filter_eq_self.mpr fun x mem => bne_iff_ne.mpr (other x mem)
  unfold State.removeBadge
  rw [entries, List.filter_append, List.filter_cons_of_neg (by simp),
    keep below fun x mem => Nat.ne_of_lt (lower x mem), keep above fun x mem => Nat.ne_of_gt (upper x mem)]
  rfl

/-- R45: the next entry above a number that lies below this entry and not below those before it. -/
theorem nextBadge_entry (entries : s.btb.entries = below ++ b :: above) {n : Nat} (first : n < b.number)
    (passed : ∀ x ∈ below, x.number ≤ n) : s.nextBadge n = some b := by
  unfold State.nextBadge
  rw [entries]
  exact List.find?_eq_some_iff_append.mpr ⟨decide_eq_true first, below, above, rfl, fun x mem => by
    have := passed x mem
    simpa using this⟩

theorem State.findBadge_absent {n : Nat} (absent : ∀ b ∈ s.btb.entries, b.number ≠ n) : s.findBadge n = none := by
  unfold State.findBadge
  exact List.find?_eq_none.mpr fun b mem => by simpa using absent b mem

theorem State.nextBadge_absent {n : Nat} (absent : ∀ b ∈ s.btb.entries, b.number ≤ n) : s.nextBadge n = none := by
  unfold State.nextBadge
  exact List.find?_eq_none.mpr fun b mem => by simpa using absent b mem

theorem State.tied_iff : s.tied b = true ↔ heldFast s b := by
  unfold State.tied heldFast
  rw [Bool.or_eq_true, State.passageOf_isSome, Option.isSome_iff_ne_none]

theorem Totals.nonZero_iff {t : Totals} : t.nonZero = true ↔ someTotal t := by
  unfold Totals.nonZero someTotal
  simp only [Bool.or_eq_true, decide_eq_true_eq, or_assoc]

theorem State.dropBusy_iff : s.dropBusy b = true ↔
    heldFast s b ∨ someTotal b.current ∨ ∃ t, b.closed = some t ∧ someTotal t := by
  unfold State.dropBusy
  rw [Bool.or_eq_true, Bool.or_eq_true, State.tied_iff, Totals.nonZero_iff, or_assoc]
  cases b.closed with
  | none => simp
  | some t => simp [Totals.nonZero_iff]

theorem State.replaceBusy_iff {c : BadgeConfig} : s.replaceBusy b c = true ↔ replaceRefused s b c := by
  have changes : b.changesPay c = true ↔
      b.crew ≠ c.crew ∨ b.payClass ≠ c.payClass ∨ b.flags.noPay ≠ c.flags.noPay := by
    unfold Badge.changesPay
    rw [Bool.or_eq_true, Bool.or_eq_true, or_assoc, bne_iff_ne, bne_iff_ne, bne_iff_ne]
  unfold State.replaceBusy replaceRefused
  rw [Bool.or_eq_true, Bool.and_eq_true, Bool.and_eq_true, Bool.and_eq_true, changes, State.tied_iff, beq_iff_eq,
    Bool.not_eq_true', and_assoc, and_comm (a := heldFast s b)]

end Entry

/-! ### BADGE_PUT -/

theorem badgeNumber?_eq_some {n : Nat} (first : 1 ≤ n) (last : n ≤ 16777215) : badgeNumber? n = some n :=
  badgeNumber?_eq_some_iff.mpr ⟨rfl, first, last⟩

theorem badgeNumber?_eq_none {n : Nat} (outside : n = 0 ∨ 16777215 < n) : badgeNumber? n = none :=
  if_neg fun ⟨first, last⟩ => by
    have : n ≤ 16777215 := last
    omega

theorem flagsOf_sum (f : BadgeFlags) : flagsOf ((if f.blocked then 1 else 0) + (if f.anytime then 2 else 0)
    + (if f.noPay then 4 else 0) + (if f.passbackExempt then 8 else 0)) = some f := by
  obtain ⟨blocked, anytime, noPay, exempt⟩ := f
  revert blocked anytime noPay exempt
  decide

theorem checkBadgePut_fields {c : BadgeConfig} (first : 1 ≤ c.number) (last : c.number ≤ 16777215) :
    checkBadgePut (badgeFields c) = some c := by
  unfold checkBadgePut badgeFields
  dsimp only
  rw [badgeNumber?_eq_some first last, toFin?_val, toFin?_val, flagsOf_sum]
  have doors := c.doors.isLt
  simp only [Option.bind_eq_bind, Option.bind_some, doors, if_true, BitVec.ofNat_toNat, BitVec.setWidth_eq]

theorem checkBadgePut_eq_none {a : BadgePutArgs} (outside : a.badge = 0 ∨ 16777215 < a.badge ∨ 31 < a.crew
    ∨ 15 < a.payClass ∨ 65535 < a.doors ∨ 15 < a.flags) : checkBadgePut a = none := by
  rw [Option.eq_none_iff_forall_ne_some]
  intro c checked
  simp only [checkBadgePut, Option.bind_eq_bind, Option.bind_eq_some_iff] at checked
  obtain ⟨number, isNumber, crew, isCrew, payClass, isClass, flags, isFlags, checked⟩ := checked
  obtain ⟨-, first, last⟩ := badgeNumber?_eq_some_iff.mp isNumber
  have last : a.badge ≤ 16777215 := last
  have crewRange := toFin?_lt isCrew
  have classRange := toFin?_lt isClass
  have flagRange : a.flags < 16 := by
    by_contra high
    rw [flagsOf, if_neg high] at isFlags
    cases isFlags
  split at checked
  · omega
  · cases checked

theorem badgePut_work {s : State} {a : BadgePutArgs} {c : BadgeConfig} (checked : checkBadgePut a = some c) :
    commandWork s (.badgePut (.fields a)) = s.putBadge c := by
  change withChecked s (checkBadgePut a) _ = _
  rw [checked]
  rfl

theorem State.putBadge_held {s : State} {c : BadgeConfig} {b : Badge} (found : s.findBadge c.number = some b) :
    s.putBadge c = if s.replaceBusy b c then denied s .busy
      else done (s.updateBadge c.number fun e => e.reconfigure c) .none := by
  unfold State.putBadge
  rw [found]

theorem State.putBadge_new {s : State} {c : BadgeConfig} (absent : s.findBadge c.number = none) :
    s.putBadge c = if 2048 ≤ s.btb.entries.length then denied s .tableFull
      else done (withEntries s (insertBadge (newBadge c s.btb.closedBlock.isSome) s.btb.entries)) .none := by
  unfold State.putBadge
  rw [absent]
  rfl

theorem newBadge_eq (c : BadgeConfig) (block : Option Nat) : newBadge c block.isSome
    = ⟨c.number, c.crew, c.payClass, c.doors, c.flags, .outside, none, none, none, ⟨0, 0, 0, 0, 0, 0, 0, false⟩, 0,
        if block = none then none else some ⟨0, 0, 0, 0, 0, 0, 0, false⟩⟩ := by
  cases block <;> rfl

/-- Settles O26: the cases of `putBadge`, by what the table holds at the number. -/
theorem badgePutInsertsInOrderOrReplaces : Obligations.BadgePutInsertsInOrderOrReplaces := by
  unfold Obligations.BadgePutInsertsInOrderOrReplaces
  refine ⟨fun c s takes ok first last absent => ?_, fun c s below above b takes ok first last entries number => ?_,
    fun a s takes outside => ?_⟩
  · have work := badgePut_work (s := s) (checkBadgePut_fields first last)
    rw [State.putBadge_new (State.findBadge_absent absent)] at work
    constructor
    · intro room
      refine carried_of_work takes rfl ?_
      rw [work, if_neg (Nat.not_le.mpr room), insertBadge_eq ok.pairwise absent, newBadge_eq]
    · intro full
      refine refused_of_work takes rfl ?_
      rw [work, if_pos full]
  · have work := badgePut_work (s := s) (checkBadgePut_fields first last)
    rw [State.putBadge_held (number ▸ ok.findBadge_entry entries)] at work
    constructor
    · intro free
      refine carried_of_work takes rfl ?_
      rw [work, if_neg fun busy => free (State.replaceBusy_iff.mp busy), ← number, ok.updateBadge_entry entries]
      rfl
    · intro busy
      refine refused_of_work takes rfl ?_
      rw [work, if_pos (State.replaceBusy_iff.mpr busy)]
  · refine refused_of_work takes rfl ?_
    change withChecked s (checkBadgePut a) _ = _
    rw [checkBadgePut_eq_none outside]
    rfl

/-! ### BADGE_DROP, BADGE_GET, PRESENCE_SET and CONFLICT_READ -/

section Reading

variable {s : State}

theorem badgeDrop_work {n : Nat} (first : 1 ≤ n) (last : n ≤ 16777215) : commandWork s (.badgeDrop (.fields n)) =
    match s.findBadge n with
    | none => denied s .notFound
    | some b => if s.dropBusy b then denied s .busy else done (s.removeBadge n) .none := by
  change withChecked s (badgeNumber? n) _ = _
  rw [badgeNumber?_eq_some first last]
  rfl

theorem checkBadgeGet_exact {n : Nat} (first : 1 ≤ n) (last : n ≤ 16777215) :
    checkBadgeGet ⟨n, 0⟩ = some (.exact, n) := by
  change (badgeNumber? n).bind _ = _
  rw [badgeNumber?_eq_some first last]
  rfl

theorem checkBadgeGet_next {n : Nat} (last : n ≤ 16777215) : checkBadgeGet ⟨n, 1⟩ = some (.next, n) := by
  have walk : walkNumber? .next n = some n := if_pos last
  change (walkNumber? .next n).bind _ = _
  rw [walk]
  rfl

theorem checkBadgeGet_eq_none {a : BadgeGetArgs} (outside : 16777215 < a.badge ∨ 1 < a.selector) :
    checkBadgeGet a = none := by
  rw [Option.eq_none_iff_forall_ne_some]
  intro v checked
  simp only [checkBadgeGet, Option.bind_eq_bind, Option.bind_eq_some_iff] at checked
  obtain ⟨sel, isSel, n, isNumber, -⟩ := checked
  have selRange : a.selector < 2 := ofCode_length isSel
  have numberRange : a.badge ≤ 16777215 := by
    cases sel with
    | exact => exact (badgeNumber?_eq_some_iff.mp isNumber).2.2
    | next =>
      by_contra high
      rw [walkNumber?, if_neg (by exact high)] at isNumber
      cases isNumber
  omega

theorem badgeGet_work {a : BadgeGetArgs} {sel : Selector} {n : Nat} (checked : checkBadgeGet a = some (sel, n)) :
    commandWork s (.badgeGet (.fields a)) = match s.select sel n with
      | none => denied s .notFound
      | some b => done s (.badge b ((s.passageOf b.number).map fun p => p.door)) := by
  change withChecked s (checkBadgeGet a) _ = _
  rw [checked]
  rfl

theorem ofCode_presenceField (p : Presence) : ofCode presences (presenceField p) = some p := by
  cases p <;> rfl

theorem presenceSet_work {n : Nat} (first : 1 ≤ n) (last : n ≤ 16777215) (p : Presence) :
    commandWork s (.presenceSet (.fields ⟨n, presenceField p⟩)) = s.putPresence n p := by
  have checked : checkPresenceSet ⟨n, presenceField p⟩ = some (n, p) := by
    unfold checkPresenceSet
    rw [badgeNumber?_eq_some first last, ofCode_presenceField]
    rfl
  change withChecked s (checkPresenceSet _) _ = _
  rw [checked]
  rfl

theorem checkPresenceSet_eq_none {a : PresenceSetArgs} (outside : a.badge = 0 ∨ 16777215 < a.badge ∨ 2 < a.presence) :
    checkPresenceSet a = none := by
  rw [Option.eq_none_iff_forall_ne_some]
  intro v checked
  simp only [checkPresenceSet, Option.bind_eq_bind, Option.bind_eq_some_iff] at checked
  obtain ⟨n, isNumber, p, isPresence, -⟩ := checked
  obtain ⟨-, first, last⟩ := badgeNumber?_eq_some_iff.mp isNumber
  have last : a.badge ≤ 16777215 := last
  have presenceRange : a.presence < 3 := ofCode_length isPresence
  omega

theorem State.putPresence_held {n : Nat} {b : Badge} (found : s.findBadge n = some b) (p : Presence) :
    s.putPresence n p = if s.tied b then denied s .busy
      else if p = .inside ∧ b.flags.noPay = false then denied s .badArg
      else done (s.updateBadge n fun e => { e with presence := p }) .none := by
  unfold State.putPresence
  rw [found]

theorem members_pairwise {n : Nat} (m : BitVec n) : (members m).Pairwise (· < ·) :=
  (List.pairwise_lt_finRange n).filter _

end Reading

/-- Settles O27: the work of each of the four commands. -/
theorem badgeDropGetPresenceAndConflictRead : Obligations.BadgeDropGetPresenceAndConflictRead := by
  unfold Obligations.BadgeDropGetPresenceAndConflictRead
  refine ⟨fun s below above b takes ok entries => ?_, fun n s takes first last absent => ⟨?_, ?_⟩,
    fun n s takes last absent => ?_, fun n s takes outside => ⟨?_, ?_⟩, fun a s takes outside => ?_,
    fun s below above b p takes ok entries => ?_, fun n p s takes first last absent => ?_,
    fun a s takes outside => ?_, fun s takes => ⟨members s.pev.conflictSet, mem_members _, members_pairwise _, ?_⟩⟩
  · obtain ⟨first, last⟩ : 1 ≤ b.number ∧ b.number ≤ 16777215 :=
      ok.numbers b (entries ▸ List.mem_append_right below List.mem_cons_self)
    have drop := badgeDrop_work (s := s) first last
    rw [ok.findBadge_entry entries] at drop
    refine ⟨fun free => ?_, fun busy => ?_, (s.passageOf b.number).map fun p => p.door, fun d => Option.map_eq_some_iff,
      ?_, fun n before passed => ?_⟩
    · refine carried_of_work takes rfl ?_
      rw [drop, ← ok.removeBadge_entry entries]
      exact if_neg fun busy => free (State.dropBusy_iff.mp busy)
    · refine refused_of_work takes rfl ?_
      rw [drop]
      exact if_pos (State.dropBusy_iff.mpr busy)
    · refine carried_of_work takes rfl ?_
      have selected : s.select .exact b.number = some b := ok.findBadge_entry entries
      rw [badgeGet_work (checkBadgeGet_exact first last), selected]
    · refine carried_of_work takes rfl ?_
      have selected : s.select .next n = some b := nextBadge_entry entries before passed
      rw [badgeGet_work (checkBadgeGet_next (by omega)), selected]
  · refine refused_of_work takes rfl ?_
    rw [badgeDrop_work first last, State.findBadge_absent absent]
  · refine refused_of_work takes rfl ?_
    have selected : s.select .exact n = none := State.findBadge_absent absent
    rw [badgeGet_work (checkBadgeGet_exact first last), selected]
  · refine refused_of_work takes rfl ?_
    have selected : s.select .next n = none := State.nextBadge_absent absent
    rw [badgeGet_work (checkBadgeGet_next last), selected]
  · refine refused_of_work takes rfl ?_
    change withChecked s (badgeNumber? n) _ = _
    rw [badgeNumber?_eq_none outside]
    rfl
  · refine refused_of_work takes rfl ?_
    change withChecked s ((badgeNumber? n).bind _) _ = _
    rw [badgeNumber?_eq_none outside]
    rfl
  · refine refused_of_work takes rfl ?_
    change withChecked s (checkBadgeGet a) _ = _
    rw [checkBadgeGet_eq_none outside]
    rfl
  · obtain ⟨first, last⟩ : 1 ≤ b.number ∧ b.number ≤ 16777215 :=
      ok.numbers b (entries ▸ List.mem_append_right below List.mem_cons_self)
    have work := presenceSet_work (s := s) first last p
    rw [State.putPresence_held (ok.findBadge_entry entries), ok.updateBadge_entry entries] at work
    refine ⟨fun free noPay => ?_, fun busy => ?_, fun free inside pays => ?_⟩
    · refine carried_of_work takes rfl ?_
      rw [work, if_neg fun busy => free (State.tied_iff.mp busy), if_neg fun ⟨inside, pays⟩ =>
        Bool.noConfusion (pays.symm.trans (noPay inside))]
    · refine refused_of_work takes rfl ?_
      rw [work, if_pos (State.tied_iff.mpr busy)]
    · refine refused_of_work takes rfl ?_
      rw [work, if_neg fun busy => free (State.tied_iff.mp busy), if_pos ⟨inside, pays⟩]
  · refine refused_of_work takes rfl ?_
    rw [presenceSet_work first last]
    unfold State.putPresence
    rw [State.findBadge_absent absent]
  · refine refused_of_work takes rfl ?_
    change withChecked s (checkPresenceSet a) _ = _
    rw [checkPresenceSet_eq_none outside]
    rfl
  · exact carried_of_work takes rfl rfl

end Sys2Proof.Machine
end

section
/-!
PROOFS. The judging of punches, their commits and their pending passages (chapter 4). Obligations O28 to O33.
-/

namespace Sys2Proof.Machine

open Sys2Proof

/-! ### The first check that fails -/

/-- The first member of a list of checks for which `fails` holds, or OK where there is none. -/
def FirstFailing (fails : ReplyCode → Prop) : List ReplyCode → ReplyCode → Prop
  | [], code => code = .ok
  | check :: rest, code => (fails check ∧ code = check) ∨ (¬ fails check ∧ FirstFailing fails rest code)

section FirstFailing

variable {fails : ReplyCode → Prop}

theorem FirstFailing.eq_of_fails {checks earlier later : List ReplyCode} {code check : ReplyCode}
    (h : FirstFailing fails checks code) (split : checks = earlier ++ check :: later) (pass : ∀ x ∈ earlier, ¬ fails x)
    (failing : fails check) : code = check := by
  induction earlier generalizing checks with
  | nil =>
    subst split
    rcases h with ⟨-, same⟩ | ⟨passed, -⟩
    · exact same
    · exact absurd failing passed
  | cons first rest ih =>
    subst split
    rcases h with ⟨failed, -⟩ | ⟨-, h⟩
    · exact absurd failed (pass first List.mem_cons_self)
    · exact ih h rfl fun x mem => pass x (List.mem_cons_of_mem first mem)

theorem FirstFailing.eq_ok {checks : List ReplyCode} {code : ReplyCode} (h : FirstFailing fails checks code)
    (pass : ∀ x ∈ checks, ¬ fails x) : code = .ok := by
  induction checks with
  | nil => exact h
  | cons first rest ih =>
    rcases h with ⟨failed, -⟩ | ⟨-, h⟩
    · exact absurd failed (pass first List.mem_cons_self)
    · exact ih h fun x mem => pass x (List.mem_cons_of_mem first mem)

end FirstFailing

/-! ### Each check by itself -/

section Checks

variable {s : State} {p : Punch} {b : Badge} {dir : Direction}

theorem directionOf_iff {mode : StationMode} {pres : Presence} : directionOf mode pres dir ↔ dir = directionAt mode pres := by
  cases mode with
  | entry => exact Iff.rfl
  | exit => exact Iff.rfl
  | access => exact Iff.rfl
  | toggle =>
    unfold directionOf directionAt
    dsimp only
    split
    · next inside => exact ⟨fun h => h.1 inside, fun h => ⟨fun _ => h, fun other => absurd inside other⟩⟩
    · next other => exact ⟨fun h => h.2 other, fun h => ⟨fun inside => absurd inside other, fun _ => h⟩⟩

theorem doorOfStation_iff {c : StationConfig} {d : DoorId} {r : Door} :
    doorOfStation s c d r ↔ s.stationDoor c = some (d, r) := by
  refine ⟨fun ⟨named, configured⟩ => ?_, State.stationDoor_some⟩
  unfold State.stationDoor
  rw [named]
  dsimp only
  rw [configured]
  rfl

/-- R61. -/
theorem isDuplicate_iff : isDuplicate s.olc.settings b p = true ↔ checkFails s p b dir .already := by
  unfold isDuplicate checkFails
  cases b.lastPunch with
  | none => simp
  | some l => simp [and_assoc]

/-- R50. -/
theorem State.conflictWith_eq_some {l : LastPunch} (h : s.conflictWith b p = some l) :
    b.lastPunch = some l ∧ checkFails s p b dir .conflict := by
  unfold State.conflictWith at h
  cases isLast : b.lastPunch with
  | none => rw [isLast] at h; cases h
  | some l' =>
    rw [isLast] at h
    cases isStation : s.stationConfig l'.station with
    | none => dsimp only at h; rw [isStation] at h; cases h
    | some c =>
      dsimp only at h
      rw [isStation] at h
      dsimp only at h
      split at h
      · next conflict =>
        cases h
        exact ⟨rfl, l, c, isLast, conflict.1, isStation, conflict.2⟩
      · cases h

theorem State.conflictWith_eq_none (h : s.conflictWith b p = none) : ¬ checkFails s p b dir .conflict := by
  rintro ⟨l, c, isLast, other, isStation, rest⟩
  unfold State.conflictWith at h
  rw [isLast] at h
  dsimp only at h
  rw [isStation] at h
  dsimp only at h
  rw [if_pos ⟨other, rest⟩] at h
  cases h

/-- R64. -/
theorem passback_iff : (!b.flags.passbackExempt && passbackRefuses dir b.presence) = true ↔
    checkFails s p b dir .passback := by
  unfold checkFails
  dsimp only
  rw [Bool.and_eq_true, Bool.not_eq_true']
  refine and_congr_right fun _ => ?_
  cases dir <;> cases b.presence <;> simp [passbackRefuses]

/-- R65. -/
theorem outOfWindow_iff : outOfWindow b (s.capture b dir p.time) = true ↔ checkFails s p b dir .outOfWindow := by
  unfold outOfWindow State.capture checkFails plantMinute
  dsimp only
  by_cases captured : dir = .entry ∧ b.flags.noPay = false
  · rw [if_pos captured]
    cases s.sps.matchShift b.crew (p.time / 60) <;> simp [captured]
  · rw [if_neg captured, show (Captured.none == Captured.unscheduled) = false from rfl, Bool.false_and]
    exact iff_of_false Bool.false_ne_true fun ⟨entry, pays, _⟩ => captured ⟨entry, pays⟩

/-- R65: the captured shift. -/
theorem State.capture_capturedAs : capturedAs s b dir p.time (s.capture b dir p.time) := by
  unfold State.capture plantMinute
  refine ⟨fun entry pays i isShift => ?_, fun entry pays noShift => ?_, fun other => ?_⟩
  · rw [if_pos ⟨entry, pays⟩, isShift]
  · rw [if_pos ⟨entry, pays⟩, noShift]
  · refine if_neg fun ⟨entry, pays⟩ => ?_
    rcases other with exit | noPay
    · exact exit entry
    · exact Bool.noConfusion (pays.symm.trans noPay)

theorem State.passageAt_isSome {d : DoorId} : (s.passageAt d).isSome = true ↔ ∃ q ∈ s.pev.passages, q.door = d := by
  unfold State.passageAt
  simp [List.find?_isSome]

/-- R66: a door is busy. -/
theorem State.doorBusy_iff {d : DoorId} {r : Door} : s.doorBusy d r = true ↔
    (∃ q ∈ s.pev.passages, q.door = d) ∨ r.state = .opened ∨ r.state = .held ∨ r.state = .forced := by
  unfold State.doorBusy
  rw [Bool.or_eq_true, Bool.or_eq_true, Bool.or_eq_true, State.passageAt_isSome, or_assoc, or_assoc, beq_iff_eq,
    beq_iff_eq, beq_iff_eq]

/-- R66, R67: the punch would release the door of its station. -/
theorem wouldRelease_iff {d : DoorId} {r : Door} (isDoor : s.stationDoor p.config = some (d, r)) :
    wouldRelease p (some (d, r)) = true ↔ releases s p d r := by
  unfold wouldRelease releases
  rw [doorOfStation_iff, Bool.and_eq_true, bne_iff_ne, Bool.not_eq_true']
  exact ⟨fun h => ⟨isDoor, h⟩, fun h => h.2⟩

theorem doorOfStation_eq {d d' : DoorId} {r r' : Door} (isDoor : s.stationDoor p.config = some (d, r))
    (h : doorOfStation s p.config d' r') : d' = d ∧ r' = r := by
  have same := (doorOfStation_iff.mp h).symm.trans isDoor
  cases same
  exact ⟨rfl, rfl⟩

/-- R63: checks 7 and 8, the door being that of the station. -/
theorem doorRefusal_some {code : ReplyCode} (h : doorRefusal b dir (s.stationDoor p.config) = some code)
    (rest : List ReplyCode) :
    FirstFailing (checkFails s p b dir) (.notPermitted :: .lockdown :: .locked :: rest) code := by
  cases isDoor : s.stationDoor p.config with
  | none => rw [isDoor] at h; cases h
  | some door =>
    obtain ⟨d, r⟩ := door
    rw [isDoor] at h
    have named := doorOfStation_iff.mpr isDoor
    unfold doorRefusal at h
    dsimp only at h
    split at h
    · next outside =>
      cases h
      exact .inl ⟨⟨d, r, named, by simpa using outside⟩, rfl⟩
    · next permitted =>
      refine .inr ⟨fun ⟨d', r', named', outside⟩ => ?_, ?_⟩
      · obtain ⟨rfl, rfl⟩ := doorOfStation_eq isDoor named'
        exact permitted (by simpa using outside)
      · split at h
        · next lockdown =>
          cases h
          exact .inl ⟨⟨d, r, named, lockdown⟩, rfl⟩
        · next open_ =>
          refine .inr ⟨fun ⟨d', r', named', lockdown⟩ => ?_, ?_⟩
          · obtain ⟨rfl, rfl⟩ := doorOfStation_eq isDoor named'
            exact open_ lockdown
          · split at h
            · next locked =>
              cases h
              exact .inl ⟨⟨d, r, named, locked⟩, rfl⟩
            · cases h

theorem doorRefusal_none {code : ReplyCode} {rest : List ReplyCode}
    (h : doorRefusal b dir (s.stationDoor p.config) = none) (later : FirstFailing (checkFails s p b dir) rest code) :
    FirstFailing (checkFails s p b dir) (.notPermitted :: .lockdown :: .locked :: rest) code := by
  cases isDoor : s.stationDoor p.config with
  | none =>
    have nowhere : ∀ d r, ¬ doorOfStation s p.config d r := fun d r named =>
      nomatch (doorOfStation_iff.mp named).symm.trans isDoor
    exact .inr ⟨fun ⟨d, r, named, _⟩ => nowhere d r named, .inr ⟨fun ⟨d, r, named, _⟩ => nowhere d r named,
      .inr ⟨fun ⟨d, r, named, _⟩ => nowhere d r named, later⟩⟩⟩
  | some door =>
    obtain ⟨d, r⟩ := door
    rw [isDoor] at h
    unfold doorRefusal at h
    dsimp only at h
    split at h
    · cases h
    · next permitted =>
      split at h
      · cases h
      · next open_ =>
        split at h
        · cases h
        · next free =>
          refine .inr ⟨fun ⟨d', r', named, outside⟩ => ?_, .inr ⟨fun ⟨d', r', named, lockdown⟩ => ?_,
            .inr ⟨fun ⟨d', r', named, locked⟩ => ?_, later⟩⟩⟩ <;>
            obtain ⟨rfl, rfl⟩ := doorOfStation_eq isDoor named
          · exact permitted (by simpa using outside)
          · exact open_ lockdown
          · exact free locked

end Checks

/-! ### The ruling on a punch -/

/-- The refusals that only store their PUNCH report. -/
def refusalCodes : List ReplyCode :=
  [ReplyCode.blocked, .notPermitted, .lockdown, .locked, .passback, .outOfWindow, .pending]

/-- What judging answers, with the reasons its reports and releases need. -/
inductive Ruling (s : State) (p : Punch) : Verdict → Prop
  | clockUnset : Ruling s p ⟨.clockUnset, false, s⟩
  | wait : Ruling s p ⟨.wait, false, s⟩
  | unknown : Ruling s p (refused s p (unresolvedDirection p.config.mode) .unknownBadge)
  | already : Ruling s p ⟨.already, s.passageHere p, s⟩
  | refused {b : Badge} {code : ReplyCode} (found : s.findBadge p.badge = some b)
      (isRefusal : code ∈ refusalCodes) :
      Ruling s p (refused s p (some (directionAt p.config.mode b.presence)) code)
  | conflict {b : Badge} {l : LastPunch} (found : s.findBadge p.badge = some b) (isLast : b.lastPunch = some l) :
      Ruling s p ⟨.conflict, false, s.refuseConflict p (directionAt p.config.mode b.presence) l⟩
  | atOnce {b : Badge} {dir : Direction} (found : s.findBadge p.badge = some b)
      (isDir : dir = directionAt p.config.mode b.presence) (keeps : ∀ d r, ¬ releases s p d r) :
      Ruling s p ⟨.ok, false, s.commitAtOnce p b dir (s.capture b dir p.time) (s.stationDoor p.config)⟩
  | pending {b : Badge} {dir : Direction} {d : DoorId} {r : Door} (found : s.findBadge p.badge = some b)
      (isDir : dir = directionAt p.config.mode b.presence) (opens : releases s p d r)
      (noPassage : ∀ q ∈ s.pev.passages, q.door ≠ d) :
      Ruling s p ⟨.ok, true, s.createPassage p b dir (s.capture b dir p.time) d⟩

section Ruling

variable {s : State} {p : Punch} {b : Badge}

theorem doorRefusal_mem {dir : Direction} {door : Option (DoorId × Door)} {code : ReplyCode}
    (h : doorRefusal b dir door = some code) :
    code ∈ refusalCodes := by
  unfold doorRefusal at h
  split at h
  · cases h
  · split at h
    · cases h; decide
    · split at h
      · cases h; decide
      · split at h
        · cases h; decide
        · cases h

/-- R66, R67: checks 11 and 12. -/
theorem State.accept_ruling {dir : Direction} (found : s.findBadge p.badge = some b)
    (isDir : dir = directionAt p.config.mode b.presence) :
    Ruling s p (s.accept p b dir (s.capture b dir p.time) (s.stationDoor p.config)) ∧
      FirstFailing (checkFails s p b dir) [.wait, .pending]
        (s.accept p b dir (s.capture b dir p.time) (s.stationDoor p.config)).code := by
  have waits : (s.passageOf b.number).isSome = true ↔ checkFails s p b dir .pending := State.passageOf_isSome
  have isPending : Ruling s p (Sys2Proof.Machine.refused s p (some dir) .pending) :=
    isDir ▸ .refused found (by decide)
  cases isDoor : s.stationDoor p.config with
  | none =>
    have nowhere : ∀ d r, ¬ releases s p d r := fun d r ⟨named, _⟩ =>
      nomatch (doorOfStation_iff.mp named).symm.trans isDoor
    have noWait : ¬ checkFails s p b dir .wait := fun ⟨d, r, opens, _⟩ => nowhere d r opens
    unfold State.accept
    dsimp only
    split
    · next some => exact ⟨isPending, .inr ⟨noWait, .inl ⟨waits.mp some, rfl⟩⟩⟩
    · next none => exact ⟨isDoor ▸ .atOnce found isDir nowhere, .inr ⟨noWait, .inr ⟨fun h => none (waits.mpr h), rfl⟩⟩⟩
  | some door =>
    obtain ⟨d, r⟩ := door
    have only : ∀ {d' r'}, releases s p d' r' → d' = d ∧ r' = r := fun opens => doorOfStation_eq isDoor opens.1
    unfold State.accept
    dsimp only
    split
    · next opens =>
      have opens := (wouldRelease_iff isDoor).mp opens
      split
      · next busy => exact ⟨.wait, .inl ⟨⟨d, r, opens, State.doorBusy_iff.mp busy⟩, rfl⟩⟩
      · next rests =>
        have noWait : ¬ checkFails s p b dir .wait := fun ⟨d', r', opens', busy⟩ => by
          obtain ⟨rfl, rfl⟩ := only opens'
          exact rests (State.doorBusy_iff.mpr busy)
        split
        · next some => exact ⟨isPending, .inr ⟨noWait, .inl ⟨waits.mp some, rfl⟩⟩⟩
        · next none =>
          refine ⟨.pending found isDir opens fun q mem door => rests ?_, .inr ⟨noWait, .inr ⟨fun h =>
            none (waits.mpr h), rfl⟩⟩⟩
          exact State.doorBusy_iff.mpr (.inl ⟨q, mem, door⟩)
    · next keeps =>
      have keeps : ∀ d' r', ¬ releases s p d' r' := fun d' r' opens => by
        obtain ⟨rfl, rfl⟩ := only opens
        exact keeps ((wouldRelease_iff isDoor).mpr opens)
      have noWait : ¬ checkFails s p b dir .wait := fun ⟨d, r, opens, _⟩ => keeps d r opens
      split
      · next some => exact ⟨isPending, .inr ⟨noWait, .inl ⟨waits.mp some, rfl⟩⟩⟩
      · next none => exact ⟨isDoor ▸ .atOnce found isDir keeps, .inr ⟨noWait, .inr ⟨fun h => none (waits.mpr h), rfl⟩⟩⟩

/-- R63 to R65: checks 7 to 12. -/
theorem State.checkDoorOn_ruling {dir : Direction} (found : s.findBadge p.badge = some b)
    (isDir : dir = directionAt p.config.mode b.presence) :
    Ruling s p (s.checkDoorOn p b dir) ∧ FirstFailing (checkFails s p b dir)
      [.notPermitted, .lockdown, .locked, .passback, .outOfWindow, .wait, .pending] (s.checkDoorOn p b dir).code := by
  unfold State.checkDoorOn
  dsimp only
  split
  · next code refuses => exact ⟨isDir ▸ .refused found (doorRefusal_mem refuses), doorRefusal_some refuses _⟩
  · next passes =>
    split
    · next passback =>
      exact ⟨isDir ▸ .refused found (by decide), doorRefusal_none passes (.inl ⟨passback_iff.mp passback, rfl⟩)⟩
    · next noPassback =>
      have noPassback : ¬ checkFails s p b dir .passback := fun h => noPassback (passback_iff.mpr h)
      split
      · next outside =>
        exact ⟨isDir ▸ .refused found (by decide), doorRefusal_none passes (.inr ⟨noPassback,
          .inl ⟨outOfWindow_iff.mp outside, rfl⟩⟩)⟩
      · next inside =>
        obtain ⟨ruling, first⟩ := State.accept_ruling found isDir
        exact ⟨ruling, doorRefusal_none passes (.inr ⟨noPassback, .inr ⟨fun h => inside (outOfWindow_iff.mpr h), first⟩⟩)⟩

/-- R60 to R62: checks 4 to 12. -/
theorem State.checkBadge_ruling {dir : Direction} (found : s.findBadge p.badge = some b)
    (isDir : dir = directionAt p.config.mode b.presence) :
    Ruling s p (s.checkBadge p b) ∧ FirstFailing (checkFails s p b dir) badgeChecks (s.checkBadge p b).code := by
  unfold State.checkBadge badgeChecks
  dsimp only
  rw [← isDir]
  split
  · next blocked => exact ⟨isDir ▸ .refused found (by decide), .inl ⟨blocked, rfl⟩⟩
  · next letIn =>
    split
    · next duplicate => exact ⟨.already, .inr ⟨letIn, .inl ⟨isDuplicate_iff.mp duplicate, rfl⟩⟩⟩
    · next fresh =>
      have fresh : ¬ checkFails s p b dir .already := fun h => fresh (isDuplicate_iff.mpr h)
      split
      · next l conflict =>
        obtain ⟨isLast, conflicts⟩ := State.conflictWith_eq_some (dir := dir) conflict
        exact ⟨isDir ▸ .conflict found isLast, .inr ⟨letIn, .inr ⟨fresh, .inl ⟨conflicts, rfl⟩⟩⟩⟩
      · next alone =>
        obtain ⟨ruling, first⟩ := State.checkDoorOn_ruling found isDir
        exact ⟨ruling, .inr ⟨letIn, .inr ⟨fresh, .inr ⟨State.conflictWith_eq_none alone, first⟩⟩⟩⟩

theorem State.judge_ruling (s : State) (p : Punch) : Ruling s p (s.judge p) := by
  unfold State.judge
  split
  · exact .clockUnset
  · split
    · exact .wait
    · split
      · exact .unknown
      · next b found => exact (State.checkBadge_ruling found rfl).1

theorem State.judge_absent (valid : s.tbu.calendarValid = true) (room : 4 ≤ s.sparePlaces)
    (absent : s.findBadge p.badge = none) : s.judge p = refused s p (unresolvedDirection p.config.mode) .unknownBadge := by
  unfold State.judge
  rw [if_neg (by rw [valid]; exact Bool.noConfusion), if_neg (Nat.not_lt.mpr room), absent]

theorem State.judge_found (valid : s.tbu.calendarValid = true) (room : 4 ≤ s.sparePlaces)
    (found : s.findBadge p.badge = some b) : s.judge p = s.checkBadge p b := by
  unfold State.judge
  rw [if_neg (by rw [valid]; exact Bool.noConfusion), if_neg (Nat.not_lt.mpr room), found]

end Ruling

/-- Settles O28: the chain of checks as `FirstFailing`. -/
theorem firstFailingCheckDecidesThePunch : Obligations.FirstFailingCheckDecidesThePunch := by
  unfold Obligations.FirstFailingCheckDecidesThePunch
  intro s p
  refine ⟨fun invalid => ?_, fun valid full => ?_, fun valid room absent => ?_, fun b dir valid room found isDir => ?_⟩
  · unfold State.judge
    rw [if_pos invalid]
  · unfold State.judge
    rw [if_neg (by rw [valid]; exact Bool.noConfusion), if_pos full]
  · rw [State.judge_absent valid room absent]
    rfl
  · obtain ⟨-, first⟩ := State.checkBadge_ruling found (directionOf_iff.mp isDir)
    rw [State.judge_found valid room found]
    exact ⟨fun earlier code later split pass failing => first.eq_of_fails split pass failing, first.eq_ok⟩

/-! ### Punches that are not accepted -/

section Refusals

variable {s : State} {p : Punch}

theorem State.refuse_eq (s : State) (p : Punch) (dir : Option Direction) (code : ReplyCode) :
    s.refuse p dir code = punchStored s (refusalReport p dir code) := rfl

theorem State.passageHere_iff : s.passageHere p = true ↔
    ∃ q, s.passageOf p.badge = some q ∧ p.config.door = some q.door := by
  unfold State.passageHere
  cases s.passageOf p.badge with
  | none => simp
  | some q => simp

theorem unresolvedDirection_iff {mode : StationMode} : unresolvedDirection mode = none ↔ mode = .toggle := by
  cases mode <;> simp [unresolvedDirection]

theorem directionOf_unresolved {mode : StationMode} {pres : Presence} {d : Direction}
    (h : unresolvedDirection mode = some d) : directionOf mode pres d := by
  cases mode with
  | toggle => cases h
  | entry => cases h; rfl
  | exit => cases h; rfl
  | access => cases h; rfl

theorem inSet_joined (m : StationSet) (a b i : StationId) :
    inSet (addTo (addTo m a) b) i = true ↔ inSet m i = true ∨ i = a ∨ i = b := by
  rw [inSet_addTo_iff, inSet_addTo_iff, or_assoc]

end Refusals

/-- Settles O29: the rulings that are not an acceptance. -/
theorem punchesNotAcceptedOnlyReport : Obligations.PunchesNotAcceptedOnlyReport := by
  unfold Obligations.PunchesNotAcceptedOnlyReport
  intro s p
  have ruling := s.judge_ruling p
  generalize s.judge p = v at ruling
  refine ⟨fun isCode => ?_, fun isCode => ?_, fun notAlready notOk => ?_, fun isCode => ?_, fun code mem isCode => ?_,
    fun isCode => ?_⟩
  · cases ruling with
    | clockUnset => rfl
    | wait => rfl
    | already => rfl
    | unknown => simp [refused] at isCode
    | refused _ isRefusal =>
      rcases isCode with rfl | rfl | rfl <;> exact absurd isRefusal (by decide)
    | conflict => simp at isCode
    | atOnce => simp at isCode
    | pending => simp at isCode
  · cases ruling with
    | already => exact State.passageHere_iff
    | clockUnset => cases isCode
    | wait => cases isCode
    | unknown => cases isCode
    | refused _ isRefusal =>
      cases isCode
      exact absurd isRefusal (by decide)
    | conflict => cases isCode
    | atOnce => cases isCode
    | pending => cases isCode
  · cases ruling with
    | clockUnset => rfl
    | wait => rfl
    | unknown => rfl
    | refused => rfl
    | conflict => rfl
    | atOnce => rfl
    | already => exact absurd rfl notAlready
    | pending => exact absurd rfl notOk
  · cases ruling with
    | unknown => exact ⟨_, rfl, unresolvedDirection_iff, fun d pres isDir => directionOf_unresolved isDir⟩
    | clockUnset => cases isCode
    | wait => cases isCode
    | already => cases isCode
    | refused _ isRefusal =>
      cases isCode
      exact absurd isRefusal (by decide)
    | conflict => cases isCode
    | atOnce => cases isCode
    | pending => cases isCode
  · cases ruling with
    | refused found _ =>
      cases isCode
      exact ⟨_, _, found, directionOf_iff.mpr rfl, rfl⟩
    | clockUnset => cases isCode; exact absurd mem (by decide : ReplyCode.clockUnset ∉ refusalCodes)
    | wait => cases isCode; exact absurd mem (by decide : ReplyCode.wait ∉ refusalCodes)
    | unknown => cases isCode; exact absurd mem (by decide : ReplyCode.unknownBadge ∉ refusalCodes)
    | already => cases isCode; exact absurd mem (by decide : ReplyCode.already ∉ refusalCodes)
    | conflict => cases isCode; exact absurd mem (by decide : ReplyCode.conflict ∉ refusalCodes)
    | atOnce => cases isCode; exact absurd mem (by decide : ReplyCode.ok ∉ refusalCodes)
    | pending => cases isCode; exact absurd mem (by decide : ReplyCode.ok ∉ refusalCodes)
  · cases ruling with
    | conflict found isLast =>
      refine ⟨_, _, _, _, found, directionOf_iff.mpr rfl, isLast, inSet_joined _ _ _, fun some => ?_, fun empty => ?_⟩
      · exact if_neg some
      · exact if_pos empty
    | clockUnset => cases isCode
    | wait => cases isCode
    | unknown => cases isCode
    | already => cases isCode
    | refused _ isRefusal =>
      cases isCode
      exact absurd isRefusal (by decide)
    | atOnce => cases isCode
    | pending => cases isCode

/-! ### Accepted punches -/

theorem insertPassage_splits {p : Passage} {l : List Passage} (ascending : l.Pairwise fun a b => a.door < b.door)
    (absent : ∀ q ∈ l, q.door ≠ p.door) : ∃ before after, l = before ++ after
      ∧ insertPassage p l = before ++ p :: after ∧ (∀ q ∈ before, q.door < p.door) ∧ ∀ q ∈ after, p.door < q.door := by
  induction l with
  | nil => exact ⟨[], [], rfl, rfl, fun q mem => absurd mem List.not_mem_nil, fun q mem => absurd mem List.not_mem_nil⟩
  | cons first rest ih =>
    obtain ⟨above, ascendingRest⟩ := List.pairwise_cons.mp ascending
    have differs : first.door ≠ p.door := absent first List.mem_cons_self
    by_cases place : p.door ≤ first.door
    · have lower : p.door < first.door := lt_of_le_of_ne place differs.symm
      refine ⟨[], first :: rest, rfl, if_pos place, fun q mem => absurd mem List.not_mem_nil, fun q mem => ?_⟩
      rcases List.mem_cons.mp mem with rfl | later
      · exact lower
      · exact lt_trans lower (above q later)
    · obtain ⟨before, after, split, inserted, low, high⟩ := ih ascendingRest fun q mem =>
        absent q (List.mem_cons_of_mem first mem)
      refine ⟨first :: before, after, by rw [split]; rfl, ?_, fun q mem => ?_, high⟩
      · unfold insertPassage
        rw [if_neg place, inserted]
        rfl
      · rcases List.mem_cons.mp mem with rfl | later
        · exact lt_of_not_ge place
        · exact low q later

section Accepted

variable {s : State} {p : Punch} {b : Badge} {d : DoorId} {r : Door}

theorem State.createPassage_eq (dir : Direction) (c : Captured) (number : b.number = p.badge)
    (configured : s.drc.doors.get d = some r) : s.createPassage p b dir c d
      = doorSet (passagesSet (entryChanged s p.badge fun e =>
          { e with savedPunch := some e.lastPunch, lastPunch := some ⟨p.station, p.time⟩ })
        (insertPassage ⟨d, p.badge, p.station, dir, p.time, p.age, p.arrival, p.late, c, s.tbu.calendar⟩ s.pev.passages))
        d { r with state := .released, releaseTimer := some (Config.seconds r.config.releaseTime) } := by
  unfold State.createPassage State.releaseDoor
  rw [number]
  dsimp only
  split
  · next unconfigured => exact nomatch configured.symm.trans unconfigured
  · next r' isDoor =>
    cases configured.symm.trans isDoor
    rfl

theorem State.commitAtOnce_eq (dir : Direction) (c : Captured) (number : b.number = p.badge) :
    ∃ free, (free = true ↔ ∃ d r, doorOfStation s p.config d r ∧ r.mode = .free)
      ∧ s.commitAtOnce p b dir c (s.stationDoor p.config)
        = (entryChanged s p.badge fun e => { e with lastPunch := some ⟨p.station, p.time⟩ }).commitWork
          ⟨p.badge, p.station, p.config.door, dir, p.time, p.age, p.arrival, c, p.arrival,
            ⟨p.late, p.stale, free, false, false⟩⟩ := by
  cases isDoor : s.stationDoor p.config with
  | none =>
    refine ⟨false, iff_of_false Bool.false_ne_true fun ⟨d, r, named, _⟩ => ?_, ?_⟩
    · exact nomatch (doorOfStation_iff.mp named).symm.trans isDoor
    · rw [← number]
      rfl
  | some door =>
    obtain ⟨d, r⟩ := door
    refine ⟨r.mode == .free, ⟨fun free => ⟨d, r, doorOfStation_iff.mpr isDoor, beq_iff_eq.mp free⟩, ?_⟩, ?_⟩
    · rintro ⟨d', r', named, free⟩
      obtain ⟨rfl, rfl⟩ := doorOfStation_eq isDoor named
      exact beq_iff_eq.mpr free
    · rw [← number]
      rfl

end Accepted

/-- Settles O30: the ruling that creates a passage. -/
theorem acceptedPunchesReleaseTheirDoor : Obligations.AcceptedPunchesReleaseTheirDoor := by
  unfold Obligations.AcceptedPunchesReleaseTheirDoor
  intro s p b dir d r isOk found isDir opens passages
  have ruling := s.judge_ruling p
  have ascending := ((passagesOk_iff s).mp passages).1.ascending
  have direction := directionOf_iff.mp isDir
  generalize s.judge p = v at ruling isOk
  cases ruling with
  | clockUnset => cases isOk
  | wait => cases isOk
  | unknown => cases isOk
  | already => cases isOk
  | refused _ isRefusal =>
    cases isOk
    exact absurd isRefusal (by decide)
  | conflict => cases isOk
  | atOnce _ _ keeps => exact absurd opens (keeps d r)
  | pending found' isDir' opens' noPassage =>
    cases found.symm.trans found'
    cases isDir'.trans direction.symm
    obtain ⟨rfl, rfl⟩ := doorOfStation_eq (doorOfStation_iff.mp opens'.1) opens.1
    obtain ⟨before, after, split, inserted, low, high⟩ := insertPassage_splits (p := ⟨d, p.badge, p.station, dir, p.time,
      p.age, p.arrival, p.late, s.capture b dir p.time, s.tbu.calendar⟩) ascending noPassage
    refine ⟨rfl, s.capture b dir p.time, before, after, State.capture_capturedAs, split, low, high, ?_⟩
    rw [← inserted]
    exact State.createPassage_eq dir _ (State.findBadge_number found) opens.1.2

/-- Settles O31: the ruling that commits at once. -/
theorem otherAcceptedPunchesCommitAtOnce : Obligations.OtherAcceptedPunchesCommitAtOnce := by
  unfold Obligations.OtherAcceptedPunchesCommitAtOnce
  intro s p b dir isOk found isDir keeps
  have ruling := s.judge_ruling p
  have direction := directionOf_iff.mp isDir
  generalize s.judge p = v at ruling isOk
  cases ruling with
  | clockUnset => cases isOk
  | wait => cases isOk
  | unknown => cases isOk
  | already => cases isOk
  | refused _ isRefusal =>
    cases isOk
    exact absurd isRefusal (by decide)
  | conflict => cases isOk
  | pending _ _ opens _ => exact absurd opens (keeps _ _)
  | atOnce found' isDir' _ =>
    cases found.symm.trans found'
    cases isDir'.trans direction.symm
    obtain ⟨free, isFree, commits⟩ := State.commitAtOnce_eq dir (s.capture b dir p.time) (State.findBadge_number found)
    exact ⟨rfl, s.capture b dir p.time, free, State.capture_capturedAs, isFree, commits⟩

/-! ### Commits -/

section Commits

variable {s : State} {a : Accepted} {b : Badge}

/-- R41: two changes of the entry found that agree on it are the same. -/
theorem BadgesOk.updateBadge_eq (h : BadgesOk s) {n : Nat} (found : s.findBadge n = some b) {f g : Badge → Badge}
    (same : f b = g b) : s.updateBadge n f = entryChanged s n g := by
  have entries : s.btb.entries.map (fun e => if e.number = n then f e else e)
      = s.btb.entries.map (fun e => if e.number = n then g e else e) := List.map_congr_left fun e mem => by
    by_cases own : e.number = n
    · rw [if_pos own, if_pos own, h.eq_of_found found mem own, same]
    · rw [if_neg own, if_neg own]
  unfold State.updateBadge
  rw [entries]
  rfl

theorem acceptedReport_plain {noRecord openKept : Bool} (isNoRecord : a.flags.noRecord = noRecord)
    (isOpenKept : a.flags.openKept = openKept) (result : PunchResult) (finish : Nat) :
    acceptedReport a result noRecord openKept finish = a.report result finish := by
  subst isNoRecord isOpenKept
  rfl

theorem acceptedReport_openKept {noRecord : Bool} (isNoRecord : a.flags.noRecord = noRecord) (openKept : Bool)
    (result : PunchResult) (finish : Nat) : acceptedReport a result noRecord openKept finish
      = { a with flags := { a.flags with openKept := openKept } }.report result finish := by
  subst isNoRecord
  rfl

theorem acceptedReport_noRecord {openKept : Bool} (isOpenKept : a.flags.openKept = openKept) (noRecord : Bool)
    (result : PunchResult) (finish : Nat) : acceptedReport a result noRecord openKept finish
      = { a with flags := { a.flags with noRecord := noRecord } }.report result finish := by
  subst isOpenKept
  rfl

theorem State.commitWork_entry (found : s.findBadge a.badge = some b) (entry : a.direction = .entry) :
    s.commitWork a = s.commitEntry a b := by
  unfold State.commitWork
  rw [found, entry]

theorem State.commitWork_exit (found : s.findBadge a.badge = some b) (exit : a.direction = .exit) :
    s.commitWork a = s.commitExit a b := by
  unfold State.commitWork
  rw [found, exit]

theorem State.commitWork_access (found : s.findBadge a.badge = some b) (access : a.direction = .access) :
    s.commitWork a = s.store false (a.report .accepted s.tbu.calendar) := by
  unfold State.commitWork
  rw [found, access]

end Commits

/-- Settles O32: the three directions of `commitWork`. -/
theorem commitsDoTheWorkOfTheirDirection : Obligations.CommitsDoTheWorkOfTheirDirection := by
  unfold Obligations.CommitsDoTheWorkOfTheirDirection
  intro s a b ok found noRecord openKept
  have number := State.findBadge_number found
  have plain := acceptedReport_plain noRecord openKept .accepted s.tbu.calendar
  refine ⟨fun entry pays empty => ?_, fun entry keeps => ?_, fun exit r saturated isRecord isSaturated => ?_,
    fun exit empty => ?_, fun access => ?_⟩
  · have same : b.afterEntry a (s.sps.payClasses.get b.payClass) s.olc.settings = { b with
        presence := .inside
        record := some (buildRecord a.captured a.punchTime (s.sps.payClasses.get b.payClass) s.olc.settings) } := by
      unfold Badge.afterEntry
      rw [pays, empty]
      rfl
    rw [State.commitWork_entry found entry]
    unfold State.commitEntry
    rw [number, ok.updateBadge_eq found (g := fun e => { e with
        presence := .inside
        record := some (buildRecord a.captured a.punchTime (s.sps.payClasses.get b.payClass) s.olc.settings) }) same,
      acceptedReport_openKept noRecord, empty, Option.isSome_none, Bool.and_false]
    rfl
  · have same : b.afterEntry a (s.sps.payClasses.get b.payClass) s.olc.settings = { b with presence := .inside } := by
      have kept : (b.flags.noPay || b.record.isSome) = true := by
        rw [Bool.or_eq_true, Option.isSome_iff_ne_none]
        exact keeps
      unfold Badge.afterEntry
      rw [if_pos kept]
    have isKept : (!b.flags.noPay && b.record.isSome) = !b.flags.noPay := by
      rcases keeps with noPay | some
      · rw [noPay]; rfl
      · rw [Option.isSome_iff_ne_none.mpr some, Bool.and_true]
    rw [State.commitWork_entry found entry]
    unfold State.commitEntry
    rw [number, ok.updateBadge_eq found (g := fun e => { e with presence := .inside }) same, acceptedReport_openKept noRecord,
      isKept]
    rfl
  · rw [State.commitWork_exit found exit, isSaturated, plain]
    unfold State.commitExit
    rw [isRecord, ← number]
    rfl
  · rw [State.commitWork_exit found exit, acceptedReport_noRecord openKept]
    unfold State.commitExit
    rw [empty, number]
    rfl
  · rw [State.commitWork_access found access, plain]
    rfl

/-! ### Commit and cancel of a passage -/

section PassageEnds

variable {s : State} {before after : List Passage} {p : Passage}

theorem PassagesOk.passageAt_entry (h : PassagesOk s) (passages : s.pev.passages = before ++ p :: after) :
    s.passageAt p.door = some p ∧ s.removePassage p.door = passagesSet s (before ++ after) := by
  have order := ((passagesOk_iff s).mp h).1.ascending
  rw [passages] at order
  obtain ⟨-, upper, across⟩ := List.pairwise_append.mp order
  have low : ∀ q ∈ before, q.door ≠ p.door := fun q mem => ne_of_lt (across q mem p List.mem_cons_self)
  have high : ∀ q ∈ after, q.door ≠ p.door := fun q mem => ne_of_gt ((List.pairwise_cons.mp upper).1 q mem)
  have keep : ∀ l : List Passage, (∀ q ∈ l, q.door ≠ p.door) → l.filter (fun q => q.door != p.door) = l :=
    fun l other => List.filter_eq_self.mpr fun q mem => bne_iff_ne.mpr (other q mem)
  constructor
  · unfold State.passageAt
    rw [passages]
    exact List.find?_eq_some_iff_append.mpr ⟨beq_self_eq_true _, before, after, rfl, fun q mem => by
      rw [Bool.not_eq_true', beq_eq_false_iff_ne]
      exact low q mem⟩
  · unfold State.removePassage
    rw [passages, List.filter_append, List.filter_cons_of_neg (by simp), keep before low, keep after high]
    rfl

end PassageEnds

/-- Settles O33: the passage at a door, taken off the list. -/
theorem passagesCommitOrCancel : Obligations.PassagesCommitOrCancel := by
  unfold Obligations.PassagesCommitOrCancel
  refine ⟨fun s before after p freePass ok passages => ?_, fun s d freePass empty => ?_⟩
  · obtain ⟨found, removed⟩ := ok.passageAt_entry passages
    unfold State.commitPassage State.cancelPassage
    rw [found]
    dsimp only
    rw [removed]
    exact ⟨rfl, rfl⟩
  · unfold State.commitPassage State.cancelPassage
    rw [State.passageAt_none.mpr empty]
    exact ⟨rfl, rfl⟩

end Sys2Proof.Machine
end

section
/-!
PROOFS. Effective modes, input events and the timers of the doors (5.1, 5.3 to 5.7). Obligations O34 to O38.
-/

namespace Sys2Proof.Machine

open Sys2Proof

/-! ### Schedules and effective modes -/

section Modes

variable {s : State} {c : DoorConfig} {o : Override}

/-- R84. -/
theorem Window.contains_iff {w : Window} {m : Nat} : w.contains m = true ↔ windowContains w m := by
  have before : dayOf m + 6 + 5 = m / 1440 + 11 := by unfold dayOf; omega
  unfold Window.contains windowContains weekday
  dsimp only
  rw [before]
  unfold minuteOfDay dayOf
  split
  · next forward =>
    have notBack := Nat.not_le.mpr forward
    simp [forward, notBack, and_assoc]
  · next back =>
    have wraps := Nat.not_lt.mp back
    simp [back, wraps]

/-- R85. -/
theorem State.scheduleMode_has : hasScheduleMode s c (s.scheduleMode c) := by
  unfold State.scheduleMode
  refine ⟨fun invalid => ?_, fun unscheduled => ?_, fun k valid scheduled => ⟨fun outside => ?_, ?_⟩⟩
  · exact if_neg (by rw [invalid]; exact Bool.noConfusion)
  · rw [unscheduled]
    exact ite_self _
  · rw [if_pos valid, scheduled]
    have nothing : (s.drc.schedules.get k).find? (fun w => w.contains s.minute) = none :=
      List.find?_eq_none.mpr fun w mem contains => outside w mem (Window.contains_iff.mp contains)
    dsimp only
    rw [scheduledMode, nothing]
    rfl
  · intro before w after windows passed contains
    rw [if_pos valid, scheduled]
    have first : (s.drc.schedules.get k).find? (fun w => w.contains s.minute) = some w :=
      List.find?_eq_some_iff_append.mpr ⟨Window.contains_iff.mpr contains, before, after, windows, fun x mem => by
        rw [Bool.not_eq_true', ← Bool.not_eq_true]
        exact fun early => passed x mem (Window.contains_iff.mp early)⟩
    dsimp only
    rw [scheduledMode, first]
    rfl

theorem State.resolveMode_rest (still : s.accepted evacuationInput = false)
    (unsafe_ : s.tbu.supply ≠ .battery ∨ c.failMode = .secure) : s.resolveMode c o =
      if o = .lockdown then .lockdown else if o = .holdFree then .free else (s.scheduleMode c).mode := by
  unfold State.resolveMode
  rw [if_neg (by rw [still]; exact Bool.noConfusion), if_neg fun ⟨battery, safe⟩ => unsafe_.elim (fun mains => mains battery)
    fun secure => nomatch safe.symm.trans secure]

end Modes

/-- Settles O34: the branches of `resolveMode`. -/
theorem effectiveModeIsTheFirstThatApplies : Obligations.EffectiveModeIsTheFirstThatApplies := by
  unfold Obligations.EffectiveModeIsTheFirstThatApplies
  refine fun s c o => ⟨fun evacuation => if_pos evacuation, fun still => ⟨fun battery safe => ?_, fun rest => ?_⟩⟩
  · unfold State.resolveMode
    rw [if_pos (show s.tbu.supply = .battery ∧ c.failMode = .safe from ⟨battery, safe⟩)]
    exact ite_self _
  · rw [State.resolveMode_rest still rest]
    refine ⟨fun lockdown => if_pos lockdown, fun holdFree => ?_, fun normal => ⟨s.scheduleMode c,
      State.scheduleMode_has, ?_⟩⟩
    · rw [holdFree]
      rfl
    · rw [normal]
      refine ⟨fun card => ?_, fun locked => ?_, fun free => ?_⟩
      · rw [card]; rfl
      · rw [locked]; rfl
      · rw [free]; rfl

section ModeChanges

variable {s : State} {d : DoorId} {r : Door} {mode : DoorMode}

theorem State.resolveDoor_of_change (found : s.drc.doors.get d = some r)
    (resolved : s.resolveMode r.config r.override = mode) (changes : mode ≠ r.mode) :
    s.resolveDoor d = s.changeMode d r mode := by
  subst resolved
  unfold State.resolveDoor
  rw [found]
  exact if_neg changes

theorem State.changeMode_free : s.changeMode d r .free
    = (doorSet s d { r with mode := .free, state := .free, releaseTimer := none, heldTimer := none }).commitPassage
        d true := rfl

/-- R96: a door that leaves FREE, for LOCKDOWN too, is not RELEASED. -/
theorem State.changeMode_leaves (leaves : r.mode = .free) (closes : mode ≠ .free) : s.changeMode d r mode
    = doorSet s d ({ r with mode := mode }.closedState (s.accepted r.config.contact)) := by
  have notReleased : ({ r with mode := mode }.closedState (s.accepted r.config.contact)).state ≠ .released := by
    unfold Door.closedState
    split
    · exact DoorState.noConfusion
    · exact DoorState.noConfusion
  unfold State.changeMode
  rw [if_neg closes]
  dsimp only
  rw [if_pos leaves]
  unfold Door.leaveFree
  rw [if_neg notReleased]
  exact ite_self _

theorem State.changeMode_stays (stays : r.mode ≠ .free) (closes : mode ≠ .free) : s.changeMode d r mode
    = if mode = .lockdown ∧ r.state = .released then
        (doorSet s d { r with mode := mode, state := .secure, releaseTimer := none }).cancelPassage d
      else doorSet s d { r with mode := mode } := by
  unfold State.changeMode Door.enterLockdown
  rw [if_neg closes]
  dsimp only
  rw [if_neg stays]
  dsimp only
  by_cases lockdown : mode = .lockdown
  · by_cases released : r.state = .released
    · rw [if_pos lockdown, if_pos released, if_pos released, if_pos ⟨lockdown, released⟩]
      rfl
    · rw [if_pos lockdown, if_neg released, if_neg fun both => released both.2]
      rfl
  · rw [if_neg lockdown, if_neg fun both => lockdown both.1]
    rfl

end ModeChanges

/-- Settles O35: `resolveDoor` through the three forms of `changeMode`. -/
theorem modeChangesMoveTheDoor : Obligations.ModeChangesMoveTheDoor := by
  unfold Obligations.ModeChangesMoveTheDoor
  refine fun s d r mode found resolved => ⟨fun same => ?_, fun changes free => ?_, fun changes leaves =>
    ⟨fun swing active => ?_, fun closed => ?_⟩, fun changes lockdown stays released => ?_,
    fun changes closes stays keeps => ?_⟩
  · unfold State.resolveDoor
    rw [found]
    exact if_pos (resolved.trans same)
  · rw [State.resolveDoor_of_change found resolved changes, free]
    rfl
  · rw [State.resolveDoor_of_change found resolved changes,
      State.changeMode_leaves leaves fun free => changes (free.trans leaves.symm)]
    unfold Door.closedState
    rw [if_pos (show r.config.kind = .swing ∧ _ from ⟨swing, active⟩)]
    rfl
  · rw [State.resolveDoor_of_change found resolved changes,
      State.changeMode_leaves leaves fun free => changes (free.trans leaves.symm)]
    unfold Door.closedState
    rw [if_neg ?_]
    rintro ⟨swing, active⟩
    rcases closed with turnstile | inactive
    · exact nomatch turnstile.symm.trans swing
    · exact nomatch inactive.symm.trans active
  · rw [State.resolveDoor_of_change found resolved changes, State.changeMode_stays stays (by rw [lockdown]; decide),
      if_pos ⟨lockdown, released⟩, lockdown]
  · rw [State.resolveDoor_of_change found resolved changes, State.changeMode_stays stays closes, if_neg ?_]
    rintro ⟨lockdown, released⟩
    rcases keeps with notLockdown | notReleased
    · exact notLockdown lockdown
    · exact notReleased released

/-! ### Doors that are reached by an edge -/

/-- R80, R82: the inputs that the doors name: contacts 0 to 15, buttons 16 to 31, none named twice. -/
structure InputsNamed (s : State) : Prop where
  contact : ∀ d r, s.drc.doors.get d = some r → r.config.contact.val < 16
  button : ∀ d r b, s.drc.doors.get d = some r → r.config.button = some b → 16 ≤ b.val ∧ b.val < 32
  once : ∀ i d e, s.usesInput i d = true → s.usesInput i e = true → d = e

/-- The doors of `t` are configured as those of `s`. -/
def SameConfigs (s t : State) : Prop := ∀ d r', t.drc.doors.get d = some r' →
  ∃ r, s.drc.doors.get d = some r ∧ r'.config = r.config

section Named

variable {s t u : State} {i : InputId} {d : DoorId} {r : Door}

theorem State.usesInput_iff : s.usesInput i d = true ↔
    ∃ r, s.drc.doors.get d = some r ∧ (r.config.contact = i ∨ r.config.button = some i) := by
  unfold State.usesInput
  cases s.drc.doors.get d with
  | none => simp
  | some r => simp

theorem SameConfigs.refl (s : State) : SameConfigs s s := fun _ r found => ⟨r, found, rfl⟩

theorem SameConfigs.trans (h : SameConfigs s t) (h' : SameConfigs t u) : SameConfigs s u := by
  intro d z found
  obtain ⟨y, foundY, configY⟩ := h' d z found
  obtain ⟨x, foundX, configX⟩ := h d y foundY
  exact ⟨x, foundX, configY.trans configX⟩

theorem SameModes.configs (h : SameModes s t) : SameConfigs s t := fun d r' found => by
  obtain ⟨r, before, config, -, -⟩ := h.doors d r' found
  exact ⟨r, before, config⟩

theorem SameConfigs.of_drc (drc : t.drc = s.drc) : SameConfigs s t := fun _ r found => ⟨r, drc ▸ found, rfl⟩

theorem SameConfigs.withBlc (s : State) (b : Blc) : SameConfigs s (s.withBlc b) := .of_drc rfl

theorem SameConfigs.foldl {α : Type} {act : State → α → State} (each : ∀ s a, SameConfigs s (act s a)) (l : List α)
    (s : State) : SameConfigs s (l.foldl act s) := by
  induction l generalizing s with
  | nil => exact .refl s
  | cons a rest ih => exact (each s a).trans (ih _)

theorem SameConfigs.resolveDoor (s : State) (d : DoorId) : SameConfigs s (s.resolveDoor d) := by
  unfold State.resolveDoor
  split
  · exact .refl s
  · next r found =>
    dsimp only
    split
    · exact .refl s
    · obtain ⟨x, drc, config, -, -⟩ := s.changeMode_doors d r (s.resolveMode r.config r.override)
      intro e r' isDoor
      rw [drc, State.setDoor_doors] at isDoor
      split at isDoor
      · next same => cases isDoor; exact ⟨r, same ▸ found, config⟩
      · exact ⟨r', isDoor, rfl⟩

theorem SameConfigs.inputEvent (s : State) (i : InputId) (active : Bool) : SameConfigs s (s.inputEvent i active) := by
  unfold State.inputEvent State.evacuationEdge
  split
  · have resolved : SameConfigs s s.resolveAll := SameConfigs.foldl SameConfigs.resolveDoor _ s
    dsimp only
    split
    · exact resolved.trans (.withBlc _ _)
    · exact resolved.trans (.withBlc _ _)
  · exact (SameModes.foldl (SameModes.doorEdge i active) _ s).configs

theorem State.inputEvent_inputs (s : State) (i : InputId) (active : Bool) :
    (s.inputEvent i active).drc.inputs = s.drc.inputs := by
  unfold State.inputEvent State.evacuationEdge
  split
  · have resolved := (TouchesDoors.resolveAll s).inputs
    dsimp only
    split
    · rw [State.withBlc_drc, resolved]
    · rw [State.withBlc_drc, resolved]
  · exact (SameModes.foldl (SameModes.doorEdge i active) _ s).inputs

theorem SameConfigs.sampleInput (s : State) (i : InputId) : SameConfigs s (s.sampleInput i) := by
  unfold State.sampleInput
  dsimp only
  split
  · exact SameConfigs.trans (t := s.setInput i _) (fun _ r found => ⟨r, found, rfl⟩) (.inputEvent _ _ _)
  · exact fun _ r found => ⟨r, found, rfl⟩

/-- R82: the condition on the doors names the inputs once. -/
theorem DoorsOk.named (h : DoorsOk s) : InputsNamed s where
  contact d r found := (h.doors d r found).contact
  button d r b found := (h.doors d r found).button b
  once := by
    intro i d e usesD usesE
    obtain ⟨r, foundD, namesD⟩ := State.usesInput_iff.mp usesD
    obtain ⟨x, foundE, namesE⟩ := State.usesInput_iff.mp usesE
    by_contra differs
    have apart := (State.inputTaken_eq_false_iff s d r.config).mp (h.inputs d r foundD) e x (Ne.symm differs) foundE
    have okD := h.doors d r foundD
    have okE := h.doors e x foundE
    rcases namesD with contactD | buttonD <;> rcases namesE with contactE | buttonE
    · simp [DoorConfig.sharesInput, contactD, contactE] at apart
    · have low := okD.contact
      have high := okE.button i buttonE
      rw [contactD] at low
      omega
    · have low := okE.contact
      have high := okD.button i buttonD
      rw [contactE] at low
      omega
    · simp [DoorConfig.sharesInput, buttonD, buttonE] at apart

theorem SameConfigs.usesInput (h : SameConfigs s t) (uses : t.usesInput i d = true) : s.usesInput i d = true := by
  obtain ⟨r', found, names⟩ := State.usesInput_iff.mp uses
  obtain ⟨r, before, config⟩ := h d r' found
  exact State.usesInput_iff.mpr ⟨r, before, config ▸ names⟩

theorem InputsNamed.of_configs (h : InputsNamed s) (same : SameConfigs s t) : InputsNamed t where
  contact d r' found := by
    obtain ⟨r, before, config⟩ := same d r' found
    exact config ▸ h.contact d r before
  button d r' b found names := by
    obtain ⟨r, before, config⟩ := same d r' found
    exact h.button d r b before (config ▸ names)
  once i d e usesD usesE := h.once i d e (same.usesInput usesD) (same.usesInput usesE)

/-- R80: an edge leaves the doors that do not name its input. -/
theorem foldl_doorEdge_unnamed {active : Bool} {l : List DoorId} (unnamed : ∀ d ∈ l, s.usesInput i d = false) :
    l.foldl (State.doorEdge i active) s = s := by
  induction l with
  | nil => rfl
  | cons d rest ih =>
    have skips : s.doorEdge i active d = s :=
      if_neg (by rw [unnamed d List.mem_cons_self]; exact Bool.noConfusion)
    rw [List.foldl_cons, skips]
    exact ih fun e mem => unnamed e (List.mem_cons_of_mem d mem)

/-- R80: an edge reaches the one door that names its input. -/
theorem InputsNamed.foldl_doorEdge (h : InputsNamed s) (uses : s.usesInput i d = true) {active : Bool}
    {l : List DoorId} (mem : d ∈ l) (distinct : l.Nodup) :
    l.foldl (State.doorEdge i active) s = s.doorEdge i active d := by
  have others : ∀ {t : State} {e : DoorId}, SameConfigs s t → d ≠ e → t.usesInput i e = false :=
    fun {t e} same differs => by
      rw [← Bool.not_eq_true]
      exact fun usesE => differs (h.once i d e uses (same.usesInput usesE))
  induction l with
  | nil => cases mem
  | cons e rest ih =>
    obtain ⟨notLater, distinctRest⟩ := List.nodup_cons.mp distinct
    rw [List.foldl_cons]
    rcases List.mem_cons.mp mem with rfl | later
    · refine foldl_doorEdge_unnamed fun e mem => others (SameModes.doorEdge i active s d).configs ?_
      rintro rfl
      exact notLater mem
    · have differs : d ≠ e := by
        rintro rfl
        exact notLater later
      have skips : s.doorEdge i active e = s :=
        if_neg (by rw [others (.refl s) differs]; exact Bool.noConfusion)
      rw [skips]
      exact ih later distinctRest

end Named

/-! ### What an edge does at a door -/

section Edges

variable {s : State} {i : InputId} {d : DoorId} {r : Door}

theorem State.doorBell_eq (s : State) (d : DoorId) (r : Door) : s.doorBell d r = match r.config.alarmBell with
    | none => s
    | some bell =>
      s.withBlc (s.blc.requestAll (decide (s.tbu.supply = .battery)) bell.outputs ⟨.door d, 2, bell.pattern⟩) := by
  unfold State.doorBell
  cases r.config.alarmBell with
  | none => rfl
  | some bell =>
    exact congrArg (fun battery => s.withBlc (s.blc.requestAll battery bell.outputs ⟨.door d, 2, bell.pattern⟩))
      s.onBattery_eq

theorem State.fireAlarm_tbu (s : State) : s.fireAlarm.tbu = s.tbu := by
  obtain ⟨a, p, fired⟩ := s.fireAlarm_touches
  rw [fired]
  rfl

theorem State.doorAlarm_eq (s : State) (d : DoorId) (r : Door) (event : DoorEvent) :
    s.doorAlarm d r event = doorAlarmed s d r event := by
  have supply : ((s.setDoor d (some r)).doorReport d r event none).fireAlarm.tbu = s.tbu :=
    (State.fireAlarm_tbu _).trans (TouchesStore.doorReport (s.setDoor d (some r)) d r event none).tbu
  unfold State.doorAlarm
  rw [State.doorBell_eq, supply]
  unfold doorAlarmed
  dsimp only
  cases r.config.alarmBell <;> rfl

/-- R92: the report of a swing door that closes after an alarm. -/
theorem State.doorReport_closed (swing : r.config.kind = .swing) (ended : DoorEvent) :
    (s.setDoor d (some { r with state := .secure, heldTimer := none })).doorReport d
        { r with state := .secure, heldTimer := none } .closedAfterAlarm (some ended)
      = (doorSet s d { r with state := .secure, heldTimer := none }).nonPunch (.door d)
        (.door ⟨d, .swing, .closedAfterAlarm, some ended, r.mode, .secure, s.tbu.calendar⟩) := by
  rw [← swing]
  rfl

theorem State.pressButton_eq (found : s.drc.doors.get d = some r) : s.pressButton d = pressed s d r := by
  unfold State.pressButton pressed State.releaseDoor
  rw [found]
  dsimp only
  by_cases lockdown : r.mode = .lockdown
  · rw [if_pos lockdown, if_neg fun both => both.1 lockdown]
  · rw [if_neg lockdown]
    by_cases standing : r.state = .secure ∨ r.state = .released
    · rw [if_pos standing, if_pos ⟨lockdown, standing⟩]
      rfl
    · rw [if_neg standing, if_neg fun both => standing both.2]

theorem State.contactEdge_eq (found : s.drc.doors.get d = some r) (active : Bool) :
    s.contactEdge d active = contactMoved s d r active := by
  unfold State.contactEdge contactMoved
  rw [found]
  dsimp only
  cases isKind : r.config.kind with
  | swing =>
    cases active with
    | true =>
      unfold State.contactOpens
      cases r.state with
      | secure => exact State.doorAlarm_eq s d _ _
      | released => rfl
      | opened => rfl
      | held => rfl
      | forced => rfl
      | free => rfl
    | false =>
      unfold State.contactCloses
      cases r.state with
      | secure => rfl
      | released => rfl
      | opened => rfl
      | held => exact State.doorReport_closed isKind .held
      | forced => exact State.doorReport_closed isKind .forced
      | free => rfl
  | turnstile =>
    cases active with
    | true =>
      unfold State.rotationPulse
      cases r.state with
      | secure => exact State.doorAlarm_eq s d _ _
      | released => rfl
      | opened => rfl
      | held => rfl
      | forced => rfl
      | free => rfl
    | false => rfl

/-- R80: an input event reaches the door that names its input. -/
theorem InputsNamed.inputEvent_reaches (h : InputsNamed s) (i : InputId) (active : Bool) :
    ReachesDoor s i active (s.inputEvent i active) where
  contact := by
    rintro d r found rfl
    have low := h.contact d r found
    have uses : s.usesInput r.config.contact d = true := State.usesInput_iff.mpr ⟨r, found, .inl rfl⟩
    unfold State.inputEvent
    rw [if_neg (by rintro same; rw [same] at low; exact absurd low (by decide)),
      h.foldl_doorEdge uses (List.mem_finRange d) (List.nodup_finRange 16)]
    unfold State.doorEdge
    rw [if_pos uses, if_pos low, State.contactEdge_eq found]
  button := by
    rintro d r found names
    obtain ⟨low, high⟩ := h.button d r i found names
    have uses : s.usesInput i d = true := State.usesInput_iff.mpr ⟨r, found, .inr names⟩
    unfold State.inputEvent
    rw [if_neg (by rintro rfl; exact absurd high (by decide)),
      h.foldl_doorEdge uses (List.mem_finRange d) (List.nodup_finRange 16)]
    unfold State.doorEdge
    rw [if_pos uses, if_neg (Nat.not_lt.mpr low), State.pressButton_eq found]
  unnamed := by
    rintro other nobody
    unfold State.inputEvent
    rw [if_neg (show i ≠ evacuationInput from other)]
    refine foldl_doorEdge_unnamed fun d _ => ?_
    rw [← Bool.not_eq_true, State.usesInput_iff]
    rintro ⟨r, found, names⟩
    obtain ⟨contact, button⟩ := nobody d r found
    exact names.elim contact button
  evacuation := by
    rintro rfl
    have resolved := TouchesDoors.resolveAll s
    unfold State.inputEvent State.evacuationEdge
    rw [if_pos (by rfl)]
    dsimp only
    rw [← resolved.blc, ← resolved.olc]
    cases active <;> rfl

end Edges

/-! ### The inputs -/

section Inputs

variable {s : State} {i : InputId}

theorem reads_iff {r : Input} {active : Bool} : reads r.activeLevel r.closed active ↔ active = r.logical := by
  unfold reads Input.logical
  cases r.activeLevel <;> exact Iff.rfl

theorem Input.watch_eq (r : Input) : r.watch = watched r r.logical := by
  unfold Input.watch watched
  split
  · rfl
  · cases isChange : r.change with
    | none => rfl
    | some e =>
      obtain ⟨closed, level, filter, accepted, change, last⟩ := r
      cases isChange
      rfl

theorem State.setInput_get (s : State) (i : InputId) (r : Input) (j : InputId) :
    (s.setInput i r).drc.inputs.get j = if i = j then r else s.drc.inputs.get j := Table.get_set _ _ _ _

/-- R79: an input after its sample. -/
def Input.sampled (r : Input) : Input :=
  { r with lastSample := some r.logical, accepted := if r.lastSample = some r.logical then r.logical else r.accepted }

/-- R79: a sample changes its own input alone. -/
theorem State.sampleInput_get (s : State) (i j : InputId) : (s.sampleInput i).drc.inputs.get j =
    if i = j then (s.drc.inputs.get i).sampled else s.drc.inputs.get j := by
  unfold State.sampleInput Input.sampled
  dsimp only
  by_cases agrees : (s.drc.inputs.get i).lastSample = some (s.drc.inputs.get i).logical
  · rw [if_pos agrees]
    by_cases same : (s.drc.inputs.get i).accepted = (s.drc.inputs.get i).logical
    · rw [if_neg fun both => both.2 same, State.setInput_get, ← same]
    · rw [if_pos ⟨agrees, same⟩, State.inputEvent_inputs, State.setInput_get]
  · rw [if_neg fun both => agrees both.1, if_neg agrees, State.setInput_get]

/-- R79: the inputs taken one after another, up to the `n`-th. -/
def State.sampledUpTo (s : State) (n : Nat) : State := ((List.finRange 33).take n).foldl State.sampleInput s

theorem State.sampledUpTo_succ (s : State) (i : InputId) :
    s.sampledUpTo (i.val + 1) = (s.sampledUpTo i.val).sampleInput i := by
  unfold State.sampledUpTo
  rw [List.take_add_one, List.foldl_append, List.getElem?_eq_getElem (by rw [List.length_finRange]; exact i.isLt),
    List.getElem_finRange]
  rfl

theorem State.sampledUpTo_all (s : State) : s.sampledUpTo 33 = s.sampleAll := by
  unfold State.sampledUpTo State.sampleAll
  rw [List.take_of_length_le (by rw [List.length_finRange])]

/-- R79: an input is left as it is until its turn comes. -/
theorem State.sampledUpTo_before (s : State) {n : Nat} (i : InputId) (before : n ≤ i.val) :
    (s.sampledUpTo n).drc.inputs.get i = s.drc.inputs.get i := by
  induction n with
  | zero => rfl
  | succ n ih =>
    have turn : n < 33 := by omega
    have later := ih (by omega)
    rw [State.sampledUpTo_succ s ⟨n, turn⟩, State.sampleInput_get, if_neg fun same => ?_]
    · exact later
    · rw [← same] at before
      exact absurd before (Nat.not_succ_le_self n)

/-- R79: and is not touched again. -/
theorem State.sampledUpTo_after (s : State) {n : Nat} (i : InputId) (bound : n ≤ 33) (passed : i.val < n) :
    (s.sampledUpTo n).drc.inputs.get i = (s.drc.inputs.get i).sampled := by
  induction n with
  | zero => exact absurd passed (Nat.not_lt_zero _)
  | succ n ih =>
    rw [State.sampledUpTo_succ s ⟨n, bound⟩, State.sampleInput_get]
    by_cases turn : i.val = n
    · have same : (⟨n, bound⟩ : InputId) = i := Fin.ext turn.symm
      subst turn
      rw [if_pos same, same, s.sampledUpTo_before i (Nat.le_refl i.val)]
    · rw [if_neg fun same => turn (by rw [← same])]
      exact ih (by omega) (by omega)

theorem SameConfigs.sampledUpTo (s : State) (n : Nat) : SameConfigs s (s.sampledUpTo n) :=
  SameConfigs.foldl SameConfigs.sampleInput _ s

/-- R79, R80: one input of a sampling. -/
theorem InputsNamed.sampleInput_taken (h : InputsNamed s) (i : InputId) :
    SampleTaken s i (s.drc.inputs.get i) (s.drc.inputs.get i).logical (s.sampleInput i) where
  accepted agrees differs := by
    have named : InputsNamed (s.setInput i { s.drc.inputs.get i with
        accepted := (s.drc.inputs.get i).logical, lastSample := some (s.drc.inputs.get i).logical }) :=
      h.of_configs fun _ r found => ⟨r, found, rfl⟩
    unfold State.sampleInput
    dsimp only
    rw [if_pos ⟨agrees, differs⟩]
    exact named.inputEvent_reaches i _
  kept keeps := by
    unfold State.sampleInput
    dsimp only
    rw [if_neg fun both => keeps.elim (fun other => other both.1) both.2]
    rfl

theorem exec_inputSample (battery : s.tbu.supply = .battery) : exec .inputSample s
    = .next (s.sampleAll.withDrc { s.sampleAll.drc with sampleTimer := some (Config.tensOfMs 50) }).settle :=
  if_pos battery

end Inputs

/-! ### INPUT_PUT and INPUT_GET -/

section InputPut

variable {s : State} {i : InputId} {level : ActiveLevel} {filter : Nat}

/-- R81, R185: the code of an active level. -/
def activeLevelCode : ActiveLevel → Nat
  | .activeOpen => 0
  | .activeClosed => 1

theorem ofCode_activeLevelCode (level : ActiveLevel) : ofCode activeLevels (activeLevelCode level) = some level := by
  cases level <;> rfl

theorem checkInputPut_fields (low : 10 ≤ filter) (high : filter ≤ 150) (tens : filter % 10 = 0) :
    checkInputPut ⟨i, activeLevelCode level, filter⟩ = some (i, level, filter) := by
  unfold checkInputPut
  dsimp only
  rw [toFin?_val, ofCode_activeLevelCode]
  exact if_pos ⟨low, high, tens⟩

theorem checkInputPut_eq_none {a : InputPutArgs} (outside : 32 < a.input ∨ 1 < a.activeLevel ∨ a.filterTime < 10
    ∨ 150 < a.filterTime ∨ a.filterTime % 10 ≠ 0) : checkInputPut a = none := by
  rw [Option.eq_none_iff_forall_ne_some]
  intro v checked
  simp only [checkInputPut, Option.bind_eq_bind, Option.bind_eq_some_iff] at checked
  obtain ⟨j, isInput, l, isLevel, checked⟩ := checked
  have inputRange := toFin?_lt isInput
  have levelRange : a.activeLevel < 2 := ofCode_length isLevel
  split at checked
  · omega
  · cases checked

theorem inputPut_work (low : 10 ≤ filter) (high : filter ≤ 150) (tens : filter % 10 = 0) :
    commandWork s (.inputPut (.fields ⟨i, activeLevelCode level, filter⟩)) = done (s.putInput i level filter) .none := by
  change withChecked s (checkInputPut _) _ = _
  rw [checkInputPut_fields low high tens]
  rfl

/-- R81: the settings apply at once. -/
theorem State.putInput_eq {r : Input} {active : Bool} (isInput : r = { s.drc.inputs.get i with
    activeLevel := level, filterTime := filter }) (isActive : active = r.logical) : s.putInput i level filter =
      if s.tbu.supply = .mains then
        if (watched r active).filterElapsed then (s.setInput i (watched r active)).acceptInput i
        else inputSet s i (watched r active)
      else inputSet s i r := by
  subst isInput isActive
  unfold State.putInput
  dsimp only
  rw [Input.watch_eq]
  rfl

/-- R78: an accepted level takes the logical level with its edge. -/
theorem State.acceptInput_watched {r : Input} {active : Bool} (isActive : active = r.logical) :
    (s.setInput i (watched r active)).acceptInput i
      = (inputSet s i { r with accepted := active, change := none }).inputEvent i active := by
  have get : (s.setInput i (watched r active)).drc.inputs.get i = watched r active := by
    rw [State.setInput_get, if_pos rfl]
  have logical : (watched r active).logical = active := isActive.symm
  have twice : (s.setInput i (watched r active)).setInput i { r with accepted := active, change := none }
      = inputSet s i { r with accepted := active, change := none } := by
    have inputs : (s.drc.inputs.set i (watched r active)).set i { r with accepted := active, change := none }
        = s.drc.inputs.set i { r with accepted := active, change := none } := Table.ext_get _ _ fun j => by
      rw [Table.get_set, Table.get_set, Table.get_set]
      split <;> rfl
    unfold State.setInput inputSet
    dsimp only
    rw [State.withDrc_drc]
    dsimp only
    rw [inputs]
    rfl
  unfold State.acceptInput
  dsimp only
  rw [get, logical, ← twice]
  rfl

theorem watched_elapsed {r : Input} {active : Bool} : (watched r active).filterElapsed = true ↔
    active ≠ r.accepted ∧ r.filter ≤ r.change.getD 0 := by
  unfold Input.filterElapsed watched
  dsimp only
  split
  · next stopped =>
    split at stopped
    · next same => simp [same]
    · cases stopped
  · next e running =>
    split at running
    · cases running
    · next differs =>
      cases running
      simp only [ne_eq, differs, not_false_eq_true, true_and, decide_eq_true_eq]
      exact Iff.rfl

end InputPut

/-- Settles O36: the wire, the samples and the settings of an input. -/
theorem inputsAreWatchedSampledAndSet : Obligations.InputsAreWatchedSampledAndSet := by
  unfold Obligations.InputsAreWatchedSampledAndSet
  refine ⟨fun i closed active s isActive => ⟨fun mains => ?_, fun other => ?_⟩, fun s battery => ?_, fun s other => ?_,
    fun i level filter active r s takes low high tens isActive isInput => ?_, fun i s takes => ?_,
    fun a s takes outside => ?_, fun n s takes outside => ?_⟩
  · have logical : active = ({ s.drc.inputs.get i with closed := closed } : Input).logical := reads_iff.mp isActive
    change execInputLevelChange i closed s = _
    unfold execInputLevelChange State.wireLevel
    dsimp only
    rw [if_pos mains, Input.watch_eq, ← logical]
    rfl
  · change execInputLevelChange i closed s = _
    unfold execInputLevelChange State.wireLevel
    dsimp only
    rw [if_neg other]
    rfl
  · refine ⟨_, exec_inputSample battery, ?_, fun i active isActive => ?_⟩
    · rw [State.settle_drc]
      rfl
    · rw [reads_iff.mp isActive, State.settle_drc, State.withDrc_drc]
      dsimp only
      rw [← State.sampledUpTo_all, s.sampledUpTo_after i (Nat.le_refl 33) i.isLt]
      rfl
  · exact if_neg other
  · have logical : active = r.logical := by
      subst isInput
      exact reads_iff.mp isActive
    have filterIs : r.filter = Config.tensOfMs (filter / 10) := by
      subst isInput
      rfl
    have runs : 0 < Config.tensOfMs (filter / 10) := Nat.mul_pos (by omega) (by decide)
    have put := State.putInput_eq (s := s) isInput logical
    have work := inputPut_work (s := s) (i := i) (level := level) low high tens
    refine ⟨activeLevelCode level, fun isOpen => by rw [isOpen]; rfl, fun isClosed => by rw [isClosed]; rfl,
      fun other => ?_, fun mains goesOn => ?_, fun mains differs ⟨e, running, elapsed⟩ => ?_⟩
    · refine carried_of_work takes rfl ?_
      rw [work, put, if_neg other]
    · refine carried_of_work takes rfl ?_
      rw [work, put, if_pos mains, if_neg fun done => ?_]
      obtain ⟨differs, elapsed⟩ := watched_elapsed.mp done
      rw [filterIs] at elapsed
      cases isChange : r.change with
      | none =>
        rw [isChange] at elapsed
        exact absurd elapsed (Nat.not_le.mpr runs)
      | some e =>
        rw [isChange] at elapsed
        exact Nat.not_lt.mpr elapsed (goesOn.resolve_left differs e isChange)
    · refine carried_of_work takes rfl ?_
      rw [work, put, if_pos mains, if_pos (watched_elapsed.mpr ⟨differs, ?_⟩), State.acceptInput_watched logical]
      rw [filterIs, running]
      exact elapsed
  · refine carried_of_work takes rfl ?_
    change withChecked s (toFin? 33 i.val) _ = _
    rw [toFin?_val]
    rfl
  · refine refused_of_work takes rfl ?_
    change withChecked s (checkInputPut a) _ = _
    rw [checkInputPut_eq_none outside]
    rfl
  · refine refused_of_work takes rfl ?_
    change withChecked s (toFin? 33 n) _ = _
    rw [toFin?_eq_none_iff.mpr outside]
    rfl

/-- Settles O37: `inputEvent` reaches the one door that names its input, and a sampling takes the inputs in turn. -/
theorem acceptedEdgesReachTheirDoor : Obligations.AcceptedEdgesReachTheirDoor := by
  unfold Obligations.AcceptedEdgesReachTheirDoor
  refine ⟨fun i active s ok mains running isActive => ?_, fun s ok battery => ?_, fun i s idle => ?_⟩
  · have named : InputsNamed (s.setInput i { s.drc.inputs.get i with accepted := active, change := none }) :=
      ok.named.of_configs fun _ r found => ⟨r, found, rfl⟩
    refine ⟨_, _, named.inputEvent_reaches i active, if_pos ⟨mains, running⟩, settled_of_settle ?_⟩
    unfold State.acceptInput
    rw [reads_iff.mp isActive]
  · refine ⟨s.sampledUpTo, _, rfl, fun i active isActive => ?_, exec_inputSample battery, ?_⟩
    · have taken := (ok.named.of_configs (SameConfigs.sampledUpTo s i.val)).sampleInput_taken i
      rw [s.sampledUpTo_before i (Nat.le_refl i.val), ← State.sampledUpTo_succ, ← reads_iff.mp isActive] at taken
      exact taken
    · rw [State.sampledUpTo_all]
      exact settled_of_settle rfl
  · refine if_neg fun ⟨mains, running⟩ => idle.elim (fun other => other mains) fun stopped => ?_
    rw [stopped] at running
    exact Bool.noConfusion running

/-! ### Timers and the alarm output -/

/-- Settles O38: the expiries of the timers, ALARM_CLEAR and `fireAlarm`. -/
theorem doorTimersAndTheAlarmOutput : Obligations.DoorTimersAndTheAlarmOutput := by
  unfold Obligations.DoorTimersAndTheAlarmOutput
  refine ⟨fun d r s notLow found => ⟨fun released running => ?_, fun opened running => ?_⟩,
    fun d s => ⟨fun idle => ?_, fun idle => ?_⟩, fun s notLow running => ?_, fun s idle => ?_, fun s takes => ?_,
    fun s => ⟨fun latched => ?_, fun pulsed isLatched => ?_, fun pulsed notLatched => ?_⟩⟩
  · refine ⟨(s.releaseRunsOut d r).settle, ?_, settled_of_settle rfl⟩
    change execReleaseTimerExpiry d s = _
    unfold execReleaseTimerExpiry
    rw [found]
    exact if_pos ⟨running, released, (State.isLow_eq_false_iff s).mpr notLow⟩
  · refine ⟨(s.doorAlarm d { r with state := .held, heldTimer := none } .held).settle, ?_,
      settled_of_settle (State.doorAlarm_eq s d _ _)⟩
    change execHeldTimerExpiry d s = _
    unfold execHeldTimerExpiry
    rw [found]
    exact if_pos ⟨running, opened, (State.isLow_eq_false_iff s).mpr notLow⟩
  · change execReleaseTimerExpiry d s = _
    unfold execReleaseTimerExpiry
    split
    · rfl
    · next r found =>
      refine if_neg fun ⟨running, released, notLow⟩ => ?_
      rcases idle with low | unconfigured | ⟨r', found', other⟩
      · exact (State.isLow_eq_false_iff s).mp notLow low
      · exact nomatch found.symm.trans unconfigured
      · cases found.symm.trans found'
        rcases other with elsewhere | stopped
        · exact elsewhere released
        · rw [stopped] at running
          exact Bool.noConfusion running
  · change execHeldTimerExpiry d s = _
    unfold execHeldTimerExpiry
    split
    · rfl
    · next r found =>
      refine if_neg fun ⟨running, opened, notLow⟩ => ?_
      rcases idle with low | unconfigured | ⟨r', found', other⟩
      · exact (State.isLow_eq_false_iff s).mp notLow low
      · exact nomatch found.symm.trans unconfigured
      · cases found.symm.trans found'
        rcases other with elsewhere | stopped
        · exact elsewhere opened
        · rw [stopped] at running
          exact Bool.noConfusion running
  · exact if_pos ⟨running, (State.isLow_eq_false_iff s).mpr notLow⟩
  · refine if_neg fun ⟨running, notLow⟩ => ?_
    rcases idle with low | stopped
    · exact (State.isLow_eq_false_iff s).mp notLow low
    · rw [stopped] at running
      exact Bool.noConfusion running
  · exact carried_of_work takes rfl rfl
  · unfold State.fireAlarm
    rw [latched]
    rfl
  · unfold State.fireAlarm
    rw [pulsed]
    exact if_pos isLatched
  · unfold State.fireAlarm
    rw [pulsed]
    exact if_neg notLatched

end Sys2Proof.Machine
end

section
/-!
PROOFS. The commands to doors and schedules (5.2, 5.3). Obligations O39 and O40.
-/

namespace Sys2Proof.Machine

open Sys2Proof

/-! ### The fields of DOOR_PUT -/

section DoorFields

variable {d : DoorId} {c : DoorConfig}

theorem doorFields_kind : ofCode doorKinds (doorFields d c).kind = some c.kind := by
  unfold doorFields
  cases c.kind <;> rfl

theorem doorFields_contact (inRange : doorConfigInRange c) : contactInput? (doorFields d c).contact = some c.contact :=
  (if_pos inRange.1).trans (toFin?_val c.contact)

theorem doorFields_button (inRange : doorConfigInRange c) : buttonInput? (doorFields d c).button = some c.button := by
  have range := inRange.2.1
  unfold doorFields
  cases isButton : c.button with
  | none => rfl
  | some b =>
    obtain ⟨low, high⟩ := range b isButton
    unfold buttonInput?
    dsimp only
    rw [if_neg (by rintro all; rw [all] at high; exact absurd high (by decide)), if_pos ⟨low, high⟩, toFin?_val]
    rfl

theorem doorFields_schedule : optionalIndex 8 (doorFields d c).schedule = some c.schedule := by
  unfold doorFields
  cases c.schedule with
  | none => rfl
  | some k => exact optionalIndex_some (by decide) k

theorem doorFields_defaultMode : ofCode defaultModes (doorFields d c).defaultMode = some c.defaultMode := by
  unfold doorFields
  cases c.defaultMode <;> rfl

theorem doorFields_failMode : ofCode failModes (doorFields d c).failMode = some c.failMode := by
  unfold doorFields
  cases c.failMode <;> rfl

theorem doorFields_alarmBell (inRange : doorConfigInRange c) :
    alarmBell? (doorFields d c).bellPresent (doorFields d c).bellOutputs (doorFields d c).bellPattern
      = some c.alarmBell := by
  obtain ⟨-, -, -, -, -, outputs⟩ := inRange
  unfold doorFields
  cases isBell : c.alarmBell with
  | none => rfl
  | some b =>
    have some_ : 1 ≤ b.outputs.toNat := Nat.one_le_iff_ne_zero.mpr fun zero =>
      outputs b isBell (BitVec.eq_of_toNat_eq zero)
    have below : b.outputs.toNat < 256 := b.outputs.isLt
    change (toFin? 16 b.pattern.val).bind _ = _
    rw [toFin?_val, Option.bind_some]
    refine (if_pos ⟨some_, below⟩).trans ?_
    rw [BitVec.ofNat_toNat, BitVec.setWidth_eq]

theorem checkDoorPut_fields (inRange : doorConfigInRange c) : checkDoorPut (doorFields d c) = some (d, some c) := by
  have times : 1 ≤ (doorFields d c).releaseTime ∧ (doorFields d c).releaseTime ≤ 30
      ∧ (doorFields d c).heldLimit ≤ 600 := ⟨inRange.2.2.1, inRange.2.2.2.1, inRange.2.2.2.2.1⟩
  have isDoor : toFin? 16 (doorFields d c).door = some d := toFin?_val d
  have configured : yesNo (doorFields d c).configured = some true := rfl
  unfold checkDoorPut
  simp only [isDoor, configured, doorFields_kind, doorFields_contact inRange, doorFields_button inRange,
    doorFields_schedule, doorFields_defaultMode, doorFields_failMode, doorFields_alarmBell inRange, if_pos times,
    Option.bind_eq_bind, Option.bind_some, if_true]
  rfl

theorem checkDoorPut_absent {a : DoorPutArgs} (isDoor : a.door = d) (unconfigured : a.configured = 0) :
    checkDoorPut a = some (d, none) := by
  unfold checkDoorPut
  rw [isDoor, unconfigured, toFin?_val]
  rfl

theorem alarmBell?_range {present outputs pattern : Nat} {bell : Option AlarmBell}
    (h : alarmBell? present outputs pattern = some bell) :
    present ≤ 1 ∧ (present = 1 → 1 ≤ outputs ∧ outputs ≤ 255 ∧ pattern ≤ 15) := by
  simp only [alarmBell?, Option.bind_eq_bind, Option.bind_eq_some_iff] at h
  obtain ⟨flag, isFlag, h⟩ := h
  refine ⟨yesNo_le isFlag, ?_⟩
  rintro rfl
  cases isFlag
  rw [if_pos rfl, Option.bind_eq_some_iff] at h
  obtain ⟨p, isPattern, h⟩ := h
  have patternRange := toFin?_lt isPattern
  split at h
  · omega
  · cases h

theorem contactInput?_range {k : Nat} {i : InputId} (h : contactInput? k = some i) : k ≤ 15 := by
  unfold contactInput? at h
  split at h
  · omega
  · cases h

theorem buttonInput?_range {k : Nat} {b : Option InputId} (h : buttonInput? k = some b) :
    k = 255 ∨ (16 ≤ k ∧ k ≤ 31) := by
  unfold buttonInput? at h
  split at h
  · next all => exact .inl all
  · split at h
    · omega
    · cases h

theorem checkDoorPut_eq_none {a : DoorPutArgs} (outside : 15 < a.door ∨ 1 < a.configured ∨ (a.configured = 1
    ∧ (1 < a.kind ∨ 15 < a.contact ∨ (a.button ≠ 255 ∧ (a.button < 16 ∨ 31 < a.button)) ∨ a.releaseTime = 0
      ∨ 30 < a.releaseTime ∨ 600 < a.heldLimit ∨ (7 < a.schedule ∧ a.schedule ≠ 255) ∨ 2 < a.defaultMode
      ∨ 1 < a.failMode ∨ 1 < a.bellPresent
      ∨ (a.bellPresent = 1 ∧ (a.bellOutputs = 0 ∨ 255 < a.bellOutputs ∨ 15 < a.bellPattern))))) :
    checkDoorPut a = none := by
  rw [Option.eq_none_iff_forall_ne_some]
  intro v checked
  simp only [checkDoorPut, Option.bind_eq_bind, Option.bind_eq_some_iff] at checked
  obtain ⟨d, isDoor, configured, isConfigured, checked⟩ := checked
  have doorRange := toFin?_lt isDoor
  have configuredRange := yesNo_le isConfigured
  have fields := (outside.resolve_left (by omega)).resolve_left (by omega)
  obtain ⟨isOne, fields⟩ := fields
  rw [isOne] at isConfigured
  cases isConfigured
  simp only [if_true, Option.bind_eq_some_iff] at checked
  obtain ⟨kind, isKind, contact, isContact, button, isButton, schedule, isSchedule, mode, isMode, fail, isFail, bell,
    isBell, checked⟩ := checked
  have kindRange : a.kind < 2 := ofCode_length isKind
  have modeRange : a.defaultMode < 3 := ofCode_length isMode
  have failRange : a.failMode < 2 := ofCode_length isFail
  have contactRange := contactInput?_range isContact
  have buttonRange := buttonInput?_range isButton
  have scheduleRange := optionalIndex_range isSchedule
  obtain ⟨presentRange, bellRange⟩ := alarmBell?_range isBell
  split at checked
  · omega
  · cases checked

end DoorFields

/-! ### A door worked out afresh -/

section Afresh

variable {s : State} {d : DoorId} {c : DoorConfig}

theorem State.freshDoor_eq (s : State) (r : Door) : s.freshDoor r = doorAfresh s r.config r.override := by
  unfold State.freshDoor Door.workOut doorAfresh
  split
  · rfl
  · unfold Door.closedState
    dsimp only
    split
    · rfl
    · rfl

theorem State.inputTaken_iff : s.inputTaken d c = true ↔ inputNamed s d c := by
  have shares : ∀ x : DoorConfig, c.sharesInput x = true ↔
      x.contact = c.contact ∨ (c.button ≠ none ∧ x.button = c.button) := fun x => by
    unfold DoorConfig.sharesInput
    rw [Bool.or_eq_true, Bool.and_eq_true, beq_iff_eq, beq_iff_eq, Option.isSome_iff_ne_none, eq_comm (a := c.contact),
      eq_comm (a := c.button)]
  rw [← not_iff_not, Bool.not_eq_true, State.inputTaken_eq_false_iff]
  unfold inputNamed
  constructor
  · rintro apart ⟨j, r, other, found, named⟩
    exact Bool.noConfusion ((apart j r other found).symm.trans ((shares r.config).mpr named))
  · intro unnamed j r other found
    rw [← Bool.not_eq_true, shares]
    exact fun named => unnamed ⟨j, r, other, found, named⟩

theorem State.putDoor_eq {o : Override} (kept : ∀ r, s.drc.doors.get d = some r → o = r.override)
    (new : s.drc.doors.get d = none → o = .normal) : s.putDoor d c = doorSet s d (doorAfresh s c o) := by
  have isKept : keptOverride (s.drc.doors.get d) = o := by
    cases isDoor : s.drc.doors.get d with
    | none => exact (new isDoor).symm
    | some r => exact (kept r isDoor).symm
  unfold State.putDoor
  rw [isKept, State.freshDoor_eq]
  rfl

theorem doorPut_work {a : DoorPutArgs} (checked : checkDoorPut a = some (d, some c)) :
    commandWork s (.doorPut (.fields a)) = if s.inputTaken d c then denied s .badArg
      else if (s.passageAt d).isSome then denied s .busy else done (s.putDoor d c) .none := by
  change withChecked s (checkDoorPut a) _ = _
  rw [checked]
  rfl

theorem doorPut_absent_work {a : DoorPutArgs} (checked : checkDoorPut a = some (d, none)) :
    commandWork s (.doorPut (.fields a)) = if (s.passageAt d).isSome then denied s .busy
      else done (s.setDoor d none) .none := by
  change withChecked s (checkDoorPut a) _ = _
  rw [checked]
  rfl

end Afresh

/-- Settles O39: the work of DOOR_PUT and of DOOR_GET. -/
theorem doorPutWorksTheDoorOutAfresh : Obligations.DoorPutWorksTheDoorOutAfresh := by
  unfold Obligations.DoorPutWorksTheDoorOutAfresh
  have waits : ∀ {s : State} {d : DoorId}, (∀ p ∈ s.pev.passages, p.door ≠ d) → ¬ (s.passageAt d).isSome = true :=
    fun free some => by
      obtain ⟨p, mem, door⟩ := State.passageAt_isSome.mp some
      exact free p mem door
  refine ⟨fun d c o s takes inRange ⟨kept, new⟩ => ?_, fun d a s takes isDoor unconfigured => ?_,
    fun a s takes outside => ?_, fun d s takes => ⟨s.contactLevel d, s.releaseOutput d, fun r found => ?_,
    fun unconfigured => ?_, ?_⟩, fun n s takes outside => ?_⟩
  · have work := doorPut_work (s := s) (checkDoorPut_fields (d := d) inRange)
    refine ⟨fun unnamed free => ?_, fun unnamed pending => ?_, fun named => ?_⟩
    · refine carried_of_work takes rfl ?_
      rw [work, if_neg fun taken => unnamed (State.inputTaken_iff.mp taken), if_neg (waits free),
        State.putDoor_eq kept new]
    · refine refused_of_work takes rfl ?_
      rw [work, if_neg fun taken => unnamed (State.inputTaken_iff.mp taken), if_pos (State.passageAt_isSome.mpr pending)]
    · refine refused_of_work takes rfl ?_
      rw [work, if_pos (State.inputTaken_iff.mpr named)]
  · have work := doorPut_absent_work (s := s) (checkDoorPut_absent isDoor unconfigured)
    refine ⟨fun free => ?_, fun pending => ?_⟩
    · refine carried_of_work takes rfl ?_
      rw [work, if_neg (waits free)]
      rfl
    · refine refused_of_work takes rfl ?_
      rw [work, if_pos (State.passageAt_isSome.mpr pending)]
  · refine refused_of_work takes rfl ?_
    change withChecked s (checkDoorPut a) _ = _
    rw [checkDoorPut_eq_none outside]
    rfl
  · have awake := (State.isLow_eq_false_iff s).mpr takes.1
    unfold State.contactLevel State.releaseOutput
    rw [found]
    refine ⟨rfl, ?_⟩
    dsimp only
    rw [awake, Bool.not_false, Bool.and_true, Bool.or_eq_true, beq_iff_eq, beq_iff_eq]
  · unfold State.contactLevel State.releaseOutput
    rw [unconfigured]
    exact ⟨rfl, rfl⟩
  · refine carried_of_work takes rfl ?_
    change withChecked s (toFin? 16 d.val) _ = _
    rw [toFin?_val]
    rfl
  · refine refused_of_work takes rfl ?_
    change withChecked s (toFin? 16 n) _ = _
    rw [toFin?_eq_none_iff.mpr outside]
    rfl

/-! ### Schedules -/

section Schedules

variable {s : State}

theorem checkWindow_fields {w : Window} (start : w.start ≤ 1439) (stop : w.stop ≤ 1439) :
    checkWindow (windowFields w) = some w := by
  have mode : ofCode windowModes (windowFields w).mode = some w.mode := by
    unfold windowFields
    cases w.mode <;> rfl
  have weekdays : (windowFields w).weekdays < 128 := w.weekdays.isLt
  have days : BitVec.ofNat 7 (windowFields w).weekdays = w.weekdays := by
    unfold windowFields
    rw [BitVec.ofNat_toNat, BitVec.setWidth_eq]
  unfold checkWindow
  rw [mode]
  refine (if_pos ⟨weekdays, start, stop⟩).trans ?_
  rw [days]
  rfl

theorem checkWindow_eq_none {a : WindowArgs} (outside : 127 < a.weekdays ∨ 1439 < a.start ∨ 1439 < a.stop ∨ 2 < a.mode) :
    checkWindow a = none := by
  rw [Option.eq_none_iff_forall_ne_some]
  intro w checked
  simp only [checkWindow, Option.bind_eq_bind, Option.bind_eq_some_iff] at checked
  obtain ⟨mode, isMode, checked⟩ := checked
  have modeRange : a.mode < 3 := ofCode_length isMode
  split at checked
  · omega
  · cases checked

theorem mapM_map_some {α β : Type} {f : α → Option β} {g : β → α} {l : List β} (inverse : ∀ b ∈ l, f (g b) = some b) :
    (l.map g).mapM f = some l := by
  induction l with
  | nil => rfl
  | cons b rest ih =>
    rw [List.map_cons, List.mapM_cons, inverse b List.mem_cons_self, ih fun x mem => inverse x (List.mem_cons_of_mem b mem)]
    rfl

theorem mapM_eq_none {α β : Type} {f : α → Option β} {l : List α} {a : α} (mem : a ∈ l) (fails : f a = none) :
    l.mapM f = none := by
  rw [Option.eq_none_iff_forall_ne_some]
  induction l with
  | nil => cases mem
  | cons first rest ih =>
    intro bs mapped
    rw [List.mapM_cons] at mapped
    simp only [Option.bind_eq_bind, Option.bind_eq_some_iff] at mapped
    obtain ⟨b, isFirst, tail, isTail, -⟩ := mapped
    rcases List.mem_cons.mp mem with rfl | later
    · exact nomatch fails.symm.trans isFirst
    · exact ih later tail isTail

theorem checkSchedulePut_fields {k : ScheduleId} {windows : List Window} (few : windows.length ≤ 8)
    (inRange : ∀ w ∈ windows, w.start ≤ 1439 ∧ w.stop ≤ 1439) :
    checkSchedulePut ⟨k, windows.map windowFields⟩ = some (k, windows) := by
  have checked : (windows.map windowFields).mapM checkWindow = some windows :=
    mapM_map_some fun w mem => checkWindow_fields (inRange w mem).1 (inRange w mem).2
  unfold checkSchedulePut
  dsimp only
  rw [toFin?_val, checked]
  exact if_pos few

theorem checkSchedulePut_eq_none {a : SchedulePutArgs} (outside : 7 < a.schedule ∨ 8 < a.windows.length
    ∨ (∃ w ∈ a.windows, 127 < w.weekdays ∨ 1439 < w.start ∨ 1439 < w.stop ∨ 2 < w.mode)) :
    checkSchedulePut a = none := by
  rw [Option.eq_none_iff_forall_ne_some]
  intro v checked
  simp only [checkSchedulePut, Option.bind_eq_bind, Option.bind_eq_some_iff] at checked
  obtain ⟨k, isSchedule, windows, mapped, checked⟩ := checked
  have scheduleRange := toFin?_lt isSchedule
  have length := length_of_mapM mapped
  split at checked
  · rcases outside with high | long | ⟨w, mem, unfit⟩
    · omega
    · omega
    · exact nomatch (mapM_eq_none mem (checkWindow_eq_none unfit)).symm.trans mapped
  · cases checked

theorem State.namesSchedule_iff {k : ScheduleId} {d : DoorId} : s.namesSchedule k d = true ↔
    ∃ r, s.drc.doors.get d = some r ∧ r.config.schedule = some k := by
  unfold State.namesSchedule
  cases s.drc.doors.get d with
  | none => simp
  | some r => simp

theorem schedulePut_work {a : SchedulePutArgs} {k : ScheduleId} {windows : List Window}
    (checked : checkSchedulePut a = some (k, windows)) :
    commandWork s (.schedulePut (.fields a)) = done (s.putSchedule k windows) .none := by
  change withChecked s (checkSchedulePut a) _ = _
  rw [checked]
  rfl

end Schedules

/-! ### DOOR_COMMAND -/

section DoorCommand

variable {s : State} {d : DoorId} {r : Door}

/-- An act on doors that leaves configured what was configured. -/
def KeepsConfigured (act : State → DoorId → State) : Prop :=
  ∀ s d e, ((act s d).drc.doors.get e).isSome = (s.drc.doors.get e).isSome

theorem State.setDoor_isSome (found : s.drc.doors.get d = some r) (x : Door) (e : DoorId) :
    ((s.setDoor d (some x)).drc.doors.get e).isSome = (s.drc.doors.get e).isSome := by
  rw [State.setDoor_doors]
  split
  · next same => rw [← same, found]; rfl
  · rfl

theorem KeepsConfigured.resolveDoor : KeepsConfigured State.resolveDoor := by
  intro s d e
  unfold State.resolveDoor
  split
  · rfl
  · next r found =>
    dsimp only
    split
    · rfl
    · obtain ⟨x, drc, -⟩ := s.changeMode_doors d r (s.resolveMode r.config r.override)
      rw [drc, State.setDoor_isSome found]

theorem KeepsConfigured.setOverride (o : Override) : KeepsConfigured (State.setOverride o) := by
  intro s d e
  unfold State.setOverride
  split
  · rfl
  · next r found => rw [KeepsConfigured.resolveDoor, State.setDoor_isSome found]

theorem KeepsConfigured.pressButton : KeepsConfigured State.pressButton := by
  intro s d e
  cases found : s.drc.doors.get d with
  | none =>
    unfold State.pressButton
    rw [found]
  | some r =>
    rw [State.pressButton_eq found]
    unfold pressed
    split
    · exact State.setDoor_isSome found _ e
    · rfl

theorem KeepsConfigured.foldl {act : State → DoorId → State} (keeps : KeepsConfigured act) (l : List DoorId) (s : State)
    (e : DoorId) : ((l.foldl act s).drc.doors.get e).isSome = (s.drc.doors.get e).isSome := by
  induction l generalizing s with
  | nil => rfl
  | cons d rest ih => rw [List.foldl_cons, ih, keeps]

theorem State.doorList_fst {doors : List DoorId} (all : ∀ d ∈ doors, (s.drc.doors.get d).isSome = true) :
    (s.doorList doors).map (fun x => x.1) = doors := by
  induction doors with
  | nil => rfl
  | cons d rest ih =>
    obtain ⟨r, found⟩ := Option.isSome_iff_exists.mp (all d List.mem_cons_self)
    have tail := ih fun e mem => all e (List.mem_cons_of_mem d mem)
    unfold State.doorList at tail ⊢
    rw [List.filterMap_cons_some (by rw [found]; rfl), List.map_cons, tail]

theorem State.mem_doorList {doors : List DoorId} {mode : DoorMode} {state : DoorState}
    (mem : (d, mode, state) ∈ s.doorList doors) : ∃ r, s.drc.doors.get d = some r ∧ r.mode = mode ∧ r.state = state := by
  unfold State.doorList at mem
  obtain ⟨e, -, isDoor⟩ := List.mem_filterMap.mp mem
  obtain ⟨r, found, same⟩ := Option.map_eq_some_iff.mp isDoor
  cases same
  exact ⟨r, found, rfl, rfl⟩

/-- R87: the configured doors, in ascending number. -/
def State.configuredDoors (s : State) : List DoorId := (List.finRange 16).filter fun d => (s.drc.doors.get d).isSome

theorem State.configuredDoors_pairwise (s : State) : s.configuredDoors.Pairwise (· < ·) :=
  (List.pairwise_lt_finRange 16).filter _

theorem State.mem_configuredDoors : d ∈ s.configuredDoors ↔ (s.drc.doors.get d).isSome = true := by
  unfold State.configuredDoors
  simp

theorem State.doorCommand_all (act : State → DoorId → State) : s.doorCommand 0xFE act
    = done (s.configuredDoors.foldl act s) (.doorCommand ((s.configuredDoors.foldl act s).doorList s.configuredDoors)) :=
  rfl

theorem checkDoorTarget_one (d : DoorId) : checkDoorTarget d.val = some (.one d) := by
  unfold checkDoorTarget
  rw [if_neg (by have := d.isLt; exact fun all => by rw [all] at this; exact absurd this (by decide)), toFin?_val]
  rfl

theorem State.doorCommand_none (unconfigured : s.drc.doors.get d = none) (act : State → DoorId → State) :
    s.doorCommand d.val act = denied s .notFound := by
  unfold State.doorCommand State.targets
  rw [checkDoorTarget_one]
  change (match (if (s.drc.doors.get d).isSome then some [d] else none) with | none => _ | some doors => _) = _
  rw [unconfigured]
  rfl

theorem State.doorCommand_outside {n : Nat} (outside : 15 < n) (notAll : n ≠ 0xFE) (act : State → DoorId → State) :
    s.doorCommand n act = denied s .badArg := by
  have unfit : checkDoorTarget n = none := by
    unfold checkDoorTarget
    rw [if_neg (by exact notAll), toFin?_eq_none_iff.mpr outside]
    rfl
  unfold State.doorCommand
  rw [unfit]
  rfl

/-- R87: a command to one configured door. -/
theorem State.doorCommand_one {act : State → DoorId → State} (keeps : KeepsConfigured act)
    (found : s.drc.doors.get d = some r) : ∃ r', (act s d).drc.doors.get d = some r'
      ∧ s.doorCommand d.val act = done (act s d) (.doorCommand [(d, r'.mode, r'.state)]) := by
  obtain ⟨r', after⟩ := Option.isSome_iff_exists.mp ((keeps s d d).trans (by rw [found]; rfl))
  have targets : s.targets (.one d) = some [d] := by
    unfold State.targets
    dsimp only
    rw [found]
    rfl
  refine ⟨r', after, ?_⟩
  unfold State.doorCommand
  rw [checkDoorTarget_one]
  change (match s.targets (.one d) with | none => _ | some doors => _) = _
  rw [targets]
  change done (act s d) (.doorCommand ((act s d).doorList [d])) = _
  unfold State.doorList
  rw [List.filterMap_cons_some (by rw [after]; rfl), List.filterMap_nil]

theorem State.setOverride_eq (o : Override) (found : s.drc.doors.get d = some r) :
    s.setOverride o d = (doorSet s d { r with override := o }).resolveDoor d := by
  unfold State.setOverride
  rw [found]
  rfl

/-- R87: the three commands that set an override. -/
theorem override_work {o : Override} {c : Payload Nat → Instr} (h : (o = .lockdown ∧ c = .doorCommandLockdown)
    ∨ (o = .holdFree ∧ c = .doorCommandHoldFree) ∨ (o = .normal ∧ c = .doorCommandNormal)) (s : State) (n : Nat) :
    commandKind (c (.fields n)) = some 0x11 ∧
      commandWork s (c (.fields n)) = s.doorCommand n (State.setOverride o) := by
  rcases h with ⟨rfl, rfl⟩ | ⟨rfl, rfl⟩ | ⟨rfl, rfl⟩ <;> exact ⟨rfl, rfl⟩

theorem doorCommand_work {c : Payload Nat → Instr} (h : c = .doorCommandLockdown ∨ c = .doorCommandHoldFree
    ∨ c = .doorCommandNormal ∨ c = .releaseOnce) (s : State) (n : Nat) : commandKind (c (.fields n)) = some 0x11 ∧
      ∃ act, commandWork s (c (.fields n)) = s.doorCommand n act := by
  rcases h with rfl | rfl | rfl | rfl
  · exact ⟨rfl, _, rfl⟩
  · exact ⟨rfl, _, rfl⟩
  · exact ⟨rfl, _, rfl⟩
  · exact ⟨rfl, _, rfl⟩

end DoorCommand

/-- Settles O40: `putSchedule` and `doorCommand`. -/
theorem schedulesAndDoorCommands : Obligations.SchedulesAndDoorCommands := by
  unfold Obligations.SchedulesAndDoorCommands
  refine ⟨fun k windows s takes few inRange => ⟨(List.finRange 16).filter (s.namesSchedule k),
      (List.pairwise_lt_finRange 16).filter _, fun d => ?_, ?_⟩, fun a s takes outside => ?_, fun k s takes => ?_,
    fun n s takes outside => ?_, fun o c isCommand s takes => ⟨fun d r found => ?_, s.configuredDoors,
      s.configuredDoors.foldl (State.setOverride o) s, _, s.configuredDoors_pairwise,
      fun d => State.mem_configuredDoors, ?_, State.doorList_fst fun d mem => ?_,
      fun d mode state mem => State.mem_doorList mem, ?_⟩, fun s takes => ⟨fun d r found => ?_, s.configuredDoors,
      s.configuredDoors.foldl State.pressButton s, _, s.configuredDoors_pairwise, fun d => State.mem_configuredDoors, ?_,
      State.doorList_fst fun d mem => ?_, fun d mode state mem => State.mem_doorList mem, ?_⟩,
    fun c isCommand s takes => ⟨fun d unconfigured => ?_, fun n outside notAll => ?_⟩⟩
  · rw [List.mem_filter, State.namesSchedule_iff]
    exact and_iff_right (List.mem_finRange d)
  · exact carried_of_work takes rfl (schedulePut_work (checkSchedulePut_fields few inRange))
  · refine refused_of_work takes rfl ?_
    change withChecked s (checkSchedulePut a) _ = _
    rw [checkSchedulePut_eq_none outside]
    rfl
  · refine carried_of_work takes rfl ?_
    change withChecked s (toFin? 8 k.val) _ = _
    rw [toFin?_val]
    rfl
  · refine refused_of_work takes rfl ?_
    change withChecked s (toFin? 8 n) _ = _
    rw [toFin?_eq_none_iff.mpr outside]
    rfl
  · obtain ⟨isKind, work⟩ := override_work isCommand s d.val
    obtain ⟨r', after, commanded⟩ := State.doorCommand_one (KeepsConfigured.setOverride o) found
    rw [State.setOverride_eq o found] at after commanded
    exact ⟨r'.mode, r'.state, _, rfl, ⟨r', after, rfl, rfl⟩, carried_of_work takes isKind (work.trans commanded)⟩
  · refine List.foldl_ext _ _ _ fun u d _ => ?_
    unfold State.setOverride
    cases u.drc.doors.get d <;> rfl
  · rw [(KeepsConfigured.setOverride o).foldl]
    exact State.mem_configuredDoors.mp mem
  · obtain ⟨isKind, work⟩ := override_work isCommand s 0xFE
    exact carried_of_work takes isKind (work.trans (State.doorCommand_all _))
  · obtain ⟨r', after, commanded⟩ := State.doorCommand_one KeepsConfigured.pressButton found
    rw [State.pressButton_eq found] at after commanded
    exact ⟨r'.mode, r'.state, ⟨r', after, rfl, rfl⟩, carried_of_work takes rfl commanded⟩
  · refine List.foldl_ext _ _ _ fun u d _ => ?_
    cases found : u.drc.doors.get d with
    | none =>
      unfold State.pressButton
      rw [found]
    | some r => exact State.pressButton_eq found
  · rw [KeepsConfigured.pressButton.foldl]
    exact State.mem_configuredDoors.mp mem
  · exact carried_of_work takes rfl (State.doorCommand_all _)
  · obtain ⟨isKind, act, work⟩ := doorCommand_work isCommand s d.val
    exact refused_of_work takes isKind (work.trans (State.doorCommand_none unconfigured act))
  · obtain ⟨isKind, act, work⟩ := doorCommand_work isCommand s n
    exact refused_of_work takes isKind (work.trans (State.doorCommand_outside outside notAll act))

end Sys2Proof.Machine
end

section
/-!
PROOFS. The tables of the shift plan, the records that commits build, and the minutes of a close (chapters 6 and 7).
Obligations O41, O44 and O45.
-/

namespace Sys2Proof.Machine

open Sys2Proof

/-! ### SHIFT_PUT, ROTA_PUT and PAYCLASS_PUT -/

section PlanFields

theorem map_of_mapM {α β : Type} {f : α → Option β} {g : β → α} (inverse : ∀ a b, f a = some b → a = g b)
    {l : List α} {l' : List β} (h : l.mapM f = some l') : l = l'.map g := by
  induction l generalizing l' with
  | nil => cases h; rfl
  | cons a rest ih =>
    simp only [List.mapM_cons, Option.bind_eq_bind, Option.bind_eq_some_iff] at h
    obtain ⟨b, first, l'', others, same⟩ := h
    cases same
    rw [List.map_cons, ← inverse a b first, ← ih others]

/-- R103, R185: the fields of a break. -/
def breakFields (b : Break) : BreakArgs := ⟨b.offset, b.length, if b.paid then 1 else 0⟩

theorem yesNo_inverse {k : Nat} {b : Bool} (h : yesNo k = some b) : k = if b then 1 else 0 := by
  unfold yesNo at h
  split at h
  · cases h; rfl
  · cases h; rfl
  · cases h

theorem checkBreak_inverse {a : BreakArgs} {b : Break} (h : checkBreak a = some b) : a = breakFields b := by
  simp only [checkBreak, Option.bind_eq_bind, Option.bind_eq_some_iff] at h
  obtain ⟨paid, isPaid, h⟩ := h
  split at h
  · cases h
    unfold breakFields
    dsimp only
    rw [← yesNo_inverse isPaid]
  · cases h

theorem checkBreak_fields {b : Break} (range : b.offset ≤ 959 ∧ 1 ≤ b.length ∧ b.length ≤ 120) :
    checkBreak (breakFields b) = some b := by
  unfold checkBreak breakFields
  dsimp only
  rw [yesNo_flag]
  exact if_pos range

theorem shiftFields_breaks (id : ShiftId) (d : ShiftDef) : (shiftFields id d).breaks = d.breaks.map breakFields := rfl

theorem checkShiftPut_fields {id : ShiftId} {d : ShiftDef} (inRange : d.InRange) :
    checkShiftPut (shiftFields id d) = some (id, some d) := by
  have breaks : (shiftFields id d).breaks.mapM checkBreak = some d.breaks := mapM_map_some fun b mem =>
    checkBreak_fields ⟨(inRange.breaks b mem).1, (inRange.breaks b mem).2.1, (inRange.breaks b mem).2.2.1⟩
  have isShift : toFin? 64 (shiftFields id d).shift = some id := toFin?_val id
  have defined : yesNo (shiftFields id d).defined = some true := rfl
  obtain ⟨start, short, long, standard⟩ := inRange.times
  obtain ⟨lead, latest⟩ := inRange.window
  obtain ⟨late, leave, overstay⟩ := inRange.graces
  have inside : d.breaks.all (fun b => decide (b.offset + b.length ≤ d.length)) = true :=
    List.all_eq_true.mpr fun b mem => decide_eq_true (inRange.breaks b mem).2.2.2
  unfold checkShiftPut
  rw [isShift, defined, breaks]
  exact if_pos ⟨start, short, long, standard, lead, late, latest, leave, overstay, inRange.unit, inRange.delay,
    inRange.fewBreaks, inside, by rw [breaksInOrder_eq_everyTwo]; exact inRange.order⟩

theorem checkShiftPut_absent {id : ShiftId} {a : ShiftPutArgs} (isShift : a.shift = id) (undefined : a.defined = 0) :
    checkShiftPut a = some (id, none) := by
  unfold checkShiftPut
  rw [isShift, undefined, toFin?_val]
  rfl

theorem checkShiftPut_inverse {a : ShiftPutArgs} {id : ShiftId} {d : ShiftDef}
    (h : checkShiftPut a = some (id, some d)) : a = shiftFields id d := by
  unfold checkShiftPut at h
  simp only [Option.bind_eq_bind, Option.bind_eq_some_iff] at h
  obtain ⟨id', isShift, defined, isDefined, h⟩ := h
  split at h
  · next one =>
    simp only [Option.bind_eq_some_iff] at h
    obtain ⟨breaks, isBreaks, h⟩ := h
    split at h
    · cases h
      have shift := toFin?_eq_some isShift
      have flag := yesNo_inverse isDefined
      have mapped := map_of_mapM (fun _ _ => checkBreak_inverse) isBreaks
      rw [one] at flag
      obtain ⟨shift', defined', start, length, standard, lead, late, latest, leave, overstay, unit, delay, breaks'⟩ := a
      dsimp only at shift flag mapped
      rw [shift, flag, mapped]
      rfl
    · cases h
  · cases h

theorem checkShiftPut_undefined {a : ShiftPutArgs} {id : ShiftId} (h : checkShiftPut a = some (id, none)) :
    a.shift ≤ 63 ∧ a.defined = 0 := by
  unfold checkShiftPut at h
  simp only [Option.bind_eq_bind, Option.bind_eq_some_iff] at h
  obtain ⟨id', isShift, defined, isDefined, h⟩ := h
  split at h
  · simp only [Option.bind_eq_some_iff] at h
    obtain ⟨breaks, -, h⟩ := h
    split at h
    · cases h
    · cases h
  · next zero =>
    have flag := yesNo_inverse isDefined
    rw [if_neg zero] at flag
    exact ⟨Nat.le_of_lt_succ (toFin?_lt isShift), flag⟩

/-- R105, R185: the code of a day of a rota. -/
def rotaDayCode : Option ShiftId → Nat
  | none => 255
  | some id => id

theorem rotaDay?_code (day : Option ShiftId) : rotaDay? (rotaDayCode day) = some day := by
  cases day with
  | none => rfl
  | some id => exact optionalIndex_some (by decide) id

theorem rotaDay?_inverse {k : Nat} {day : Option ShiftId} (h : rotaDay? k = some day) : k = rotaDayCode day := by
  unfold rotaDay? optionalIndex at h
  split at h
  · next rest => cases h; exact rest
  · obtain ⟨id, found, same⟩ := Option.map_eq_some_iff.mp h
    cases same
    exact toFin?_eq_some found

theorem rotaFields_entries (c : CrewId) (r : Rota) : (rotaFields c r).entries = r.days.map rotaDayCode := by
  unfold rotaFields
  refine List.map_congr_left fun day _ => ?_
  cases day <;> rfl

theorem checkRotaPut_fields {c : CrewId} {r : Rota} (inRange : r.InRange) :
    checkRotaPut (rotaFields c r) = some (c, r) := by
  have days : (rotaFields c r).entries.mapM rotaDay? = some r.days := by
    rw [rotaFields_entries]
    exact mapM_map_some fun day _ => rotaDay?_code day
  have isCrew : toFin? 32 (rotaFields c r).crew = some c := toFin?_val c
  unfold checkRotaPut
  rw [isCrew, days]
  obtain ⟨few, many, anchor⟩ := inRange
  exact if_pos ⟨few, many, anchor, by rw [rotaFields_entries, List.length_map]; rfl⟩

theorem checkRotaPut_inverse {a : RotaPutArgs} {c : CrewId} {r : Rota} (h : checkRotaPut a = some (c, r)) :
    a = rotaFields c r := by
  simp only [checkRotaPut, Option.bind_eq_bind, Option.bind_eq_some_iff] at h
  obtain ⟨c', isCrew, days, isDays, h⟩ := h
  split at h
  · next range =>
    cases h
    have crew := toFin?_eq_some isCrew
    have mapped := map_of_mapM (fun _ _ => rotaDay?_inverse) isDays
    have length := (length_of_mapM isDays).trans range.2.2.2
    have entries := rotaFields_entries c ⟨a.anchor, days⟩
    obtain ⟨crew', cycle, anchor, entries'⟩ := a
    dsimp only at crew mapped length entries
    rw [crew, mapped, ← length, ← entries]
    rfl
  · cases h

theorem checkPayClassPut_fields {c : ClassId} {p : PayClass} (inRange : p.InRange) :
    checkPayClassPut (payClassFields c p) = some (c, p) := by
  have isClass : toFin? 16 (payClassFields c p).payClass = some c := toFin?_val c
  unfold checkPayClassPut
  rw [isClass]
  exact if_pos inRange

theorem checkPayClassPut_inverse {a : PayClassPutArgs} {c : ClassId} {p : PayClass}
    (h : checkPayClassPut a = some (c, p)) : a = payClassFields c p := by
  simp only [checkPayClassPut, Option.bind_eq_bind, Option.bind_eq_some_iff] at h
  obtain ⟨c', isClass, h⟩ := h
  split at h
  · cases h
    have payClass := toFin?_eq_some isClass
    obtain ⟨payClass', base, overtime, holiday, night⟩ := a
    dsimp only at payClass
    rw [payClass]
    rfl
  · cases h

end PlanFields

/-- Settles O41: each put through its check, which its fields pass exactly when they are in range. -/
theorem planTablesAreReplacedAndRead : Obligations.PlanTablesAreReplacedAndRead := by
  unfold Obligations.PlanTablesAreReplacedAndRead
  refine ⟨fun id d s takes inRange => ?_, fun id a s takes isShift undefined => ?_, fun a s takes outside unfit => ?_,
    fun c r s takes inRange => ?_, fun a s takes unfit => ?_, fun c p s takes inRange => ?_, fun a s takes unfit => ?_,
    fun s takes => ⟨fun id => ?_, fun c => ?_, fun c => ?_, fun n outside => ?_, fun n outside => ?_,
      fun n outside => ?_⟩⟩
  · refine carried_of_work takes rfl ?_
    change withChecked s (checkShiftPut _) _ = _
    rw [checkShiftPut_fields inRange]
    rfl
  · refine carried_of_work takes rfl ?_
    change withChecked s (checkShiftPut a) _ = _
    rw [checkShiftPut_absent isShift undefined]
    rfl
  · have refuses : checkShiftPut a = none := by
      rw [Option.eq_none_iff_forall_ne_some]
      rintro ⟨id, d | d⟩ checked
      · obtain ⟨low, zero⟩ := checkShiftPut_undefined checked
        exact outside.elim (fun high => absurd low (Nat.not_le.mpr high)) fun other => other zero
      · exact unfit id d (checkShiftPut_range checked) (checkShiftPut_inverse checked)
    refine refused_of_work takes rfl ?_
    change withChecked s (checkShiftPut a) _ = _
    rw [refuses]
    rfl
  · refine carried_of_work takes rfl ?_
    change withChecked s (checkRotaPut _) _ = _
    rw [checkRotaPut_fields inRange]
    rfl
  · have refuses : checkRotaPut a = none := by
      rw [Option.eq_none_iff_forall_ne_some]
      rintro ⟨c, r⟩ checked
      exact unfit c r (checkRotaPut_range checked) (checkRotaPut_inverse checked)
    refine refused_of_work takes rfl ?_
    change withChecked s (checkRotaPut a) _ = _
    rw [refuses]
    rfl
  · refine carried_of_work takes rfl ?_
    change withChecked s (checkPayClassPut _) _ = _
    rw [checkPayClassPut_fields inRange]
    rfl
  · have refuses : checkPayClassPut a = none := by
      rw [Option.eq_none_iff_forall_ne_some]
      rintro ⟨c, p⟩ checked
      exact unfit c p (checkPayClassPut_range checked) (checkPayClassPut_inverse checked)
    refine refused_of_work takes rfl ?_
    change withChecked s (checkPayClassPut a) _ = _
    rw [refuses]
    rfl
  · refine carried_of_work takes rfl ?_
    change withChecked s (toFin? 64 id.val) _ = _
    rw [toFin?_val]
    rfl
  · refine carried_of_work takes rfl ?_
    change withChecked s (toFin? 32 c.val) _ = _
    rw [toFin?_val]
    rfl
  · refine carried_of_work takes rfl ?_
    change withChecked s (toFin? 16 c.val) _ = _
    rw [toFin?_val]
    rfl
  · refine refused_of_work takes rfl ?_
    change withChecked s (toFin? 64 n) _ = _
    rw [toFin?_eq_none_iff.mpr outside]
    rfl
  · refine refused_of_work takes rfl ?_
    change withChecked s (toFin? 32 n) _ = _
    rw [toFin?_eq_none_iff.mpr outside]
    rfl
  · refine refused_of_work takes rfl ?_
    change withChecked s (toFin? 16 n) _ = _
    rw [toFin?_eq_none_iff.mpr outside]
    rfl

/-! ### Records and their graces -/

section Rounding

theorem roundDown_roundedDown {unit : Nat} (positive : 0 < unit) (t : Nat) : roundedDown unit t (roundDown unit t) :=
  ⟨Nat.dvd_mul_left _ _, Nat.div_mul_le_self t unit, by
    have := Nat.lt_div_mul_add positive (a := t)
    exact this⟩

theorem roundUp_roundedUp {unit : Nat} (positive : 0 < unit) (t : Nat) : roundedUp unit t (roundUp unit t) := by
  have low := Nat.div_mul_le_self (t + unit - 1) unit
  have high := Nat.lt_div_mul_add positive (a := t + unit - 1)
  refine ⟨Nat.dvd_mul_left _ _, ?_, ?_⟩
  · unfold roundUp
    omega
  · unfold roundUp
    omega

end Rounding

/-- Settles O44: `buildRecord` and `effectiveOut`, with the two roundings. -/
theorem recordsAreBuiltAndEndByTheGraces : Obligations.RecordsAreBuiltAndEndByTheGraces := by
  unfold Obligations.RecordsAreBuiltAndEndByTheGraces
  refine ⟨fun i time rates set positive => ⟨scheduledIn i (time / 60), rfl, fun early => if_pos early, fun late => ?_⟩,
    fun time rates set => ⟨roundUp 15 (time / 60), rfl, roundUp_roundedUp (by decide) _⟩, fun r m => rfl,
    fun r reading unscheduled => ?_, fun r p reading scheduled positive => ⟨fun early => ?_, fun late inTime => ?_,
      fun overstayed => ?_⟩⟩
  · unfold scheduledIn
    rw [if_neg (Nat.not_le.mpr late)]
    exact roundUp_roundedUp positive _
  · change roundedDown 15 (reading / 60) (effectiveOutAt r (reading / 60))
    unfold effectiveOutAt
    rw [unscheduled]
    exact roundDown_roundedDown (by decide) _
  · change roundedDown r.unit (reading / 60) (effectiveOutAt r (reading / 60))
    unfold effectiveOutAt
    rw [scheduled]
    dsimp only
    rw [if_pos early]
    exact roundDown_roundedDown positive _
  · change effectiveOutAt r (reading / 60) = p.stop
    unfold effectiveOutAt
    rw [scheduled]
    dsimp only
    rw [if_neg (Nat.not_lt.mpr late), if_pos inTime]
  · change roundedDown r.unit (reading / 60) (effectiveOutAt r (reading / 60))
    unfold effectiveOutAt
    rw [scheduled]
    dsimp only
    rw [if_neg (by omega), if_neg (Nat.not_le.mpr overstayed)]
    exact roundDown_roundedDown positive _

/-! ### Counting minutes -/

section Counting

/-- 7.3: a minute lies in an interval. -/
def within (interval : Int × Int) (m : Nat) : Bool := decide (interval.1 ≤ m) && decide ((m : Int) < interval.2)

theorem within_iff {interval : Int × Int} {m : Nat} : within interval m = true ↔ interval.1 ≤ m ∧ (m : Int) < interval.2 := by
  unfold within
  rw [Bool.and_eq_true, decide_eq_true_eq, decide_eq_true_eq]

/-- The minutes of an attendance that lie in an interval. -/
theorem countP_within (interval : Int × Int) (first n : Nat) :
    (List.range' first n).countP (within interval) = overlap interval.1 interval.2 first ((first + n : Nat) : Int) := by
  induction n with
  | zero =>
    unfold overlap
    rw [List.range'_zero, List.countP_nil]
    omega
  | succ n ih =>
    rw [List.range'_concat, List.countP_append, ih, List.countP_singleton]
    unfold overlap
    by_cases inside : within interval (first + 1 * n) = true
    · rw [if_pos inside]
      have bounds := within_iff.mp inside
      omega
    · rw [if_neg inside]
      rw [within_iff] at inside
      omega

/-- 7.3: what two intervals have in common is an interval. -/
theorem within_both (a b : Int × Int) (m : Nat) :
    (within a m && within b m) = within (max a.1 b.1, min a.2 b.2) m := by
  rw [Bool.eq_iff_iff, Bool.and_eq_true, within_iff, within_iff, within_iff]
  dsimp only
  omega

variable {l : List Nat}

theorem countP_or_of_disjoint {p q : Nat → Bool} (apart : ∀ m ∈ l, ¬ (p m = true ∧ q m = true)) :
    l.countP (fun m => p m || q m) = l.countP p + l.countP q := by
  induction l with
  | nil => rfl
  | cons m rest ih =>
    have here := apart m List.mem_cons_self
    rw [List.countP_cons, List.countP_cons, List.countP_cons, ih fun x mem => apart x (List.mem_cons_of_mem m mem)]
    cases isP : p m <;> cases isQ : q m
    · simp
    · simp
      omega
    · simp
      omega
    · exact absurd ⟨isP, isQ⟩ here

/-- Minutes that lie in one of several disjoint parts, counted part by part. -/
theorem sum_countP_of_disjoint {α : Type} {lies : α → Nat → Bool} {parts : List α}
    (apart : parts.Pairwise fun a b => ∀ m ∈ l, ¬ (lies a m = true ∧ lies b m = true)) :
    (parts.map fun a => l.countP (lies a)).sum = l.countP fun m => parts.any fun a => lies a m := by
  induction parts with
  | nil => simp
  | cons a rest ih =>
    obtain ⟨first, others⟩ := List.pairwise_cons.mp apart
    rw [List.map_cons, List.sum_cons, ih others, ← countP_or_of_disjoint]
    · rfl
    · rintro m mem ⟨here, later⟩
      obtain ⟨b, memB, there⟩ := List.any_eq_true.mp later
      exact first b memB m mem ⟨here, there⟩

end Counting

/-! ### Breaks and night windows -/

section Minutes

variable {r : OpenRecord} {effIn effOut : Nat}

/-- R124: the unpaid breaks of a record. -/
def unpaid (breaks : List AbsBreak) : List AbsBreak := breaks.filter fun b => !b.paid

/-- 7.3: a break as an interval. -/
def AbsBreak.interval (b : AbsBreak) : Int × Int := (b.start, b.stop)

theorem inUnpaidBreak_eq (breaks : List AbsBreak) (m : Nat) :
    inUnpaidBreak breaks m = (unpaid breaks).any fun b => within b.interval m := by
  unfold inUnpaidBreak unpaid
  rw [List.any_filter]
  refine congrArg breaks.any (funext fun b => ?_)
  unfold within AbsBreak.interval
  simp [Bool.and_assoc]

theorem breaksApart.pairwise {breaks : List AbsBreak} (h : breaksApart breaks) :
    breaks.Pairwise fun a b => a.stop ≤ b.start := by
  obtain ⟨forward, order⟩ := h
  induction breaks with
  | nil => exact .nil
  | cons a rest ih =>
    have tail : everyTwo (fun a b : AbsBreak => decide (a.stop ≤ b.start)) rest = true := by
      cases rest with
      | nil => rfl
      | cons b later => exact (Bool.and_eq_true _ _ ▸ order : _ ∧ _).2
    have ascending := ih (fun b mem => forward b (List.mem_cons_of_mem a mem)) tail
    refine List.pairwise_cons.mpr ⟨fun b mem => ?_, ascending⟩
    cases rest with
    | nil => cases mem
    | cons c later =>
      have next_ : a.stop ≤ c.start := of_decide_eq_true (Bool.and_eq_true _ _ ▸ order : _ ∧ _).1
      have through := forward c (List.mem_cons_of_mem a List.mem_cons_self)
      rcases List.mem_cons.mp mem with rfl | further
      · exact next_
      · have := (List.pairwise_cons.mp ascending).1 b further
        omega

/-- R103: no minute lies in two breaks. -/
theorem breaksApart.disjoint {breaks : List AbsBreak} (h : breaksApart breaks) (l : List Nat) :
    (unpaid breaks).Pairwise fun a b => ∀ m ∈ l, ¬ (within a.interval m = true ∧ within b.interval m = true) :=
  (h.pairwise.filter _).imp fun {a b} apart m _ both => by
    rw [within_iff, within_iff] at both
    unfold AbsBreak.interval at both
    dsimp only at both
    omega

/-- R124: the deduction is the number of minutes in unpaid breaks. -/
theorem deduction_eq (apart : breaksApart r.breaks) (n : Nat) : deduction r.breaks effIn (effIn + n)
    = (List.range' effIn n).countP (inUnpaidBreak r.breaks) := by
  have counted := sum_countP_of_disjoint (apart.disjoint (List.range' effIn n))
  unfold deduction
  rw [funext (inUnpaidBreak_eq r.breaks), ← counted]
  exact congrArg List.sum (List.map_congr_left fun b _ => (countP_within b.interval effIn n).symm)

theorem length_eq_countP_not (p : Nat → Bool) (l : List Nat) : l.length = l.countP p + l.countP fun m => !p m := by
  have split := List.length_eq_countP_add_countP p (l := l)
  simpa using split

/-- R125: the worked minutes before the cap. -/
theorem uncapped_eq (apart : breaksApart r.breaks) (effOut : Nat) : uncapped r effOut = (minutesWorked r effOut).length := by
  unfold uncapped minutesWorked
  rw [← List.countP_eq_length_filter]
  rcases Nat.le_total r.effectiveIn effOut with forward | reversed
  · obtain ⟨n, rfl⟩ := Nat.exists_eq_add_of_le forward
    have split := length_eq_countP_not (inUnpaidBreak r.breaks) (List.range' r.effectiveIn n)
    rw [List.length_range'] at split
    unfold span
    rw [deduction_eq apart, Nat.add_sub_cancel_left]
    omega
  · have nothing : effOut - r.effectiveIn = 0 := Nat.sub_eq_zero_of_le reversed
    unfold span
    rw [nothing, Nat.zero_sub]
    rfl

/-- R126: the night windows, day by day. -/
theorem nightWindows_eq {nightStart nightEnd : Nat} (some : nightStart ≠ nightEnd) :
    nightWindows nightStart nightEnd effIn effOut = (List.range (effOut / 1440 + 2 - effIn / 1440)).map fun k : Nat =>
      nightWindow nightStart nightEnd (((effIn / 1440 : Nat) : Int) - 1 + (k : Int)) := by
  have days : ∀ l : List Nat, (do let k ← l; pure (k : Int)) = l.map Nat.cast := fun l => bind_pure_comp _ l
  unfold nightWindows dayOf
  rw [if_neg some, days, List.map_map]
  rfl

/-- R126: the night windows follow each other without an overlap. -/
theorem nightWindows_disjoint {nightStart nightEnd : Nat} (night : nightStart ≤ 1439 ∧ nightEnd ≤ 1439) (l : List Nat) :
    (nightWindows nightStart nightEnd effIn effOut).Pairwise fun a b =>
      ∀ m ∈ l, ¬ (within a m = true ∧ within b m = true) := by
  by_cases empty : nightStart = nightEnd
  · have nothing : nightWindows nightStart nightEnd effIn effOut = [] := if_pos empty
    rw [nothing]
    exact .nil
  · rw [nightWindows_eq empty]
    refine List.pairwise_map.mpr (List.pairwise_lt_range.imp fun {i j} before m _ both => ?_)
    rw [within_iff, within_iff] at both
    unfold nightWindow at both
    split at both
    · dsimp only at both
      omega
    · dsimp only at both
      omega

/-- R126: the night windows of a close hold the night minutes of the attendance. -/
theorem any_nightWindows {nightStart nightEnd m : Nat} (night : nightStart ≤ 1439 ∧ nightEnd ≤ 1439)
    (begins : effIn ≤ m) (ends : m < effOut) :
    (nightWindows nightStart nightEnd effIn effOut).any (fun w => within w m) = atNight nightStart nightEnd m := by
  have inWindow : ∀ day : Int, within (nightWindow nightStart nightEnd day) m = true ↔
      day * 1440 + nightStart ≤ m ∧ (m : Int) < (if nightStart < nightEnd then day else day + 1) * 1440 + nightEnd :=
    fun day => by
      rw [within_iff]
      unfold nightWindow
      split
      · exact Iff.rfl
      · exact Iff.rfl
  unfold atNight
  rw [Bool.eq_iff_iff]
  by_cases empty : nightStart = nightEnd
  · have nothing : nightWindows nightStart nightEnd effIn effOut = [] := if_pos empty
    rw [nothing, if_neg (by omega), if_neg (by omega)]
    exact Iff.rfl
  · rw [nightWindows_eq empty, List.any_map, List.any_eq_true]
    simp only [Function.comp, inWindow, List.mem_range]
    by_cases forward : nightStart < nightEnd
    · rw [if_pos forward, Bool.and_eq_true, decide_eq_true_eq, decide_eq_true_eq]
      simp only [if_pos forward]
      constructor
      · rintro ⟨k, -, low, high⟩
        omega
      · rintro ⟨low, high⟩
        exact ⟨m / 1440 + 1 - effIn / 1440, by omega, by omega, by omega⟩
    · rw [if_neg forward, if_pos (by omega), Bool.or_eq_true, decide_eq_true_eq, decide_eq_true_eq]
      simp only [if_neg forward]
      constructor
      · rintro ⟨k, -, low, high⟩
        omega
      · rintro (low | high)
        · exact ⟨m / 1440 + 1 - effIn / 1440, by omega, by omega, by omega⟩
        · exact ⟨m / 1440 - effIn / 1440, by omega, by omega, by omega⟩

/-- R126: the night overlap is the number of night minutes of the attendance. -/
theorem nightOverlap_eq {nightStart nightEnd : Nat} (night : nightStart ≤ 1439 ∧ nightEnd ≤ 1439) (n : Nat) :
    nightOverlap (nightWindows nightStart nightEnd effIn (effIn + n)) effIn (effIn + n)
      = (List.range' effIn n).countP (atNight nightStart nightEnd) := by
  have counted := sum_countP_of_disjoint (nightWindows_disjoint (effIn := effIn) (effOut := effIn + n) night
    (List.range' effIn n))
  have windows : (List.range' effIn n).countP (fun m =>
      (nightWindows nightStart nightEnd effIn (effIn + n)).any fun w => within w m)
      = (List.range' effIn n).countP (atNight nightStart nightEnd) := List.countP_congr fun m mem => by
    obtain ⟨low, high⟩ := List.mem_range'_1.mp mem
    rw [any_nightWindows night low high]
  unfold nightOverlap
  rw [← windows, ← counted]
  exact congrArg List.sum (List.map_congr_left fun w _ => (countP_within w effIn n).symm)

theorem any_and_right {α : Type} (l : List α) (p : α → Bool) (b : Bool) : (l.any fun a => p a && b) = (l.any p && b) := by
  cases b <;> simp

theorem any_and_left {α : Type} (l : List α) (p : α → Bool) (b : Bool) : (l.any fun a => b && p a) = (b && l.any p) := by
  cases b <;> simp

/-- R126: the deduction from the night minutes is the number of night minutes in unpaid breaks. -/
theorem nightBreakOverlap_eq {nightStart nightEnd : Nat} (apart : breaksApart r.breaks)
    (night : nightStart ≤ 1439 ∧ nightEnd ≤ 1439) (n : Nat) :
    nightBreakOverlap (nightWindows nightStart nightEnd effIn (effIn + n)) r.breaks effIn (effIn + n)
      = (List.range' effIn n).countP fun m => inUnpaidBreak r.breaks m && atNight nightStart nightEnd m := by
  have oneBreak : ∀ b : AbsBreak, ((nightWindows nightStart nightEnd effIn (effIn + n)).map fun w =>
      overlap w.1 w.2 (max (b.start : Int) effIn) (min (b.stop : Int) ((effIn + n : Nat) : Int))).sum
      = (List.range' effIn n).countP fun m => within b.interval m && atNight nightStart nightEnd m := fun b => by
    have counted := sum_countP_of_disjoint (lies := fun w m => within b.interval m && within w m)
      ((nightWindows_disjoint (effIn := effIn) (effOut := effIn + n) night (List.range' effIn n)).imp
        fun {v w} apart m mem both => apart m mem ⟨(Bool.and_eq_true _ _ ▸ both.1 : _ ∧ _).2,
          (Bool.and_eq_true _ _ ▸ both.2 : _ ∧ _).2⟩)
    have windows : (List.range' effIn n).countP (fun m =>
        (nightWindows nightStart nightEnd effIn (effIn + n)).any fun w => within b.interval m && within w m)
        = (List.range' effIn n).countP fun m => within b.interval m && atNight nightStart nightEnd m :=
      List.countP_congr fun m mem => by
        obtain ⟨low, high⟩ := List.mem_range'_1.mp mem
        rw [← any_nightWindows night low high, any_and_left]
    rw [← windows, ← counted]
    refine congrArg List.sum (List.map_congr_left fun w _ => ?_)
    rw [List.countP_congr fun m _ => by rw [within_both b.interval w m], countP_within]
    unfold overlap AbsBreak.interval
    dsimp only
    omega
  have counted := sum_countP_of_disjoint (lies := fun b m => within b.interval m && atNight nightStart nightEnd m)
    ((apart.disjoint (List.range' effIn n)).imp fun {v w} apart m mem both =>
      apart m mem ⟨(Bool.and_eq_true _ _ ▸ both.1 : _ ∧ _).1, (Bool.and_eq_true _ _ ▸ both.2 : _ ∧ _).1⟩)
  have breaks : (List.range' effIn n).countP (fun m =>
      (unpaid r.breaks).any fun b => within b.interval m && atNight nightStart nightEnd m)
      = (List.range' effIn n).countP fun m => inUnpaidBreak r.breaks m && atNight nightStart nightEnd m :=
    List.countP_congr fun m _ => by rw [inUnpaidBreak_eq, any_and_right]
  unfold nightBreakOverlap
  rw [← breaks, ← counted]
  exact congrArg List.sum (List.map_congr_left fun b _ => oneBreak b)

theorem countP_and_not (p q : Nat → Bool) (l : List Nat) :
    l.countP q = l.countP (fun m => p m && q m) + l.countP fun m => q m && !p m := by
  rw [← countP_or_of_disjoint]
  · refine List.countP_congr fun m _ => ?_
    cases p m <;> cases q m <;> decide
  · rintro m - ⟨both, alone⟩
    simp only [Bool.and_eq_true, Bool.not_eq_true'] at both alone
    exact Bool.noConfusion (both.1.symm.trans alone.2)

/-- R126: the night minutes are the worked minutes at night. -/
theorem nightMinutes_eq (fits : r.Fits) (effOut : Nat) : nightMinutes r effOut
    = min ((minutesWorked r effOut).filter fun m => atNight r.nightStart r.nightEnd m).length (worked r effOut) := by
  unfold nightMinutes
  dsimp only
  congr 1
  unfold minutesWorked
  rw [List.filter_filter, ← List.countP_eq_length_filter]
  rcases Nat.le_total r.effectiveIn effOut with forward | reversed
  · obtain ⟨n, rfl⟩ := Nat.exists_eq_add_of_le forward
    have split := countP_and_not (inUnpaidBreak r.breaks) (atNight r.nightStart r.nightEnd) (List.range' r.effectiveIn n)
    rw [nightOverlap_eq fits.night, nightBreakOverlap_eq fits.breaks fits.night, Nat.add_sub_cancel_left]
    omega
  · have nothing : effOut - r.effectiveIn = 0 := Nat.sub_eq_zero_of_le reversed
    have noOverlap : nightOverlap (nightWindows r.nightStart r.nightEnd r.effectiveIn effOut) r.effectiveIn effOut = 0 := by
      unfold nightOverlap
      refine List.sum_eq_zero fun x mem => ?_
      obtain ⟨w, -, rfl⟩ := List.mem_map.mp mem
      unfold overlap
      omega
    rw [nothing, noOverlap, Nat.zero_sub]
    rfl

end Minutes

/-- Settles O45: minutes counted one by one. -/
theorem workedAndNightMinutesAreCounted : Obligations.WorkedAndNightMinutesAreCounted := by
  unfold Obligations.WorkedAndNightMinutesAreCounted
  intro badge carry r form c fits isClose
  have capped : worked r (effectiveOut r form) = min (minutesWorked r (effectiveOut r form)).length 1440 := by
    rw [← uncapped_eq fits.breaks]
    rfl
  subst isClose
  refine ⟨rfl, rfl, rfl, rfl, rfl, rfl, fun reading isForm => ?_, fun m isForm => ?_, capped, ?_, decide_eq_true_iff,
    nightMinutes_eq fits _⟩
  · subst isForm
    rfl
  · subst isForm
    rfl
  · rw [← uncapped_eq fits.breaks]
    exact decide_eq_true_iff

end Sys2Proof.Machine
end

section
/-!
PROOFS. Record closing and the pay periods (chapter 8). Obligations O47 and O48.
-/

namespace Sys2Proof.Machine

open Sys2Proof

/-! ### One close -/

section Close

variable {s : State} {b : Badge}

theorem addedTo_saturate (top before added : Nat) : addedTo top before added (saturate top before added) := by
  unfold addedTo saturate
  exact ⟨fun fits => Nat.min_eq_left fits, fun over_ => Nat.min_eq_right (Nat.le_of_lt over_)⟩

theorem CloseCause.missed_eq (cause : CloseCause) : cause.missed = if cause = .auto then 1 else 0 := by
  cases cause <;> rfl

theorem CloseCause.presence_eq (cause : CloseCause) : cause.presence = if cause = .auto then .unknown else .outside := by
  cases cause <;> rfl

/-- R135: a close saturates exactly where a total would pass its maximum; the missed-out count grows by an automatic
close alone. -/
theorem closeSaturates_iff {t : Totals} (fits : t.inRange) (c : ClosedRecord) (cause : CloseCause) :
    closeSaturates t c cause.missed = true ↔ 65535 < t.regular + c.regular ∨ 65535 < t.overtime + c.overtime
      ∨ 65535 < t.night + c.night ∨ 65535 < t.holiday + c.holiday ∨ 4294967295 < t.pay + c.pay
      ∨ 65535 < t.shifts + 1 ∨ (cause = .auto ∧ 65535 < t.missedOut + 1) := by
  obtain ⟨-, -, -, -, -, -, missed⟩ := fits
  have missed : t.missedOut ≤ 65535 := missed
  have last : 65535 < t.missedOut + cause.missed ↔ cause = .auto ∧ 65535 < t.missedOut + 1 := by
    rw [CloseCause.missed_eq]
    by_cases auto : cause = .auto
    · rw [if_pos auto]
      exact (and_iff_right auto).symm
    · rw [if_neg auto]
      exact iff_of_false (by omega) fun both => auto both.1
  unfold closeSaturates Config.maxCount Config.maxPay
  simp only [Bool.or_eq_true, decide_eq_true_eq, or_assoc, last]

theorem Badge.afterClose_closed (fits : b.current.inRange) (c : ClosedRecord) (cause : CloseCause) :
    closedEntry b (b.afterClose c cause) c cause (closeSaturates b.current c cause.missed) := by
  refine ⟨addedTo_saturate _ _ _, addedTo_saturate _ _ _, addedTo_saturate _ _ _, addedTo_saturate _ _ _,
    addedTo_saturate _ _ _, addedTo_saturate _ _ _, ?_, closeSaturates_iff fits c cause, Bool.or_eq_true_iff, ?_⟩
  · rw [← CloseCause.missed_eq]
    exact addedTo_saturate _ _ _
  · rw [← CloseCause.presence_eq]
    rfl

theorem State.closeRecord_sparePlaces (s : State) (b : Badge) (r : OpenRecord) (cause : CloseCause) (form : CloseForm) :
    (s.closeRecord b r cause form).sparePlaces = s.sparePlaces - 1 := State.store_sparePlaces _ _ _

theorem State.closeRecord_pev (s : State) (b : Badge) (r : OpenRecord) (cause : CloseCause) (form : CloseForm) :
    (s.closeRecord b r cause form).pev = s.pev := rfl

end Close

/-! ### The auto-close walk -/

section Walk

variable {s t : State} {b : Badge} {now : Nat}

theorem closesAt_iff : closesAt s now b = true ↔ ∃ r, b.record = some r ∧ r.deadline ≤ now ∧ s.passageOf b.number = none := by
  unfold closesAt
  cases b.record with
  | none => simp
  | some r => simp [State.passageOf_none]

theorem closesAt_congr (same : t.pev = s.pev) : closesAt t now = closesAt s now := by
  unfold closesAt
  rw [same]

theorem autoClosed_eq {r : OpenRecord} (isRecord : b.record = some r) :
    autoClosed s b = s.closeRecord b r .auto (.fixedOut r.fixedOut) := by
  have fixed : (match r.scheduled with
      | none => r.effectiveIn
      | some p => p.stop) = r.fixedOut := by
    unfold OpenRecord.fixedOut
    cases r.scheduled <;> rfl
  unfold autoClosed
  rw [isRecord]
  exact congrArg (fun m => s.closeRecord b r .auto (.fixedOut m)) fixed

/-- R138: a badge that does not close is passed over. -/
theorem autoCloseFrom_skips (keeps : closesAt s now b = false) (rest : List Badge) :
    autoCloseFrom now (b :: rest) s = autoCloseFrom now rest s := by
  rw [← Bool.not_eq_true, closesAt_iff] at keeps
  conv_lhs => unfold autoCloseFrom
  split
  · rfl
  · next r isRecord =>
    split
    · rfl
    · next due =>
      split
      · rfl
      · next free =>
        refine absurd ⟨r, isRecord, Nat.le_of_not_lt due, ?_⟩ keeps
        simpa using free

theorem autoCloseFrom_closes (closes : closesAt s now b = true) (rest : List Badge) : autoCloseFrom now (b :: rest) s
    = if s.sparePlaces < 1 then s else autoCloseFrom now rest (autoClosed s b) := by
  obtain ⟨r, isRecord, due, free⟩ := closesAt_iff.mp closes
  conv_lhs => unfold autoCloseFrom
  rw [isRecord, autoClosed_eq isRecord]
  dsimp only
  rw [if_neg (Nat.not_lt.mpr due), if_neg (by rw [free]; exact Bool.noConfusion)]

theorem autoClosed_pev (s : State) (b : Badge) : (autoClosed s b).pev = s.pev := by
  unfold autoClosed
  split
  · rfl
  · exact State.closeRecord_pev _ _ _ _ _

/-- R138, R139: the walk closes as many of the badges that are due as there are spare places. -/
theorem autoCloseFrom_eq (now : Nat) (l : List Badge) (s : State) :
    autoCloseFrom now l s = ((l.filter (closesAt s now)).take s.sparePlaces).foldl autoClosed s := by
  induction l generalizing s with
  | nil => rw [List.filter_nil, List.take_nil]; rfl
  | cons b rest ih =>
    cases closes : closesAt s now b with
    | false =>
      rw [autoCloseFrom_skips closes, ih, List.filter_cons_of_neg (by rw [closes]; exact Bool.noConfusion)]
    | true =>
      rw [autoCloseFrom_closes closes, List.filter_cons_of_pos closes]
      obtain ⟨r, isRecord, -, -⟩ := closesAt_iff.mp closes
      by_cases full : s.sparePlaces < 1
      · rw [if_pos full, Nat.lt_one_iff.mp full]
        rfl
      · obtain ⟨n, room⟩ : ∃ n, s.sparePlaces = n + 1 := ⟨s.sparePlaces - 1, by omega⟩
        have spare : (autoClosed s b).sparePlaces = n := by
          rw [autoClosed_eq isRecord, State.closeRecord_sparePlaces, room]
          rfl
        rw [if_neg full, ih, closesAt_congr (autoClosed_pev s b), spare, room, List.take_succ_cons, List.foldl_cons]

end Walk

/-! ### CLOSE_RECORD -/

section CloseRecord

variable {s : State}

theorem closeRecord_work {n out : Nat} (first : 1 ≤ n) (last : n ≤ 16777215) (inTime : out ≤ 3155759999) :
    commandWork s (.closeRecord (.fields ⟨n, out⟩)) = s.closeOf n out := by
  have checked : checkCloseRecord ⟨n, out⟩ = some (n, out) := by
    unfold checkCloseRecord
    rw [badgeNumber?_eq_some first last]
    exact if_pos inTime
  change withChecked s (checkCloseRecord _) _ = _
  rw [checked]
  rfl

theorem checkCloseRecord_eq_none {a : CloseRecordArgs} (outside : a.badge = 0 ∨ 16777215 < a.badge
    ∨ 3155759999 < a.outTime) : checkCloseRecord a = none := by
  rw [Option.eq_none_iff_forall_ne_some]
  intro v checked
  simp only [checkCloseRecord, Option.bind_eq_bind, Option.bind_eq_some_iff] at checked
  obtain ⟨n, isNumber, checked⟩ := checked
  obtain ⟨-, first, last⟩ := badgeNumber?_eq_some_iff.mp isNumber
  have last : a.badge ≤ 16777215 := last
  split at checked
  · next inTime =>
    have inTime : a.outTime ≤ 3155759999 := inTime
    omega
  · cases checked

theorem State.closeOf_open {b : Badge} {r : OpenRecord} (found : s.findBadge b.number = some b)
    (isRecord : b.record = some r) (out : Nat) : s.closeOf b.number out =
      if (s.passageOf b.number).isSome then denied s .busy
      else if s.sparePlaces < 1 then denied s .queueFull
      else s.closeManually b r out := by
  unfold State.closeOf
  rw [found]
  dsimp only
  rw [isRecord]

end CloseRecord

/-- Settles O47: one close, the walk, and CLOSE_RECORD. -/
theorem closesAddToTheTotals : Obligations.ClosesAddToTheTotals := by
  unfold Obligations.ClosesAddToTheTotals
  refine ⟨fun s below above b r cause form ok entries isRecord => ⟨computeClose b.number b.carry r form,
      b.afterClose (computeClose b.number b.carry r form) cause,
      closeSaturates b.current (computeClose b.number b.carry r form) cause.missed, rfl, ?_, ?_⟩,
    fun s now ok => autoCloseFrom_eq now s.btb.entries s,
    fun s b r out takes ok mem isRecord inTime => ?_, fun s n out takes first last inTime closed => ?_,
    fun a s takes outside => ?_⟩
  · exact Badge.afterClose_closed (ok.totals b (entries ▸ List.mem_append_right below List.mem_cons_self)).1 _ _
  · unfold State.closeRecord
    dsimp only
    rw [ok.updateBadge_entry entries]
    rfl
  · obtain ⟨first, last⟩ : 1 ≤ b.number ∧ b.number ≤ 16777215 := ok.numbers b mem
    obtain ⟨below, above, entries⟩ := List.append_of_mem mem
    have work := closeRecord_work (s := s) first last inTime
    rw [State.closeOf_open (ok.findBadge_entry entries) isRecord] at work
    have waits : (∀ p ∈ s.pev.passages, p.badge ≠ b.number) → ¬ (s.passageOf b.number).isSome = true := fun free some => by
      obtain ⟨p, memP, badge⟩ := State.passageOf_isSome.mp some
      exact free p memP badge
    refine ⟨fun free room => ⟨_, rfl, ?_⟩, fun pending => ?_, fun free full => ?_⟩
    · refine carried_of_work takes rfl ?_
      rw [work, if_neg (waits free), if_neg (Nat.not_lt.mpr room)]
      rfl
    · refine refused_of_work takes rfl ?_
      rw [work, if_pos (State.passageOf_isSome.mpr pending)]
    · refine refused_of_work takes rfl ?_
      rw [work, if_neg (waits free), if_pos (by rw [full]; exact Nat.one_pos)]
  · refine refused_of_work takes rfl ?_
    rw [closeRecord_work first last inTime]
    unfold State.closeOf
    split
    · rfl
    · next b found =>
      obtain ⟨mem, number⟩ := State.findBadge_some found
      rw [closed b mem number]
  · refine refused_of_work takes rfl ?_
    change withChecked s (checkCloseRecord a) _ = _
    rw [checkCloseRecord_eq_none outside]
    rfl

/-! ### The pay periods -/

section Periods

variable {s : State}

theorem checkTotalsGet_eq_none {a : TotalsGetArgs} (outside : 16777215 < a.badge ∨ 1 < a.selector ∨ 1 < a.choice
    ∨ (a.selector = 0 ∧ a.badge = 0)) : checkTotalsGet a = none := by
  rw [Option.eq_none_iff_forall_ne_some]
  intro v checked
  simp only [checkTotalsGet, Option.bind_eq_bind, Option.bind_eq_some_iff] at checked
  obtain ⟨sel, isSel, n, isNumber, closed, isChoice, -⟩ := checked
  have get : checkBadgeGet ⟨a.badge, a.selector⟩ = some (sel, n) := by
    unfold checkBadgeGet
    rw [isSel]
    dsimp only [Option.bind_eq_bind, Option.bind_some]
    rw [isNumber]
    rfl
  have choiceRange : a.choice < 2 := ofCode_length isChoice
  rcases outside with high | selector | choice | ⟨exact_, zero⟩
  · exact nomatch (checkBadgeGet_eq_none (a := ⟨a.badge, a.selector⟩) (.inl high)).symm.trans get
  · exact nomatch (checkBadgeGet_eq_none (a := ⟨a.badge, a.selector⟩) (.inr selector)).symm.trans get
  · omega
  · rw [exact_] at isSel
    cases isSel
    have first := (badgeNumber?_eq_some_iff.mp isNumber).2.1
    omega

/-- R145: with EXACT a badge number, with NEXT any start of a walk. -/
inductive Selects : Nat → Nat → Selector → Prop
  | exact {n : Nat} (first : 1 ≤ n) (last : n ≤ 16777215) : Selects 0 n .exact
  | next {n : Nat} (last : n ≤ 16777215) : Selects 1 n .next

theorem totalsGet_work {n selector : Nat} {sel : Selector} (selects : Selects selector n sel) (closed : Bool) :
    commandWork s (.totalsGet (.fields ⟨n, selector, if closed then 1 else 0⟩)) =
      if closed && s.btb.closedBlock.isNone then denied s .noClosed
      else match s.select sel n with
        | none => denied s .notFound
        | some b => done s (s.totalsOf b closed) := by
  have checked : checkTotalsGet ⟨n, selector, if closed then 1 else 0⟩ = some (n, sel, closed) := by
    have isChoice : ofCode [false, true] (if closed then 1 else 0) = some closed := by
      cases closed <;> rfl
    unfold checkTotalsGet
    dsimp only
    rw [isChoice]
    cases selects with
    | exact first last =>
      change (badgeNumber? n).bind _ = _
      rw [badgeNumber?_eq_some first last]
      rfl
    | next last =>
      change (if n ≤ 16777215 then some n else none).bind _ = _
      rw [if_pos last]
      rfl
  change withChecked s (checkTotalsGet _) _ = _
  rw [checked]
  rfl

theorem totalsGet_current {n selector : Nat} {sel : Selector} (selects : Selects selector n sel) {b : Badge}
    (selected : s.select sel n = some b) : commandWork s (.totalsGet (.fields ⟨n, selector, 0⟩))
      = done s (.totals b.number b.current b.carry s.btb.period none) := by
  refine (totalsGet_work (s := s) selects false).trans ?_
  rw [Bool.false_and, if_neg Bool.false_ne_true, selected]
  rfl

theorem totalsGet_closed {n selector minute : Nat} {sel : Selector} (selects : Selects selector n sel) {b : Badge}
    {t : Totals} (selected : s.select sel n = some b) (block : s.btb.closedBlock = some minute)
    (closed : b.closed = some t) : commandWork s (.totalsGet (.fields ⟨n, selector, 1⟩))
      = done s (.totals b.number t b.carry s.btb.period (some minute)) := by
  refine (totalsGet_work (s := s) selects true).trans ?_
  rw [block, Option.isNone_some, Bool.and_false, if_neg Bool.false_ne_true, selected]
  unfold State.totalsOf
  dsimp only
  rw [closed, block]
  rfl

theorem totalsGet_notFound {n selector : Nat} {sel : Selector} (selects : Selects selector n sel)
    (absent : s.select sel n = none) {closed : Bool} (block : closed = false ∨ s.btb.closedBlock ≠ none) :
    commandWork s (.totalsGet (.fields ⟨n, selector, if closed then 1 else 0⟩)) = denied s .notFound := by
  have present : ¬ (closed && s.btb.closedBlock.isNone) = true := fun both => by
    rw [Bool.and_eq_true, Option.isNone_iff_eq_none] at both
    exact block.elim (fun current => Bool.noConfusion (current.symm.trans both.1)) fun some => some both.2
  rw [totalsGet_work selects, if_neg present, absent]

theorem totalsGet_noClosed {n selector : Nat} {sel : Selector} (selects : Selects selector n sel)
    (released : s.btb.closedBlock = none) :
    commandWork s (.totalsGet (.fields ⟨n, selector, 1⟩)) = denied s .noClosed := by
  refine (totalsGet_work (s := s) selects true).trans ?_
  rw [released]
  rfl

end Periods

/-- Settles O48: the work of the three commands. -/
theorem periodsAreClosedReadAndReleased : Obligations.PeriodsAreClosedReadAndReleased := by
  unfold Obligations.PeriodsAreClosedReadAndReleased
  refine ⟨fun s takes => ⟨fun invalid => ?_, fun valid some => ?_, fun valid none => ?_, fun none => ?_, fun some => ?_⟩,
    fun s below above b n selector takes ok entries names => ?_,
    fun s n selector choice takes small names present => ?_, fun s n selector takes names last released => ?_,
    fun a s takes outside => ?_⟩
  · refine refused_of_work takes rfl ?_
    change actClosePeriod s () = _
    exact if_pos invalid
  · refine refused_of_work takes rfl ?_
    change actClosePeriod s () = _
    unfold actClosePeriod
    rw [if_neg (by rw [valid]; exact Bool.noConfusion), if_pos (Option.isSome_iff_ne_none.mpr some)]
  · refine carried_of_work takes rfl ?_
    change actClosePeriod s () = _
    unfold actClosePeriod
    rw [if_neg (by rw [valid]; exact Bool.noConfusion), if_neg (by rw [none]; exact Bool.noConfusion)]
    rfl
  · refine refused_of_work takes rfl ?_
    change actReleaseClosed s () = _
    exact if_pos (Option.isNone_iff_eq_none.mpr none)
  · refine carried_of_work takes rfl ?_
    change actReleaseClosed s () = _
    exact if_neg fun none => some (Option.isNone_iff_eq_none.mp none)
  · obtain ⟨first, last⟩ : 1 ≤ b.number ∧ b.number ≤ 16777215 :=
      ok.numbers b (entries ▸ List.mem_append_right below List.mem_cons_self)
    obtain ⟨sel, selects, selected⟩ : ∃ sel, Selects selector n sel ∧ s.select sel n = some b := by
      rcases names with ⟨rfl, rfl⟩ | ⟨rfl, before, passed⟩
      · exact ⟨.exact, .exact first last, ok.findBadge_entry entries⟩
      · exact ⟨.next, .next (by omega), nextBadge_entry entries before passed⟩
    exact ⟨carried_of_work takes rfl (totalsGet_current selects selected), fun minute t block closed =>
      carried_of_work takes rfl (totalsGet_closed selects selected block closed)⟩
  · obtain ⟨sel, selects, absent⟩ : ∃ sel, Selects selector n sel ∧ s.select sel n = none := by
      rcases names with ⟨rfl, first, last, absent⟩ | ⟨rfl, last, absent⟩
      · exact ⟨.exact, .exact first last, State.findBadge_absent absent⟩
      · exact ⟨.next, .next last, State.nextBadge_absent absent⟩
    refine refused_of_work takes rfl ?_
    rcases Nat.le_one_iff_eq_zero_or_eq_one.mp small with rfl | rfl
    · exact totalsGet_notFound selects absent (closed := false) (.inl rfl)
    · exact totalsGet_notFound selects absent (closed := true) (.inr (present.resolve_left (by decide)))
  · obtain ⟨sel, selects⟩ : ∃ sel, Selects selector n sel := by
      rcases names with ⟨rfl, first⟩ | rfl
      · exact ⟨.exact, .exact first last⟩
      · exact ⟨.next, .next last⟩
    exact refused_of_work takes rfl (totalsGet_noClosed selects released)
  · refine refused_of_work takes rfl ?_
    change withChecked s (checkTotalsGet a) _ = _
    rw [checkTotalsGet_eq_none outside]
    rfl

end Sys2Proof.Machine
end

section
/-!
PROOFS. The bells (chapter 9): the tables and the manual rings, how an output plays and serves, and the minute boundary event.
Obligations O49 to O51.
-/

namespace Sys2Proof.Machine

open Sys2Proof

/-! ### One output -/

section Output

variable {patterns : Table 16 Pattern} {o : BellOutput} {r : Ring} {c : CurrentRing}

theorem startRing_none_iff : startRing patterns r = none ↔ (patterns.get r.pattern).steps = [] := by
  unfold startRing
  dsimp only
  split
  · next empty => simp [empty]
  · next steps => simp [steps]

theorem startRing_isSome (steps : (patterns.get r.pattern).steps ≠ []) : ∃ c, startRing patterns r = some c ∧
    startsAs patterns r c := by
  obtain ⟨c, starts⟩ := Option.ne_none_iff_exists'.mp (mt startRing_none_iff.mp steps)
  exact ⟨c, starts, startRing_eq_some.mp starts⟩

/-- R157. -/
theorem BellOutput.merges_iff : o.merges r = true ↔ mergesWith o r := by
  have held : ((match o.current with
      | some c => c.ring.source == r.source
      | none => false) || o.waiting.any fun w => w.source == r.source) = true ↔
      (∃ c, o.current = some c ∧ c.ring.source = r.source) ∨ ∃ w ∈ o.waiting, w.source = r.source := by
    rw [Bool.or_eq_true, List.any_eq_true]
    cases o.current with
    | none => simp
    | some c => simp
  unfold BellOutput.merges mergesWith
  cases isSource : r.source with
  | manual => simp
  | evacuation => simp
  | entry n =>
    rw [isSource] at held
    exact held.trans (and_iff_right (.inl ⟨n, rfl⟩)).symm
  | door d =>
    rw [isSource] at held
    exact held.trans (and_iff_right (.inr ⟨d, rfl⟩)).symm

theorem joinWaiting_room {waiting : List Ring} (descending : waiting.Pairwise fun a b => b.priority ≤ a.priority)
    (room : waiting.length < 4) : joinWaiting r waiting = (placed r waiting, true) := by
  unfold joinWaiting
  rw [if_pos (by exact room), insertRing_eq_placed descending]

theorem joinWaiting_full {front : List Ring} {last : Ring}
    (descending : (front ++ [last]).Pairwise fun a b => b.priority ≤ a.priority) (full : 4 ≤ (front ++ [last]).length) :
    joinWaiting r (front ++ [last]) = if last.priority < r.priority then (placed r front, true)
      else (front ++ [last], false) := by
  have kept := descending.sublist (List.sublist_append_left front [last])
  unfold joinWaiting
  rw [if_neg (by exact Nat.not_lt.mpr full), List.getLast?_append, List.dropLast_concat, insertRing_eq_placed kept]
  rfl

theorem BellOutput.request_served_ring {battery : Bool} (passes : battery = false ∨ 3 ≤ r.priority) :
    o.request patterns battery r = o.serve patterns r := by
  unfold BellOutput.request
  rw [if_neg ?_]
  rw [Bool.and_eq_true, decide_eq_true_eq]
  rintro ⟨on, low⟩
  rcases passes with off | high
  · exact Bool.noConfusion (off.symm.trans on)
  · exact absurd low (not_lt.mpr high)

theorem BellOutput.serve_of_starts (starts : startRing patterns r = some c) (apart : ¬ mergesWith o r) :
    o.serve patterns r = match o.current with
      | none => ({ o with current := some c }, .started)
      | some cur => if cur.ring.priority < r.priority then ({ o with current := some c }, .started)
        else ({ o with waiting := (joinWaiting r o.waiting).1 },
          if (joinWaiting r o.waiting).2 then .queued else .dropped) := by
  unfold BellOutput.serve
  rw [starts]
  dsimp only
  refine (if_neg fun merges => apart (BellOutput.merges_iff.mp merges)).trans ?_
  cases o.current <;> rfl

/-- R157 to R160: a ring that cannot take over joins the waiting list or is dropped. -/
theorem BellOutput.serve_behind (starts : (patterns.get r.pattern).steps ≠ []) (apart : ¬ mergesWith o r)
    (busy : ∃ c, o.current = some c ∧ r.priority ≤ c.ring.priority) : o.serve patterns r =
      ({ o with waiting := (joinWaiting r o.waiting).1 }, if (joinWaiting r o.waiting).2 then .queued else .dropped) := by
  obtain ⟨started, starts, -⟩ := startRing_isSome starts
  obtain ⟨cur, current, atLeast⟩ := busy
  rw [BellOutput.serve_of_starts starts apart, current]
  exact if_neg (not_lt.mpr atLeast)

/-- R157 to R159, R166: what an output does with a request. -/
theorem BellOutput.request_served (descending : o.waiting.Pairwise fun a b => b.priority ≤ a.priority) (battery : Bool)
    (r : Ring) : Served patterns battery o r (o.request patterns battery r).1 (o.request patterns battery r).2 where
  suppressed on low := by
    have dropped : o.request patterns battery r = (o, .dropped) := by
      unfold BellOutput.request
      rw [if_pos (by rw [on, decide_eq_true low]; rfl)]
    rw [dropped]
    exact ⟨rfl, rfl⟩
  empty passes empty := by
    rw [BellOutput.request_served_ring passes]
    unfold BellOutput.serve
    rw [startRing_none_iff.mpr empty]
    exact ⟨rfl, rfl⟩
  merged passes steps merges := by
    obtain ⟨c, starts, -⟩ := startRing_isSome steps
    rw [BellOutput.request_served_ring passes]
    unfold BellOutput.serve
    rw [starts]
    dsimp only
    rw [if_pos (BellOutput.merges_iff.mpr merges)]
    exact ⟨rfl, rfl⟩
  started passes steps apart higher := by
    obtain ⟨c, starts, startsAs⟩ := startRing_isSome steps
    refine ⟨c, startsAs, ?_⟩
    rw [BellOutput.request_served_ring passes, BellOutput.serve_of_starts starts apart]
    cases current : o.current with
    | none => exact ⟨rfl, rfl⟩
    | some cur =>
      dsimp only
      rw [if_pos (higher cur current)]
      exact ⟨rfl, rfl⟩
  queued passes steps apart busy room := by
    rw [BellOutput.request_served_ring passes, BellOutput.serve_behind steps apart busy,
      joinWaiting_room descending room]
    exact ⟨rfl, rfl⟩
  full passes steps apart busy front last isWaiting isFull := by
    rw [isWaiting] at descending isFull
    rw [BellOutput.request_served_ring passes, BellOutput.serve_behind steps apart busy, isWaiting,
      joinWaiting_full descending isFull]
    refine ⟨fun lower => ?_, fun atLeast => ?_⟩
    · rw [if_pos lower]
      exact ⟨rfl, rfl⟩
    · rw [if_neg (not_lt.mpr atLeast), ← isWaiting]
      exact ⟨rfl, rfl⟩

/-! ### Rings that are ended -/

theorem startNext_goesOn (patterns : Table 16 Pattern) (waiting : List Ring) :
    goesOn patterns waiting (startNext patterns waiting) := by
  have skips : ∀ {w : Ring} {rest : List Ring}, (patterns.get w.pattern).steps = [] →
      startNext patterns (w :: rest) = startNext patterns rest := fun empty => by
    conv_lhs => unfold startNext
    rw [startRing_none_iff.mpr empty]
  constructor
  · intro allEmpty
    induction waiting with
    | nil => rfl
    | cons w rest ih =>
      rw [skips (allEmpty w List.mem_cons_self)]
      exact ih fun x mem => allEmpty x (List.mem_cons_of_mem w mem)
  · intro skipped w rest isWaiting empty steps
    subst isWaiting
    induction skipped with
    | nil =>
      obtain ⟨c, starts, startsAs⟩ := startRing_isSome steps
      refine ⟨c, startsAs, ?_⟩
      change startNext patterns (w :: rest) = _
      unfold startNext
      rw [starts]
    | cons first later ih =>
      rw [List.cons_append, skips (empty first List.mem_cons_self)]
      exact ih fun x mem => empty x (List.mem_cons_of_mem first mem)

theorem newRepetition_eq_none {left : Option Nat} (empty : (patterns.get c.ring.pattern).steps = []) :
    newRepetition patterns c left = none := by
  unfold newRepetition
  rw [empty]

theorem newRepetition_eq_some {left : Option Nat} {first : PatternStep} {rest : List PatternStep}
    (steps : (patterns.get c.ring.pattern).steps = first :: rest) : newRepetition patterns c left = some { c with
      repsLeft := left, steps := first :: rest, position := 1, phase := .on
      timer := Config.tensOfMs (10 * first.on) } := by
  unfold newRepetition
  rw [steps]
  unfold atStep
  rw [← patternTime_eq]

theorem advanceRing_lastStep (off : c.phase = .off) (last : c.position = c.steps.length) :
    advanceRing patterns c = repetitionEnd patterns c := by
  have past : c.steps[c.position]? = none := List.getElem?_eq_none (Nat.le_of_eq last.symm)
  unfold advanceRing
  rw [off]
  dsimp only
  rw [past]

theorem repetitionEnd_ends (ends : c.repsLeft = some 1 ∨ (c.repsLeft = none ∧ c.ending = true)
    ∨ (patterns.get c.ring.pattern).steps = []) : repetitionEnd patterns c = none := by
  unfold repetitionEnd
  rcases ends with one | ⟨endless, ending⟩ | empty
  · rw [one]
    rfl
  · rw [endless]
    exact if_pos ending
  · split
    · split
      · rfl
      · exact newRepetition_eq_none empty
    · split
      · rfl
      · exact newRepetition_eq_none empty

theorem repetitionEnd_repeats (again : (∃ n, c.repsLeft = some (n + 2)) ∨ (c.repsLeft = none ∧ c.ending = false)) :
    repetitionEnd patterns c = newRepetition patterns c (c.repsLeft.map (· - 1)) := by
  unfold repetitionEnd
  rcases again with ⟨n, left⟩ | ⟨endless, goesOn⟩
  · rw [left]
    exact if_neg (by omega)
  · rw [endless]
    exact if_neg (by rw [goesOn]; exact Bool.noConfusion)

/-- R151, R160: the phase timer of an output's ring runs out. -/
theorem BellOutput.phaseEnd_ended (current : o.current = some c) :
    PhaseEnded patterns o c (o.phaseEnd patterns) where
  on st isOn step := by
    have advances : advanceRing patterns c = some { c with phase := .off, timer := Config.tensOfMs (10 * st.off) } := by
      unfold advanceRing
      rw [isOn]
      dsimp only
      rw [step, ← patternTime_eq]
    unfold BellOutput.phaseEnd
    rw [current]
    dsimp only
    rw [advances]
  off st isOff step := by
    have advances : advanceRing patterns c = some { c with
        position := c.position + 1, phase := .on, timer := Config.tensOfMs (10 * st.on) } := by
      unfold advanceRing
      rw [isOff]
      dsimp only
      rw [step, ← patternTime_eq]
    unfold BellOutput.phaseEnd
    rw [current]
    dsimp only
    rw [advances]
  ends isOff last ends := by
    have advances : advanceRing patterns c = none :=
      (advanceRing_lastStep isOff last).trans (repetitionEnd_ends ends)
    unfold BellOutput.phaseEnd
    rw [current]
    dsimp only
    rw [advances]
    exact startNext_goesOn patterns o.waiting
  repeats first rest isOff last again steps := by
    have advances := (advanceRing_lastStep (patterns := patterns) isOff last).trans
      ((repetitionEnd_repeats again).trans (newRepetition_eq_some steps))
    unfold BellOutput.phaseEnd
    rw [current]
    dsimp only
    rw [advances]

/-! ### Evacuations and the supply -/

theorem BellOutput.evacuate_evacuating (current : o.current = some c) (evacuating : c.ring.source = .evacuation)
    (pattern : PatternId) :
    o.evacuate patterns pattern = { o with current := some { c with ending := false } } := by
  unfold BellOutput.evacuate
  rw [current]
  exact if_pos evacuating

theorem BellOutput.evacuate_other (other : ∀ c, o.current = some c → c.ring.source ≠ .evacuation) (pattern : PatternId) :
    ((patterns.get pattern).steps = [] → o.evacuate patterns pattern = o)
    ∧ ((patterns.get pattern).steps ≠ [] → ∃ c, startsAs patterns ⟨.evacuation, 3, pattern⟩ c
      ∧ o.evacuate patterns pattern = { o with current := some c }) := by
  have asks : o.evacuate patterns pattern = match startRing patterns ⟨.evacuation, 3, pattern⟩ with
      | none => o
      | some started => { o with current := some started } := by
    unfold BellOutput.evacuate
    cases current : o.current with
    | none => cases startRing patterns ⟨.evacuation, 3, pattern⟩ <;> rfl
    | some c =>
      dsimp only
      refine (if_neg (other c current)).trans ?_
      cases startRing patterns ⟨.evacuation, 3, pattern⟩ <;> rfl
  refine ⟨fun empty => ?_, fun steps => ?_⟩
  · rw [asks, startRing_none_iff.mpr empty]
  · obtain ⟨c, starts, startsAs⟩ := startRing_isSome (r := ⟨.evacuation, 3, pattern⟩) steps
    refine ⟨c, startsAs, ?_⟩
    rw [asks, starts]

theorem BellOutput.endEvacuation_evacuating (current : o.current = some c) (evacuating : c.ring.source = .evacuation) :
    o.endEvacuation = { o with current := some { c with ending := true } } := by
  unfold BellOutput.endEvacuation
  rw [current]
  exact if_pos evacuating

theorem BellOutput.endEvacuation_other (other : ∀ c, o.current = some c → c.ring.source ≠ .evacuation) :
    o.endEvacuation = o := by
  unfold BellOutput.endEvacuation
  split
  · next c current => exact if_neg (other c current)
  · rfl

theorem BellOutput.kept_eq (waiting : List Ring) : waiting.filter (fun w => decide (3 ≤ w.priority))
    = waiting.filter (fun w => decide (w.priority = 3)) :=
  List.filter_congr fun w _ => by
    rw [decide_eq_decide]
    have := w.priority.isLt
    constructor
    · intro high
      exact Fin.ext (by have : 3 ≤ w.priority.val := high; omega)
    · intro same
      rw [same]

theorem BellOutput.suppress_low (low : ∃ c, o.current = some c ∧ c.ring.priority < 3) : o.suppress patterns
    = startNext patterns (o.waiting.filter fun w => decide (w.priority = 3)) := by
  obtain ⟨c, current, low⟩ := low
  unfold BellOutput.suppress
  rw [current, ← BellOutput.kept_eq]
  exact if_pos low

theorem BellOutput.suppress_high (high : ∀ c, o.current = some c → c.ring.priority = 3) : o.suppress patterns
    = { o with waiting := o.waiting.filter fun w => decide (w.priority = 3) } := by
  unfold BellOutput.suppress
  rw [← BellOutput.kept_eq]
  cases current : o.current with
  | none => rfl
  | some c => exact if_neg (by rw [high c current]; decide)

end Output

/-- Settles O50: the outputs one by one. -/
theorem outputsPlayAndServeRings : Obligations.OutputsPlayAndServeRings := by
  unfold Obligations.OutputsPlayAndServeRings
  refine ⟨fun o c s notLow ok current => ⟨(s.blc.outputs.get o).phaseEnd s.blc.patterns,
      BellOutput.phaseEnd_ended current, ?_⟩, fun o s idle => ?_,
    fun b supply battery set r ok => ⟨_, rfl, fun o => ⟨fun member => ⟨((b.outputs.get o).request b.patterns battery r).2,
      ?_⟩, fun outside => ?_⟩⟩, fun b pattern => ⟨_, rfl, fun o => ⟨fun c current evacuating => ?_, fun other => ?_⟩⟩,
    fun b => ⟨_, rfl, fun o => ⟨fun c current evacuating => ?_, fun other => ?_⟩⟩,
    fun b => ⟨_, rfl, fun o kept isKept => ⟨fun low => ?_, fun high => ?_⟩⟩,
    fun s => ⟨fun o => ?_, ?_, ?_, ?_⟩⟩
  · exact if_neg (mt (State.isLow_iff s).mp notLow)
  · by_cases low : s.isLow = true
    · exact if_pos low
    · have none := idle.resolve_left (mt (State.isLow_iff s).mpr low)
      have same : (s.blc.outputs.get o).phaseEnd s.blc.patterns = s.blc.outputs.get o := by
        unfold BellOutput.phaseEnd
        rw [none]
      have table : s.blc.outputs.modify o (BellOutput.phaseEnd s.blc.patterns) = s.blc.outputs :=
        Table.ext_get _ _ fun j => by
          by_cases own : o = j
          · rw [← own, Table.get_modify_self, same]
          · exact Table.get_modify_of_ne _ _ _ _ own
      change execPhaseTimerExpiry o s = _
      unfold execPhaseTimerExpiry
      rw [if_neg low, table]
      rfl
  · rw [Table.get_mapRows, if_pos member]
    exact BellOutput.request_served (ok o).waits.order battery r
  · rw [Table.get_mapRows, outside]
    rfl
  · rw [Table.get_map, BellOutput.evacuate_evacuating current evacuating]
  · rw [Table.get_map]
    exact BellOutput.evacuate_other other pattern
  · rw [Table.get_map, BellOutput.endEvacuation_evacuating current evacuating]
  · rw [Table.get_map, BellOutput.endEvacuation_other other]
  · rw [Table.get_map, BellOutput.suppress_low low, isKept]
    exact startNext_goesOn _ _
  · rw [Table.get_map, BellOutput.suppress_high high, isKept]
  · exact Table.get_fill _ _
  · have blc := (TouchesStore.supplyReport (s.withTbu s.tbu.toLow) .lowBattery none).blc
    have entries := congrArg Blc.entries blc
    exact entries
  · have blc := (TouchesStore.supplyReport (s.withTbu s.tbu.toLow) .lowBattery none).blc
    have patterns := congrArg Blc.patterns blc
    exact patterns
  · unfold State.warmBells
    by_cases evacuation : s.accepted evacuationInput = true
    · rw [if_pos evacuation]
      exact (if_pos evacuation).symm
    · rw [if_neg evacuation]
      exact (if_neg evacuation).symm

/-! ### The bell tables -/

section Tables

variable {s : State}

/-- R149: an entry before it is armed by its put. -/
theorem ofCode_flag (b : Bool) : ofCode [false, true] (if b then 1 else 0) = some b := by
  cases b <;> rfl

theorem ofCode_flag_inverse {k : Nat} {b : Bool} (h : ofCode [false, true] k = some b) : k = if b then 1 else 0 := by
  have small : k < 2 := ofCode_length h
  obtain rfl | rfl : k = 0 ∨ k = 1 := by omega
  · cases h; rfl
  · cases h; rfl

theorem ofCode_edgeCode (e : BellEdge) : ofCode bellEdges (edgeCode e) = some e := by
  cases e with
  | start => rfl
  | stop => rfl
  | breakStart k => revert k; decide
  | breakEnd k => revert k; decide

theorem ofCode_edgeCode_inverse {k : Nat} {e : BellEdge} (h : ofCode bellEdges k = some e) : k = edgeCode e := by
  have inverse : ∀ i : Fin 8, ∃ e, ofCode bellEdges i = some e ∧ i.val = edgeCode e := by
    intro i
    fin_cases i
    · exact ⟨.start, rfl, rfl⟩
    · exact ⟨.stop, rfl, rfl⟩
    · exact ⟨.breakStart 0, rfl, rfl⟩
    · exact ⟨.breakEnd 0, rfl, rfl⟩
    · exact ⟨.breakStart 1, rfl, rfl⟩
    · exact ⟨.breakEnd 1, rfl, rfl⟩
    · exact ⟨.breakStart 2, rfl, rfl⟩
    · exact ⟨.breakEnd 2, rfl, rfl⟩
  obtain ⟨e', isEdge, code⟩ := inverse ⟨k, ofCode_length h⟩
  cases isEdge.symm.trans h
  exact code

theorem outputs?_toNat {set : OutputSet} (some_ : set ≠ 0) : outputs? set.toNat = some set := by
  have positive : 1 ≤ set.toNat := Nat.one_le_iff_ne_zero.mpr fun zero => some_ (BitVec.eq_of_toNat_eq zero)
  have below : set.toNat < 256 := set.isLt
  unfold outputs?
  rw [if_pos ⟨positive, below⟩, BitVec.ofNat_toNat, BitVec.setWidth_eq]

theorem outputs?_inverse {bits : Nat} {set : OutputSet} (h : outputs? bits = some set) : bits = set.toNat ∧ set ≠ 0 := by
  unfold outputs? at h
  split at h
  · next range =>
    cases h
    have value : (BitVec.ofNat 8 bits).toNat = bits := by
      rw [BitVec.toNat_ofNat]
      exact Nat.mod_eq_of_lt range.2
    refine ⟨value.symm, fun zero => ?_⟩
    rw [zero] at value
    have zero : bits = 0 := value.symm
    omega
  · cases h

theorem outputs?_eq_none {bits : Nat} (outside : bits = 0 ∨ 255 < bits) : outputs? bits = none :=
  if_neg fun range => by omega

/-- R149: the trigger that the fields of an entry carry. -/
theorem bellTrigger?_eq_some {a : BellPutArgs} {t : BellTrigger} : bellTrigger? a = some t ↔ match t with
    | .fixed minute weekdays => a.kind = 0 ∧ a.minute = minute ∧ minute ≤ 1439 ∧ a.weekdays = weekdays.toNat
    | .shift crew edge offset => a.kind = 1 ∧ a.crew = crew ∧ a.edge = edgeCode edge ∧ a.offset = offset
        ∧ -60 ≤ offset ∧ offset ≤ 60 := by
  constructor
  · intro h
    unfold bellTrigger? at h
    split at h
    · next fixed =>
      split at h
      · next range =>
        cases h
        refine ⟨fixed, rfl, range.1, ?_⟩
        rw [BitVec.toNat_ofNat]
        exact (Nat.mod_eq_of_lt range.2).symm
      · cases h
    · next shift =>
      simp only [Option.bind_eq_bind, Option.bind_eq_some_iff] at h
      obtain ⟨crew, isCrew, edge, isEdge, h⟩ := h
      split at h
      · next range =>
        cases h
        exact ⟨shift, toFin?_eq_some isCrew, ofCode_edgeCode_inverse isEdge, rfl, range⟩
      · cases h
    · cases h
  · intro h
    unfold bellTrigger?
    cases t with
    | fixed minute weekdays =>
      obtain ⟨kind, isMinute, range, days⟩ := h
      rw [kind, isMinute, days]
      refine (if_pos ⟨range, weekdays.isLt⟩).trans ?_
      rw [BitVec.ofNat_toNat, BitVec.setWidth_eq]
    | shift crew edge offset =>
      obtain ⟨kind, isCrew, isEdge, isOffset, range⟩ := h
      rw [kind, isCrew, isEdge, isOffset]
      rw [toFin?_val, ofCode_edgeCode]
      exact if_pos range

theorem checkBellPut_fields {a : BellPutArgs} {n : BellId} {e : BellEntry} (carries : carriesEntry a n e) :
    checkBellPut a = some (n, some { e with armed := true, lastRung := none }) := by
  obtain ⟨isEntry, defined, skip, outputs, some_, pattern, priority, oneShot, trigger⟩ := carries
  have isTrigger : bellTrigger? a = some e.trigger := by
    rw [bellTrigger?_eq_some]
    cases isTrigger : e.trigger with
    | fixed minute weekdays => rw [isTrigger] at trigger; exact trigger
    | shift crew edge offset => rw [isTrigger] at trigger; exact trigger
  unfold checkBellPut
  rw [isEntry, defined, skip, outputs, pattern, priority, oneShot, isTrigger, toFin?_val, ofCode_flag, ofCode_flag,
    outputs?_toNat some_, toFin?_val, toFin?_val]
  rfl

theorem checkBellPut_absent {a : BellPutArgs} {n : BellId} (isEntry : a.entry = n) (undefined : a.defined = 0) :
    checkBellPut a = some (n, none) := by
  unfold checkBellPut
  rw [isEntry, undefined, toFin?_val]
  rfl

theorem checkBellPut_eq_none {a : BellPutArgs} (outside : 95 < a.entry ∨ a.defined ≠ 0)
    (unfit : ∀ n e, ¬ carriesEntry a n e) : checkBellPut a = none := by
  rw [Option.eq_none_iff_forall_ne_some]
  intro v checked
  unfold checkBellPut at checked
  simp only [Option.bind_eq_bind, Option.bind_eq_some_iff] at checked
  obtain ⟨n, isEntry, defined, isDefined, checked⟩ := checked
  have flag := yesNo_inverse isDefined
  have entryRange := toFin?_lt isEntry
  split at checked
  · next one =>
    rw [one] at flag
    simp only [Option.bind_eq_some_iff] at checked
    obtain ⟨trigger, isTrigger, skip, isSkip, outputs, isOutputs, pattern, isPattern, priority, isPriority, oneShot,
      isOneShot, -⟩ := checked
    obtain ⟨bits, some_⟩ := outputs?_inverse isOutputs
    refine unfit n ⟨trigger, skip, outputs, pattern, priority, oneShot, true, none⟩ ⟨toFin?_eq_some isEntry, flag,
      ofCode_flag_inverse isSkip, bits, some_, toFin?_eq_some isPattern, toFin?_eq_some isPriority,
      ofCode_flag_inverse isOneShot, ?_⟩
    have carried := bellTrigger?_eq_some.mp isTrigger
    cases trigger <;> exact carried
  · next zero =>
    rw [if_neg zero] at flag
    exact outside.elim (fun high => by omega) fun other => other flag

theorem bellPut_work {a : BellPutArgs} {n : BellId} {e : Option BellEntry} (checked : checkBellPut a = some (n, e)) :
    commandWork s (.bellPut (.fields a))
      = done (entrySet s n (e.map fun d => { d with lastRung := keptRung (s.blc.entries.get n) })) .none := by
  change withChecked s (checkBellPut a) _ = _
  rw [checked]
  rfl

/-- R150, R185: the fields of a step. -/
def stepFields (st : PatternStep) : StepArgs := ⟨st.on, st.off⟩

theorem checkStep_inverse (a : StepArgs) (st : PatternStep) (h : checkStep a = some st) : a = stepFields st := by
  unfold checkStep at h
  split at h
  · cases h
    rfl
  · cases h

theorem checkPatternPut_fields {n : PatternId} {p : Pattern} (inRange : patternInRange p) :
    checkPatternPut (patternFields n p) = some (n, p) := by
  obtain ⟨few, again, steps⟩ := inRange
  have isPattern : toFin? 16 (patternFields n p).pattern = some n := toFin?_val n
  have mapped : (patternFields n p).steps.mapM checkStep = some p.steps :=
    mapM_map_some (g := stepFields) fun st mem => if_pos (steps st mem)
  unfold checkPatternPut
  rw [isPattern, mapped]
  exact if_pos ⟨few, again⟩

theorem checkPatternPut_eq_none {a : PatternPutArgs} (unfit : ∀ n p, patternInRange p → a ≠ patternFields n p) :
    checkPatternPut a = none := by
  rw [Option.eq_none_iff_forall_ne_some]
  intro v checked
  simp only [checkPatternPut, Option.bind_eq_bind, Option.bind_eq_some_iff] at checked
  obtain ⟨n, isPattern, steps, isSteps, checked⟩ := checked
  split at checked
  · next range =>
    have mapped := map_of_mapM checkStep_inverse isSteps
    have pattern := toFin?_eq_some isPattern
    refine unfit n ⟨steps, a.repeats⟩ ⟨range.1, range.2, fun st mem => ?_⟩ ?_
    · obtain ⟨x, -, isStep⟩ := mem_of_mapM isSteps mem
      unfold checkStep at isStep
      split at isStep
      · next range => cases isStep; exact range
      · cases isStep
    · obtain ⟨pattern', steps', repeats⟩ := a
      dsimp only at mapped pattern
      rw [mapped, pattern]
      rfl
  · cases checked

end Tables

/-! ### Manual rings -/

section Manual

variable {s : State}

theorem bellRing_work {set : OutputSet} (some_ : set ≠ 0) (pattern : PatternId) (priority : Fin 4) :
    commandWork s (.bellRing (.fields ⟨set.toNat, pattern, priority⟩))
      = done (s.withBlc (s.blc.requestAll (decide (s.tbu.supply = .battery)) set ⟨.manual, priority, pattern⟩))
          (.bellRing (s.blc.fates (decide (s.tbu.supply = .battery)) set ⟨.manual, priority, pattern⟩)) := by
  have checked : checkBellRing ⟨set.toNat, pattern, priority⟩ = some (set, ⟨.manual, priority, pattern⟩) := by
    unfold checkBellRing
    dsimp only
    rw [outputs?_toNat some_, toFin?_val, toFin?_val]
    rfl
  change withChecked s (checkBellRing _) _ = _
  rw [checked, ← s.onBattery_eq]
  rfl

theorem checkBellRing_eq_none {a : BellRingArgs} (outside : a.outputs = 0 ∨ 255 < a.outputs ∨ 15 < a.pattern
    ∨ 3 < a.priority) : checkBellRing a = none := by
  rw [Option.eq_none_iff_forall_ne_some]
  intro v checked
  simp only [checkBellRing, Option.bind_eq_bind, Option.bind_eq_some_iff] at checked
  obtain ⟨set, isSet, pattern, isPattern, priority, isPriority, -⟩ := checked
  have patternRange := toFin?_lt isPattern
  have priorityRange := toFin?_lt isPriority
  rcases outside with zero | high | pattern | priority
  · exact nomatch (outputs?_eq_none (.inl zero)).symm.trans isSet
  · exact nomatch (outputs?_eq_none (.inr high)).symm.trans isSet
  · omega
  · omega

theorem bellStop_work {set : OutputSet} (some_ : set ≠ 0) : commandWork s (.bellStop (.fields set.toNat))
    = done (s.withBlc (s.blc.stopOutputs set)) (.bellStop (s.blc.found set)) := by
  change withChecked s (outputs? set.toNat) _ = _
  rw [outputs?_toNat some_]
  rfl

theorem map_members_fst {α : Type} (set : OutputSet) (f : OutputId → α) :
    ((members set).map fun i => (i, f i)).map (fun x => x.1) = members set := by
  rw [List.map_map]
  exact List.map_id _

theorem mem_map_members_fst {α : Type} (set : OutputSet) (f : OutputId → α) (o : Nat) :
    o ∈ ((members set).map fun i => (i, f i)).map (fun x => (x.1 : Nat)) ↔ inSet set o = true := by
  rw [List.map_map, List.mem_map]
  constructor
  · rintro ⟨i, member, rfl⟩
    exact (mem_members set i).mp member
  · intro member
    have below : o < 8 := by
      by_contra high
      rw [inSet, BitVec.getLsbD_of_ge _ _ (Nat.le_of_not_lt high)] at member
      exact Bool.noConfusion member
    exact ⟨⟨o, below⟩, (mem_members set ⟨o, below⟩).mpr member, rfl⟩

end Manual

/-- Settles O49: the work of the seven commands. -/
theorem bellTableAndManualRingCommands : Obligations.BellTableAndManualRingCommands := by
  unfold Obligations.BellTableAndManualRingCommands
  refine ⟨fun a n e last s takes carries kept new => ?_, fun a n s takes isEntry undefined => ?_,
    fun a s takes outside unfit => ?_, fun n s takes => ⟨?_, fun held => ?_, fun free => ?_⟩,
    fun n p s takes inRange => ?_, fun a s takes unfit => ?_, fun n s takes => ?_,
    fun n s takes => ⟨fun outside => ⟨?_, ?_⟩, fun outside => ?_, fun outside => ?_⟩,
    fun set pattern priority s takes ok some_ => ⟨_, _, carried_of_work takes rfl (bellRing_work some_ pattern priority),
      ?_, fun o => ?_, fun o fate mem => ?_, fun o outside => ?_⟩,
    fun a s takes outside => ?_, fun set s takes some_ => ⟨_, _, carried_of_work takes rfl (bellStop_work some_), ?_,
      fun o => ?_, fun o current waiting mem => ?_, fun o outside => ?_⟩⟩
  · have rung : keptRung (s.blc.entries.get n) = last := by
      cases isEntry : s.blc.entries.get n with
      | none => exact (new isEntry).symm
      | some before => exact (kept before isEntry).symm
    refine carried_of_work takes rfl ?_
    rw [bellPut_work (checkBellPut_fields carries), rung]
    rfl
  · refine carried_of_work takes rfl ?_
    rw [bellPut_work (checkBellPut_absent isEntry undefined)]
    rfl
  · refine refused_of_work takes rfl ?_
    change withChecked s (checkBellPut a) _ = _
    rw [checkBellPut_eq_none outside unfit]
    rfl
  · refine carried_of_work takes rfl ?_
    change withChecked s (toFin? 96 n.val) _ = _
    rw [toFin?_val]
    rfl
  · refine carried_of_work takes rfl ?_
    change withChecked s (toFin? 96 n.val) _ = _
    rw [toFin?_val]
    exact if_pos (Option.isSome_iff_ne_none.mpr held)
  · refine refused_of_work takes rfl ?_
    change withChecked s (toFin? 96 n.val) _ = _
    rw [toFin?_val]
    exact if_neg (by rw [free]; exact Bool.noConfusion)
  · refine carried_of_work takes rfl ?_
    change withChecked s (checkPatternPut _) _ = _
    rw [checkPatternPut_fields inRange]
    rfl
  · refine refused_of_work takes rfl ?_
    change withChecked s (checkPatternPut a) _ = _
    rw [checkPatternPut_eq_none unfit]
    rfl
  · refine carried_of_work takes rfl ?_
    change withChecked s (toFin? 16 n.val) _ = _
    rw [toFin?_val]
    rfl
  · refine refused_of_work takes rfl ?_
    change withChecked s (toFin? 96 n) _ = _
    rw [toFin?_eq_none_iff.mpr outside]
    rfl
  · refine refused_of_work takes rfl ?_
    change withChecked s (toFin? 96 n) _ = _
    rw [toFin?_eq_none_iff.mpr outside]
    rfl
  · refine refused_of_work takes rfl ?_
    change withChecked s (toFin? 16 n) _ = _
    rw [toFin?_eq_none_iff.mpr outside]
    rfl
  · refine refused_of_work takes rfl ?_
    change withChecked s (outputs? n) _ = _
    rw [outputs?_eq_none outside]
    rfl
  · unfold Blc.fates
    rw [map_members_fst]
    exact members_pairwise set
  · exact mem_map_members_fst set _ o
  · obtain ⟨i, member, same⟩ := List.mem_map.mp mem
    cases same
    rw [Table.get_mapRows, if_pos ((mem_members set _).mp member)]
    exact BellOutput.request_served (ok _).waits.order _ _
  · rw [Table.get_mapRows, outside]
    rfl
  · refine refused_of_work takes rfl ?_
    change withChecked s (checkBellRing a) _ = _
    rw [checkBellRing_eq_none outside]
    rfl
  · unfold Blc.found
    rw [map_members_fst]
    exact members_pairwise set
  · exact mem_map_members_fst set _ o
  · obtain ⟨i, member, same⟩ := List.mem_map.mp mem
    cases same
    refine ⟨?_, rfl, rfl⟩
    rw [Table.get_mapRows, if_pos ((mem_members set _).mp member)]
    rfl
  · rw [Table.get_mapRows, outside]
    rfl

end Sys2Proof.Machine
end

section
/-!
PROOFS. The minute boundary event: due entries, the minutes it evaluates, and its reactions (9.3, 9.4, 1.6). The obligation
O51.
-/

namespace Sys2Proof.Machine

open Sys2Proof

/-! ### Due entries -/

section Due

variable {p : Sps} {e : BellEntry} {m : Nat}

theorem edgeMinute_eq_some {i : ShiftInstance} {edge : BellEdge} {at' : Nat} :
    edgeMinute i edge = some at' ↔ edgeAt i edge at' := by
  unfold edgeMinute edgeAt
  cases edge with
  | start => exact Option.some_inj.trans eq_comm
  | stop => exact Option.some_inj.trans eq_comm
  | breakStart k =>
    rw [Option.map_eq_some_iff]
    exact exists_congr fun b => and_congr_right fun _ => eq_comm
  | breakEnd k =>
    rw [Option.map_eq_some_iff]
    exact exists_congr fun b => and_congr_right fun _ => eq_comm

theorem instanceDue_iff {i : ShiftInstance} {edge : BellEdge} {offset : Int} {skip : Bool} :
    instanceDue i edge offset skip m = true ↔
      ∃ at', edgeAt i edge at' ∧ (at' : Int) + offset = m ∧ (skip = true → i.holiday = false) := by
  have skips : (!skip || !i.holiday) = true ↔ (skip = true → i.holiday = false) := by
    cases skip <;> cases i.holiday <;> decide
  unfold instanceDue
  cases isEdge : edgeMinute i edge with
  | none =>
    refine iff_of_false Bool.false_ne_true fun ⟨at', isAt, _⟩ => ?_
    exact nomatch isEdge.symm.trans (edgeMinute_eq_some.mpr isAt)
  | some edgeMinute_ =>
    dsimp only
    rw [Bool.and_eq_true, decide_eq_true_eq, skips]
    constructor
    · exact fun due => ⟨edgeMinute_, edgeMinute_eq_some.mp isEdge, due⟩
    · rintro ⟨at', isAt, due⟩
      cases isEdge.symm.trans (edgeMinute_eq_some.mpr isAt)
      exact due

/-- R153, R154. -/
theorem BellEntry.due_iff : e.due p m = true ↔ dueAt p e m := by
  unfold BellEntry.due dueAt
  cases e.trigger with
  | fixed minute weekdays =>
    have skips : (!e.skipHolidays || !p.isHoliday (dayOf m)) = true ↔ (e.skipHolidays = true → m / 1440 ∉ p.holidays) := by
      have listed : p.isHoliday (dayOf m) = true ↔ m / 1440 ∈ p.holidays := by
        unfold Sps.isHoliday dayOf
        simp
      rw [Bool.or_eq_true, Bool.not_eq_true', Bool.not_eq_true', ← listed, ← Bool.not_eq_true, ← Bool.not_eq_true]
      exact imp_iff_not_or.symm
    unfold fixedDue
    dsimp only
    rw [Bool.and_eq_true, Bool.and_eq_true, skips, beq_iff_eq, and_assoc]
    exact Iff.rfl
  | shift crew edge offset =>
    dsimp only
    rw [List.any_eq_true]
    unfold Sps.nearInstances
    constructor
    · rintro ⟨i, mem, due⟩
      obtain ⟨day, near, isInstance_⟩ := List.mem_filterMap.mp mem
      obtain ⟨at', isAt, sum, skips⟩ := instanceDue_iff.mp due
      exact ⟨day, i, at', (mem_nearDays_iff day m).mp near, (Sps.crewInstance_iff_isInstance ..).mp isInstance_, isAt,
        sum, skips⟩
    · rintro ⟨day, i, at', near, isInstance_, isAt, sum, skips⟩
      exact ⟨i, List.mem_filterMap.mpr ⟨day, (mem_nearDays_iff day m).mpr near,
        (Sps.crewInstance_iff_isInstance ..).mpr isInstance_⟩, instanceDue_iff.mpr ⟨at', isAt, sum, skips⟩⟩

/-- R152, R155. -/
theorem BellEntry.rings_iff : e.rings p m = true ↔ ringsAt p e m := by
  have held : (!e.heldBack m) = true ↔ ∀ l, e.lastRung = some l → l < m := by
    unfold BellEntry.heldBack
    cases e.lastRung with
    | none => simp
    | some l => simp
  unfold BellEntry.rings ringsAt
  rw [Bool.and_eq_true, Bool.and_eq_true, BellEntry.due_iff, held, and_assoc]

end Due

/-! ### One minute evaluated -/

section Evaluation

variable {p : Sps} {battery : Bool} {m : Nat} {b : Blc}

/-- R152: the entries of `l` that ring at `m`. -/
def Blc.ringing (p : Sps) (m : Nat) (b : Blc) (l : List BellId) : List BellId :=
  l.filter fun n => match b.entries.get n with
    | some e => e.rings p m
    | none => false

/-- R152: an entry that has rung at `m`. -/
def BellEntry.rung (e : BellEntry) (m : Nat) : BellEntry := { e with lastRung := some m, armed := !e.oneShot }

/-- R152: the request of an entry to one output. -/
def Blc.ask (b : Blc) (battery : Bool) (o : OutputId) (out : BellOutput) (n : BellId) : BellOutput :=
  match b.entries.get n with
  | some e => if inSet e.outputs o then (out.request b.patterns battery ⟨.entry n, e.priority, e.pattern⟩).1 else out
  | none => out

theorem Blc.mem_ringing {l : List BellId} {n : BellId} : n ∈ b.ringing p m l ↔
    n ∈ l ∧ ∃ e, b.entries.get n = some e ∧ ringsAt p e m := by
  unfold Blc.ringing
  rw [List.mem_filter]
  refine and_congr_right fun _ => ?_
  cases b.entries.get n with
  | none => simp
  | some e => simp [BellEntry.rings_iff]

/-- R152: an entry that does not ring is left alone. -/
theorem Blc.evaluateEntry_skips {n : BellId} (silent : ∀ e, b.entries.get n = some e → e.rings p m = false) :
    Blc.evaluateEntry p battery m b n = b := by
  unfold Blc.evaluateEntry
  split
  · rfl
  · next e isEntry => exact if_neg (by rw [silent e isEntry]; exact Bool.noConfusion)

theorem Blc.evaluateEntry_rings {n : BellId} {e : BellEntry} (isEntry : b.entries.get n = some e)
    (rings : e.rings p m = true) : Blc.evaluateEntry p battery m b n
      = { b with
          entries := b.entries.set n (some (e.rung m))
          outputs := b.outputs.mapRows fun o out => b.ask battery o out n } := by
  have asks : (fun o out => b.ask battery o out n) = fun (o : OutputId) out => if inSet e.outputs o
      then (BellOutput.request b.patterns battery out ⟨.entry n, e.priority, e.pattern⟩).1 else out := by
    funext o out
    unfold Blc.ask
    rw [isEntry]
  unfold Blc.evaluateEntry
  rw [isEntry, asks]
  exact if_pos rings

/-- What the evaluation of the entries of `l` at a minute leaves. -/
structure Evaluated (p : Sps) (battery : Bool) (m : Nat) (l : List BellId) (b b' : Blc) : Prop where
  patterns : b'.patterns = b.patterns
  kept : ∀ n, n ∉ b.ringing p m l → b'.entries.get n = b.entries.get n
  rung : ∀ n e, n ∈ b.ringing p m l → b.entries.get n = some e → b'.entries.get n = some (e.rung m)
  outputs : ∀ o : OutputId, b'.outputs.get o = (b.ringing p m l).foldl (b.ask battery o) (b.outputs.get o)

theorem Blc.ringing_congr {b' : Blc} {l : List BellId} (same : ∀ n ∈ l, b'.entries.get n = b.entries.get n) :
    b'.ringing p m l = b.ringing p m l := by
  unfold Blc.ringing
  exact List.filter_congr fun n mem => by rw [same n mem]

theorem Blc.evaluate_evaluated {l : List BellId} (distinct : l.Nodup) (b : Blc) :
    Evaluated p battery m l b (l.foldl (Blc.evaluateEntry p battery m) b) := by
  induction l generalizing b with
  | nil => exact ⟨rfl, fun _ _ => rfl, fun n e mem => absurd mem List.not_mem_nil, fun _ => rfl⟩
  | cons n rest ih =>
    obtain ⟨notLater, distinctRest⟩ := List.nodup_cons.mp distinct
    rw [List.foldl_cons]
    by_cases rings : ∃ e, b.entries.get n = some e ∧ e.rings p m = true
    · obtain ⟨e, isEntry, rings⟩ := rings
      have step := Blc.evaluateEntry_rings (battery := battery) isEntry rings
      have after := ih distinctRest (Blc.evaluateEntry p battery m b n)
      have others : ∀ k ≠ n, (Blc.evaluateEntry p battery m b n).entries.get k = b.entries.get k := fun k other => by
        rw [step]
        exact Table.get_set_of_ne _ _ _ _ (Ne.symm other)
      have own : (Blc.evaluateEntry p battery m b n).entries.get n = some (e.rung m) := by
        rw [step]
        exact Table.get_set_self _ _ _
      have later : (Blc.evaluateEntry p battery m b n).ringing p m rest = b.ringing p m rest :=
        Blc.ringing_congr fun k mem => others k fun same => notLater (same ▸ mem)
      have all : b.ringing p m (n :: rest) = n :: b.ringing p m rest := by
        unfold Blc.ringing
        exact List.filter_cons_of_pos (by rw [isEntry]; exact rings)
      have notAgain : n ∉ b.ringing p m rest := fun mem => notLater (Blc.mem_ringing.mp mem).1
      refine ⟨after.patterns.trans (by rw [step]), fun k absent => ?_, fun k e' mem isEntry' => ?_, fun o => ?_⟩
      · rw [all] at absent
        have other : k ≠ n := fun same => absent (same ▸ List.mem_cons_self)
        rw [after.kept k (by rw [later]; exact fun mem => absent (List.mem_cons_of_mem n mem)), others k other]
      · rw [all] at mem
        rcases List.mem_cons.mp mem with rfl | inRest
        · cases isEntry.symm.trans isEntry'
          rw [after.kept k (by rw [later]; exact notAgain), own]
        · have other : k ≠ n := fun same => notAgain (same ▸ inRest)
          exact after.rung k e' (by rw [later]; exact inRest) ((others k other).trans isEntry')
      · rw [after.outputs o, later, all, List.foldl_cons]
        have asked : (Blc.evaluateEntry p battery m b n).outputs.get o = b.ask battery o (b.outputs.get o) n := by
          rw [step]
          exact Table.get_mapRows _ _ _
        rw [asked]
        refine List.foldl_ext _ _ _ fun out k mem => ?_
        have other : k ≠ n := fun same => notAgain (same ▸ mem)
        unfold Blc.ask
        rw [others k other, step]
    · have silent : ∀ e, b.entries.get n = some e → e.rings p m = false := fun e isEntry => by
        rw [← Bool.not_eq_true]
        exact fun isRinging => rings ⟨e, isEntry, isRinging⟩
      have all : b.ringing p m (n :: rest) = b.ringing p m rest := by
        unfold Blc.ringing
        refine List.filter_cons_of_neg ?_
        cases isEntry : b.entries.get n with
        | none => exact Bool.false_ne_true
        | some e => exact fun isRinging => rings ⟨e, isEntry, isRinging⟩
      rw [Blc.evaluateEntry_skips silent]
      obtain ⟨patterns, kept, rung, outputs⟩ := ih distinctRest b
      rw [← all] at kept rung
      exact ⟨patterns, kept, rung, fun o => by rw [outputs o, all]⟩

end Evaluation

/-! ### The minutes of an event -/

section Minutes

variable {s : State} {e : MinuteEvent}

/-- R152, R156: the minutes evaluated, ascending: those of a catch-up within the limit, and the new one. -/
theorem minutesToEvaluate_spec (limit new : Nat) (old : Option (Nat × Int)) :
    (minutesToEvaluate limit new old).Pairwise (· < ·) ∧ ∀ m, m ∈ minutesToEvaluate limit new old ↔
      m = new ∨ ∃ before step, old = some (before, step) ∧ step ≤ limit ∧ before < m ∧ m ≤ new := by
  cases old with
  | none => exact ⟨List.pairwise_singleton _ _, fun m => by simp [minutesToEvaluate]⟩
  | some both =>
    obtain ⟨before, step⟩ := both
    unfold minutesToEvaluate
    dsimp only
    split
    · next small =>
      refine ⟨List.pairwise_append.mpr ⟨List.pairwise_lt_range', List.pairwise_singleton _ _, fun a mem b last => ?_⟩,
        fun m => ?_⟩
      · obtain ⟨low, high⟩ := List.mem_range'_1.mp mem
        rw [List.mem_singleton.mp last]
        omega
      · rw [List.mem_append, List.mem_range'_1, List.mem_singleton]
        constructor
        · rintro (⟨low, high⟩ | same)
          · exact .inr ⟨before, step, rfl, small, by omega, by omega⟩
          · exact .inl same
        · rintro (same | ⟨before', step', same, -, low, high⟩)
          · exact .inr same
          · cases same
            omega
    · next large =>
      refine ⟨List.pairwise_singleton _ _, fun m => ?_⟩
      rw [List.mem_singleton]
      refine ⟨.inl, fun h => h.resolve_right ?_⟩
      rintro ⟨before', step', same, small, -⟩
      cases same
      exact large small

/-- R12: the minutes at which an event evaluates the bell entries, none while the calendar is INVALID. -/
def State.minutesOf (s : State) (e : MinuteEvent) : List Nat :=
  if s.tbu.calendarValid then minutesToEvaluate s.olc.settings.catchUpLimit e.minute e.old else []

/-- R12: the state after the TBU and the bells took an event. -/
def State.rung (s : State) (e : MinuteEvent) : State :=
  (s.withTbu (s.tbu.minuteEvent e)).withBlc ((s.minutesOf e).foldl
    (fun b m => b.evaluateMinute s.sps (decide (s.tbu.supply = .battery)) m) s.blc)

theorem State.bellMinute_eq (s : State) (e : MinuteEvent) : (s.withTbu (s.tbu.minuteEvent e)).bellMinute e = s.rung e := by
  have battery : (s.withTbu (s.tbu.minuteEvent e)).onBattery = decide (s.tbu.supply = .battery) :=
    State.onBattery_eq _
  unfold State.bellMinute State.rung State.minutesOf
  rw [battery]
  by_cases valid : s.tbu.calendarValid = true
  · rw [if_pos (by exact valid), if_pos valid]
    rfl
  · rw [if_neg (by exact valid), if_neg valid]
    rfl

theorem State.payAndDoors_order (s : State) (now : Nat) : (∃ n,
    s.payAndDoors now = ((s.withDraws n).autoClose now).resolveAll
      ∨ (s.pev.passages ≠ [] ∧ s.payAndDoors now = (s.withDraws n).resolveAll.autoClose now)) := by
  unfold State.payAndDoors
  split
  · exact ⟨s.draws, .inl rfl⟩
  · next pending =>
    have pending : s.pev.passages ≠ [] := fun none => pending (List.isEmpty_iff.mpr none)
    split
    · exact ⟨_, .inl rfl⟩
    · exact ⟨_, .inr ⟨pending, rfl⟩⟩

/-- R86: an unconfigured door has nothing to resolve. -/
theorem State.resolveAll_eq (s : State) : s.resolveAll = s.configuredDoors.foldl State.resolveDoor s := by
  have skips : ∀ (l : List DoorId) (t : State), (∀ d, (t.drc.doors.get d).isSome = (s.drc.doors.get d).isSome) →
      l.foldl State.resolveDoor t
        = (l.filter fun d => (s.drc.doors.get d).isSome).foldl State.resolveDoor t := fun l => by
    induction l with
    | nil => exact fun _ _ => rfl
    | cons d rest ih =>
      intro t same
      have next_ := ih (t.resolveDoor d) fun e => (KeepsConfigured.resolveDoor t d e).trans (same e)
      cases isDoor : s.drc.doors.get d with
      | none =>
        have unconfigured : t.drc.doors.get d = none := by
          rw [← Option.isSome_eq_false_iff.trans Option.isNone_iff_eq_none, same d, isDoor]
          rfl
        have idle : t.resolveDoor d = t := by
          unfold State.resolveDoor
          rw [unconfigured]
        rw [List.filter_cons_of_neg (by rw [isDoor]; exact Bool.false_ne_true), List.foldl_cons, next_, idle]
      | some r =>
        rw [List.filter_cons_of_pos (by rw [isDoor]; rfl), List.foldl_cons, List.foldl_cons, next_]
  exact skips (List.finRange 16) s fun _ => rfl

end Minutes

/-- Settles O51: one minute, LOW, the whole event, and the resolutions. -/
theorem minuteEventsRingCloseAndResolve : Obligations.MinuteEventsRingCloseAndResolve := by
  unfold Obligations.MinuteEventsRingCloseAndResolve
  refine ⟨fun p battery m b => ⟨b.ringing p m (List.finRange 96), (List.pairwise_lt_finRange 96).filter _, fun n => ?_,
      ?_⟩, fun s e low => State.minuteEvent_of_low low e, fun s e notLow => ?_,
    fun s => ⟨s.configuredDoors, s.configuredDoors_pairwise, fun d => State.mem_configuredDoors, s.resolveAll_eq⟩⟩
  · rw [Blc.mem_ringing]
    exact and_iff_right (List.mem_finRange n)
  · obtain ⟨patterns, kept, rung, outputs⟩ := Blc.evaluate_evaluated (p := p) (battery := battery) (m := m)
      (List.nodup_finRange 96) b
    refine ⟨patterns, kept, rung, fun o => (outputs o).trans (List.foldl_ext _ _ _ fun out n _ => ?_)⟩
    unfold Blc.ask
    cases b.entries.get n <;> rfl
  · obtain ⟨n, order⟩ := (s.rung e).payAndDoors_order e.minute
    obtain ⟨ascending, members⟩ := minutesToEvaluate_spec s.olc.settings.catchUpLimit e.minute e.old
    have event := State.minuteEvent_of_not_low notLow e
    rw [State.bellMinute_eq] at event
    refine ⟨(s.rung e).withDraws n, s.minutesOf e, rfl, ?_, fun m => ?_, rfl, ?_⟩
    · unfold State.minutesOf
      split
      · exact ascending
      · exact .nil
    · unfold State.minutesOf
      by_cases valid : s.tbu.calendarValid = true
      · rw [if_pos valid, members m]
        exact (and_iff_right valid).symm
      · rw [if_neg valid]
        exact iff_of_false List.not_mem_nil fun both => valid both.1
    · rw [event]
      rcases order with first | ⟨pending, second⟩
      · rw [first]
        exact .inl rfl
      · rw [second]
        exact .inr ⟨pending, rfl⟩

end Sys2Proof.Machine
end

section
/-!
PROOFS. The values of a cold start and the conditions they meet (R17, R40, R54, R77, R102, R115, R148, R167, R179, R184).
The obligation O52.
-/

namespace Sys2Proof.Machine

open Sys2Proof

/-! ### The start is a cold start -/

/-- R102: with every circuit closed, a reading of the wires gives the inputs of the start. -/
theorem Drc.cold_inputs_read :
    (Drc.cold.inputs.map fun (i : Input) => Input.cold i.closed) = Drc.cold.inputs :=
  Table.ext_get _ _ fun i => by rw [Table.get_map]; simp [Drc.cold, Input.cold]

/-- R17: the evacuation input is read INACTIVE at the start, so a cold start of it gives the same state again. -/
theorem State.coldStart_reset : State.reset.coldStart = State.reset := by
  unfold State.coldStart
  rw [show State.reset.drc.inputs = Drc.cold.inputs from rfl, Drc.cold_inputs_read]
  have inactive : State.reset.accepted evacuationInput = false := by decide
  exact if_neg (Bool.not_eq_true _ ▸ inactive)

/-! ### The conditions that steps keep -/

theorem storeOk_reset : StoreOk State.reset := State.coldStart_reset ▸ StoreOk.coldStart State.reset

theorem badgesOk_reset : BadgesOk State.reset :=
  (badgesOk_iff _).mpr ⟨.nil, Nat.zero_le _, fun _ mem => absurd mem List.not_mem_nil, by decide⟩

theorem doorsAndPassagesOk_reset : DoorsAndPassagesOk State.reset :=
  State.coldStart_reset ▸ .of State.reset.coldStart_plant (.coldStart State.reset)

theorem timeOk_reset : TimeOk State.reset :=
  .startSecond (t := State.reset) (Tbu.cold_between false) (by decide)

theorem gateOk_reset : GateOk State.reset := State.coldStart_reset ▸ GateOk.coldStart State.reset

theorem outputsOk_reset : OutputsOk State.reset := State.coldStart_reset ▸ OutputsOk.coldStart State.reset

/-- R34, R184: the gate line sends its first TIME broadcast, and the ready wire is released. -/
theorem linesOk_reset : LinesOk State.reset where
  gate _ free := nomatch free
  office := {
    assembly := fun _ waiting => nomatch waiting
    reply := fun sends => nomatch sends
    report := fun sends => nomatch sends
    idle := fun _ _ ready => nomatch ready
    low := fun low => nomatch low }

theorem planOk_reset : PlanOk State.reset := .cold rfl rfl rfl rfl

/-- Settles O52: the tables of the start hold one value each, and the conditions are those of a cold start of it. -/
theorem coldStartValuesMeetEveryCondition : Obligations.ColdStartValuesMeetEveryCondition := by
  refine ⟨⟨rfl, rfl, rfl, rfl, rfl, rfl, rfl, rfl, rfl⟩, fun i => Table.get_fill _ i, rfl, rfl, rfl, rfl, rfl, rfl, rfl,
    rfl, fun i => Table.get_fill _ i, fun c => Table.get_fill _ c, rfl, fun c => Table.get_fill _ c,
    fun d => Table.get_fill _ d, fun k => Table.get_fill _ k, fun i => ?_, rfl, fun n => Table.get_fill _ n, fun n => ?_,
    fun o => Table.get_fill _ o, rfl, by decide, rfl, rfl, rfl, rfl, storeOk_reset, badgesOk_reset,
    doorsAndPassagesOk_reset, timeOk_reset, gateOk_reset, outputsOk_reset, linesOk_reset, planOk_reset⟩
  · have input : State.reset.drc.inputs.get i = Input.cold true := Table.get_fill _ i
    rw [input]
    exact ⟨rfl, rfl⟩
  · have pattern : State.reset.blc.patterns.get n = Pattern.cold := Table.get_fill _ n
    rw [pattern]
    rfl

end Sys2Proof.Machine
end

section
/-!
PROOFS. Quiescence (R15, R38, R79, R101, R166, R183): the blocks of a part in LOW, and a low-battery sample. The obligation
O15.
-/

namespace Sys2Proof.Machine

open Sys2Proof

/-! ### Quiescence, block by block -/

/-- R38: the gate line in silence, but for the records of the stations. -/
theorem Glc.silence_eq (g : Glc) : g.silence = { g with
    stations := g.silence.stations, line := .free, grant := none, sending := none, probed := none
    probeWait := none, restTimer := none } := by
  unfold Glc.silence Glc.endGrant
  dsimp only
  cases grant : g.grant with
  | none => rfl
  | some gr => rfl

/-- R38: the station of the grant in HOLD, and no probe timer. -/
theorem Glc.silence_station (g : Glc) (i : StationId) : g.silence.stations.get i = { g.stations.get i with
    state := if g.grant.map Grant.station = some i then .hold else (g.stations.get i).state
    probeTimer := none } := by
  unfold Glc.silence Glc.endGrant
  dsimp only
  rw [Table.get_map]
  cases grant : g.grant with
  | none =>
    rw [if_neg (by simp)]
    rfl
  | some gr =>
    have released : ({ g with
        sending := none, grant := none, stations := g.stations.modify gr.station Station.enterHold } : Glc).releaseLine.stations =
        g.stations.modify gr.station Station.enterHold := rfl
    dsimp only
    rw [released, Option.map_some]
    by_cases same : gr.station = i
    · rw [same, Table.get_modify_self, if_pos rfl]
      rfl
    · rw [Table.get_modify_of_ne _ _ _ _ same, if_neg fun e => same (Option.some.inj e)]
      rfl

/-- R15: what quiescence makes of the blocks. -/
theorem State.quiesce_quieted (s : State) : Quieted s s.quiesce where
  others := by
    have gate := s.glc.silence_eq
    change s.quiesce = { s with
      glc := { s.glc with
        stations := s.glc.silence.stations, line := .free, grant := none, sending := none, probed := none
        probeWait := none, restTimer := none }
      drc := s.quiesce.drc
      blc := s.quiesce.blc
      olc := s.quiesce.olc }
    rw [← gate]
    rfl
  inputs i := Table.get_map _ _ i
  stations i := s.glc.silence_station i

/-- R24, R173, R183: in LOW neither line goes on. -/
theorem State.settle_of_low {s : State} (low : s.tbu.supply = .low) : s.settle = s := by
  have settled := s.settle_settled
  unfold Settled at settled
  rw [settled, if_pos low]

/-! ### The outputs in LOW -/

section Outputs

variable {s : State}

theorem State.releaseOutput_of_low (low : s.tbu.supply = .low) (d : DoorId) : s.releaseOutput d = false := by
  unfold State.releaseOutput
  rw [(State.isLow_iff s).mpr low]
  split
  · rfl
  · exact Bool.and_false _

theorem State.bellOutput_of_low (low : s.tbu.supply = .low) (o : OutputId) : s.bellOutput o = false := by
  unfold State.bellOutput
  rw [(State.isLow_iff s).mpr low]
  split
  · rfl
  · exact Bool.and_false _

theorem State.alarmOutput_of_low (low : s.tbu.supply = .low) : s.alarmOutput = false := by
  unfold State.alarmOutput
  rw [(State.isLow_iff s).mpr low]
  exact Bool.and_false _

end Outputs

/-! ### The low-battery samples -/

/-- R15: two consecutive asserted samples. -/
theorem Tbu.sampleBattery_asserted (t : Tbu) (asserted : Bool) :
    (t.sampleBattery asserted).lowBatterySamples = [true, true] ↔
      asserted = true ∧ t.lowBatterySamples.head? = some true := by
  unfold Tbu.sampleBattery
  cases t.lowBatterySamples with
  | nil => simp
  | cons a rest => simp

/-- R15: the Time Base Unit after the second asserted sample, in LOW; the samples stay (log 16). -/
theorem Tbu.sampleBattery_toLow {t : Tbu} (asserted : t.lowBatterySamples.head? = some true) :
    (t.sampleBattery true).toLow = { t with
      lowBatterySamples := [true, true]
      lowBatteryInput := true
      supply := .low
      pendingTime := none
      lowBatteryTimer := none } := by
  have samples := (t.sampleBattery_asserted true).mpr ⟨rfl, asserted⟩
  change { t with
    lowBatterySamples := (t.sampleBattery true).lowBatterySamples
    lowBatteryInput := true
    supply := .low
    pendingTime := none
    lowBatteryTimer := none } = _
  rw [samples]

/-- Settles O15: a second asserted sample makes the LOW_BATTERY report and then quiesces the blocks, and in LOW neither line
goes on. -/
theorem twoAssertedSamplesMakeThePartQuiescent : Obligations.TwoAssertedSamplesMakeThePartQuiescent := by
  unfold Obligations.TwoAssertedSamplesMakeThePartQuiescent
  refine ⟨fun asserted s battery once => ?_, fun s battery twice => ?_, fun asserted s other => if_neg other⟩
  · refine (if_pos battery).trans (if_neg ?_)
    exact mt (s.tbu.sampleBattery_asserted asserted).mp once
  · have low : (s.withTbu (s.tbu.sampleBattery true)).enterLow.tbu.supply = .low := by
      rw [State.enterLow_tbu]
      rfl
    have after : exec (.lowBatterySample true) s = .next (s.withTbu (s.tbu.sampleBattery true)).enterLow := by
      refine (if_pos battery).trans ((if_pos ?_).trans (congrArg _ (State.settle_of_low low)))
      exact (s.tbu.sampleBattery_asserted true).mpr ⟨rfl, twice⟩
    have toLow := Tbu.sampleBattery_toLow twice
    have report := TouchesStore.supplyReport (s.withTbu (s.tbu.sampleBattery true).toLow) .lowBattery none
    have quiet := ((s.withTbu (s.tbu.sampleBattery true).toLow).supplyReport .lowBattery none).quiesce_quieted
    have gate := ((s.withTbu (s.tbu.sampleBattery true).toLow).supplyReport .lowBattery none).glc.silence_eq
    have tbu : (s.withTbu (s.tbu.sampleBattery true)).enterLow.tbu = (s.tbu.sampleBattery true).toLow :=
      State.enterLow_tbu _
    refine ⟨_, after, ?_, low, ?_, ?_, ?_, ?_, ?_, ?_, ?_, ?_, ?_, State.releaseOutput_of_low low, State.bellOutput_of_low low,
      State.alarmOutput_of_low low, ?_, ?_, ?_⟩
    · rw [← toLow]
      exact quiet
    · rw [tbu]; rfl
    · rw [tbu]; rfl
    · rw [tbu]; rfl
    · rw [tbu]; rfl
    · exact congrArg Glc.line gate
    · exact congrArg Glc.sending gate
    · exact congrArg Glc.grant gate
    · exact congrArg Glc.restTimer gate
    · exact congrArg Olc.silence report.olc
    · exact report.btb
    · exact report.sps
    · exact report.pev

end Sys2Proof.Machine
end

section
/-!
PROOFS. A second boundary (R1 to R9, R11, R12): what it makes of the Time Base Unit, and what it leaves of the rest where it
qualifies no mains return. The obligations O13 and O14.
-/

namespace Sys2Proof.Machine

open Sys2Proof

/-! ### The calendar of a boundary -/

section Calendar

variable {t : Tbu}

theorem Tbu.advance_of_pending {new : Nat} (pending : t.pendingTime = some new) : t.advance = t.applyTime new := by
  simp only [Tbu.advance, pending]

theorem Tbu.advance_of_last (unset : t.pendingTime = none) (last : Config.lastReading ≤ t.calendar) :
    t.advance = t.expire := by
  simp only [Tbu.advance, unset, if_pos last]

theorem Tbu.advance_of_next (unset : t.pendingTime = none) (before : t.calendar < Config.lastReading) :
    t.advance = ⟨{ t with calendar := t.calendar + 1 },
      if (t.calendar + 1) % 60 = 0 then some ⟨.natural, plantMinute (t.calendar + 1), none⟩ else none, none⟩ := by
  simp only [Tbu.advance, unset, if_neg (Nat.not_le.mpr before)]

/-- R8, R9, R11: the three ways a boundary takes the calendar on. -/
theorem Tbu.advance_cases (t : Tbu) : (∃ new, t.pendingTime = some new)
    ∨ (t.pendingTime = none ∧ Config.lastReading ≤ t.calendar) ∨ (t.pendingTime = none ∧ t.calendar < Config.lastReading) := by
  cases pending : t.pendingTime with
  | some new => exact .inl ⟨new, rfl⟩
  | none => exact .inr ((Nat.lt_or_ge t.calendar Config.lastReading).symm.imp (fun last => ⟨rfl, last⟩) fun next => ⟨rfl, next⟩)

theorem nextReading_of_pending {new : Nat} (pending : t.pendingTime = some new) : nextReading t = new := by
  simp only [nextReading, pending]

theorem nextReading_of_last (unset : t.pendingTime = none) (last : Config.lastReading ≤ t.calendar) : nextReading t = 0 := by
  simp only [nextReading, unset, if_neg (Nat.not_lt.mpr last)]

theorem nextReading_of_next (unset : t.pendingTime = none) (before : t.calendar < Config.lastReading) :
    nextReading t = t.calendar + 1 := by
  simp only [nextReading, unset, if_pos before]

theorem Tbu.advance_calendar (t : Tbu) : t.advance.tbu.calendar = nextReading t := by
  rcases t.advance_cases with ⟨new, pending⟩ | ⟨unset, last⟩ | ⟨unset, before⟩
  · rw [Tbu.advance_of_pending pending, nextReading_of_pending pending]
    rfl
  · rw [Tbu.advance_of_last unset last, nextReading_of_last unset last]
    rfl
  · rw [Tbu.advance_of_next unset before, nextReading_of_next unset before]

theorem Tbu.advance_valid (t : Tbu) : t.advance.tbu.calendarValid = true ↔
    t.pendingTime.isSome = true ∨ (t.calendarValid = true ∧ t.calendar < Config.lastReading) := by
  rcases t.advance_cases with ⟨new, pending⟩ | ⟨unset, last⟩ | ⟨unset, before⟩
  · rw [Tbu.advance_of_pending pending, pending]
    exact ⟨fun _ => .inl rfl, fun _ => rfl⟩
  · rw [Tbu.advance_of_last unset last, unset]
    exact ⟨fun e => Bool.noConfusion e, fun e => e.elim (fun e => Bool.noConfusion e) fun e => absurd last (Nat.not_le.mpr e.2)⟩
  · rw [Tbu.advance_of_next unset before, unset]
    exact ⟨fun e => .inr ⟨e, before⟩, fun e => e.elim (fun e => Bool.noConfusion e) fun e => e.1⟩

/-- R8, R9, R11: the boundary leaves no pending time. -/
theorem Tbu.advance_pendingTime (t : Tbu) : t.advance.tbu.pendingTime = none := by
  rcases t.advance_cases with ⟨new, pending⟩ | ⟨unset, last⟩ | ⟨unset, before⟩
  · rw [Tbu.advance_of_pending pending]
    rfl
  · rw [Tbu.advance_of_last unset last]
    exact unset
  · rw [Tbu.advance_of_next unset before]
    exact unset

theorem Tbu.advance_event_isSome (t : Tbu) :
    t.advance.event.isSome = true ↔ t.pendingTime.isSome = true ∨ nextReading t % 60 = 0 := by
  rcases t.advance_cases with ⟨new, pending⟩ | ⟨unset, last⟩ | ⟨unset, before⟩
  · rw [Tbu.advance_of_pending pending, pending]
    exact ⟨fun _ => .inl rfl, fun _ => rfl⟩
  · rw [Tbu.advance_of_last unset last, nextReading_of_last unset last]
    exact ⟨fun _ => .inr rfl, fun _ => rfl⟩
  · rw [Tbu.advance_of_next unset before, nextReading_of_next unset before, unset]
    by_cases minute : (t.calendar + 1) % 60 = 0
    · simp [minute]
    · simp [minute]

end Calendar

/-! ### What follows in the Time Base Unit -/

section TimeBase

variable {t : Tbu}

theorem Tbu.qualifies_iff : t.qualifies = true ↔ returnQualified t := by
  unfold Tbu.qualifies Tbu.judged Tbu.good Frequency.goodSecond returnQualified
  simp only [Bool.and_eq_true, decide_eq_true_eq]
  cases t.frequencyInEffect with
  | hz50 =>
    exact ⟨fun ⟨⟨⟨began, absent⟩, good⟩, count⟩ => ⟨began, absent, by omega, by simp only [Frequency.cycles] at good; omega⟩,
      fun ⟨began, absent, count, good⟩ => ⟨⟨⟨began, absent⟩, by simp only [Frequency.cycles]; omega⟩, by omega⟩⟩
  | hz60 =>
    exact ⟨fun ⟨⟨⟨began, absent⟩, good⟩, count⟩ => ⟨began, absent, by omega, by simp only [Frequency.cycles] at good; omega⟩,
      fun ⟨began, absent, count, good⟩ => ⟨⟨⟨began, absent⟩, by simp only [Frequency.cycles]; omega⟩, by omega⟩⟩

theorem Tbu.takeEvent_eq (t : Tbu) (e : Option MinuteEvent) : t.takeEvent e = { t with
    trimInEffect := if e.isSome = true then t.trimSetting else t.trimInEffect
    lastMinute := (e.map MinuteEvent.minute).getD t.lastMinute } := by
  cases e <;> rfl

/-- R2: the trim in effect after the event of a boundary that ends no LOW. -/
theorem Tbu.takeEvent_trim {b : Tbu} (setting : b.trimSetting = t.trimSetting) (effect : b.trimInEffect = t.trimInEffect)
    (awake : ¬ (t.supply = .low ∧ returnQualified t)) :
    (raisesMinuteEvent t → (b.takeEvent t.advance.event).trimInEffect = t.trimSetting)
    ∧ (¬ raisesMinuteEvent t → (b.takeEvent t.advance.event).trimInEffect = t.trimInEffect) := by
  have raised := t.advance_event_isSome
  rw [Tbu.takeEvent_eq]
  refine ⟨fun raises => ?_, fun quiet => ?_⟩
  · rw [← setting]
    refine if_pos (raised.mpr ?_)
    rcases raises with pending | minute | woken
    · exact .inl pending
    · exact .inr minute
    · exact absurd woken awake
  · rw [← effect]
    exact if_neg fun event => quiet ((raised.mp event).elim .inl fun minute => .inr (.inl minute))

/-- `u` is the Time Base Unit right after a boundary of `t`, before the next second begins: the boundary with the time source
and the supply state brought up to date and the minute boundary event taken. -/
structure Tbu.Followed (t u : Tbu) : Prop where
  frame : u = { t.boundary with
    trimInEffect := u.trimInEffect
    lastMinute := u.lastMinute
    lowBatterySamples := u.lowBatterySamples
    lowBatteryTimer := u.lowBatteryTimer
    supply := if t.qualifies then .mains else t.supply
    timeSource := timeSourceOf t.sourceSetting t.boundary.mainsWatch }
  trim : (raisesMinuteEvent t → u.trimInEffect = t.trimSetting) ∧ (¬ raisesMinuteEvent t → u.trimInEffect = t.trimInEffect)

theorem Tbu.followReturn_followed (intact : t.supply = .low → t.qualifies = true → t.backupIntact = true)
    (absent : t.qualifies = true → t.supply ≠ .mains) : t.Followed (t.followReturn t.boundary t.advance.event) := by
  have setting : t.boundary.trimSetting = t.trimSetting := by rw [t.boundary_eq]
  have effect : t.boundary.trimInEffect = t.trimInEffect := by rw [t.boundary_eq]
  have source : t.boundary.sourceInEffect = t.sourceSetting := by rw [t.boundary_eq]
  have kept : t.boundary.supply = t.supply := by rw [t.boundary_eq]
  unfold Tbu.followReturn
  by_cases qualified : t.qualifies = true
  · rw [if_pos qualified]
    cases supply : t.supply with
    | mains => exact absurd supply (absent qualified)
    | battery =>
      refine ⟨?_, Tbu.takeEvent_trim (b := t.boundary.toMains) setting effect fun e => nomatch supply.symm.trans e.1⟩
      dsimp only
      rw [if_pos qualified, Tbu.takeEvent_eq, ← source]
      rfl
    | low =>
      dsimp only
      rw [if_pos (intact supply qualified)]
      refine ⟨?_, fun _ => setting, fun quiet => absurd (.inr (.inr ⟨supply, Tbu.qualifies_iff.mp qualified⟩)) quiet⟩
      rw [if_pos qualified, t.boundary_eq]
      rfl
  · rw [if_neg qualified]
    refine ⟨?_, Tbu.takeEvent_trim (b := t.boundary.refreshSource) setting effect fun e =>
      qualified (Tbu.qualifies_iff.mpr e.2)⟩
    rw [if_neg qualified, ← kept, Tbu.takeEvent_eq, ← source]
    rfl

/-- R1, R3, R5: the second that begins has its own driver, and is judged or not. -/
theorem Tbu.startSecond_eq (t : Tbu) : t.startSecond = { t with
    secondBeganAbsent := decide (t.mainsWatch = .absent)
    secondEnd := t.startSecond.secondEnd
    trimAccumulator := t.startSecond.trimAccumulator } := by
  unfold Tbu.startSecond
  dsimp only
  split
  · rfl
  · rfl

theorem Tbu.startSecond_locked (locked : t.timeSource = .mainsLocked) :
    t.startSecond.secondEnd = .onCycle ∧ t.startSecond.trimAccumulator = t.trimAccumulator := by
  unfold Tbu.startSecond
  dsimp only
  rw [if_pos locked]
  exact ⟨rfl, rfl⟩

/-- R1: k is the accumulator with the trim added, divided and truncated toward zero. -/
theorem Tbu.startSecond_crystal (other : t.timeSource ≠ .mainsLocked)
    (accumulator : -Config.trimDivisor < t.trimAccumulator ∧ t.trimAccumulator < Config.trimDivisor)
    (trim : -999 ≤ t.trimInEffect ∧ t.trimInEffect ≤ 999) : ∃ k : Int, ∃ n : Nat,
      t.trimAccumulator + t.trimInEffect * 32768 = k * 10000000 + t.startSecond.trimAccumulator
      ∧ -10000000 < t.startSecond.trimAccumulator ∧ t.startSecond.trimAccumulator < 10000000
      ∧ (0 ≤ t.trimAccumulator + t.trimInEffect * 32768 → 0 ≤ t.startSecond.trimAccumulator)
      ∧ (t.trimAccumulator + t.trimInEffect * 32768 ≤ 0 → t.startSecond.trimAccumulator ≤ 0)
      ∧ (n : Int) = 32768 - k ∧ t.startSecond.secondEnd = .onTick n := by
  have start : t.startSecond = { t with secondBeganAbsent := decide (t.mainsWatch = MainsWatch.absent) }.accumulate := by
    unfold Tbu.startSecond
    exact if_neg other
  obtain ⟨low, high⟩ := accumulator
  obtain ⟨trimLow, trimHigh⟩ := trim
  unfold Config.trimDivisor at low high
  rw [start]
  have whole := Int.mul_tdiv_add_tmod (t.trimAccumulator + t.trimInEffect * 32768) 10000000
  have short := Int.lt_tmod_of_pos (t.trimAccumulator + t.trimInEffect * 32768) (by decide : (0 : Int) < 10000000)
  have long := Int.tmod_lt_of_pos (t.trimAccumulator + t.trimInEffect * 32768) (by decide : (0 : Int) < 10000000)
  have positive := @Int.tmod_nonneg (t.trimAccumulator + t.trimInEffect * 32768) 10000000
  have negative := @Int.tmod_nonneg (-(t.trimAccumulator + t.trimInEffect * 32768)) 10000000
  rw [Int.neg_tmod] at negative
  have rest : ({ t with secondBeganAbsent := decide (t.mainsWatch = MainsWatch.absent) } : Tbu).accumulate.trimAccumulator =
      t.trimAccumulator + t.trimInEffect * 32768 -
        Int.tdiv (t.trimAccumulator + t.trimInEffect * 32768) 10000000 * 10000000 := rfl
  rw [rest]
  refine ⟨Int.tdiv (t.trimAccumulator + t.trimInEffect * 32768) 10000000, _, by omega, by omega, by omega, fun up => ?_,
    fun down => ?_, ?_, rfl⟩
  · have := positive up
    omega
  · have := negative (by omega)
    omega
  · refine Int.toNat_of_nonneg ?_
    change 0 ≤ (32768 : Int) - Int.tdiv (t.trimAccumulator + t.trimInEffect * 32768) 10000000
    omega

/-- R1 to R9, R11: the second that follows a boundary. -/
theorem Tbu.Followed.secondPassed {u : Tbu} (h : t.Followed u) (next : u.Between) :
    SecondPassed t u.startSecond := by
  have start := u.startSecond_eq
  have boundary := t.boundary_eq
  have frame := h.frame
  have watch : u.mainsWatch = if t.qualifies then .present else t.mainsWatch := by rw [frame, boundary]
  have supply : u.supply = if t.qualifies then .mains else t.supply := by rw [frame]
  have source : u.timeSource = timeSourceOf t.sourceSetting u.mainsWatch := by rw [frame]
  have gap : u.gapTime = if t.qualifies then 0 else t.gapTime := by rw [frame, boundary]
  have count : u.qualification = t.countAfter := by rw [frame, boundary]
  have accumulator : u.trimAccumulator = t.trimAccumulator := by rw [frame, boundary]
  exact {
    counters := by rw [start, frame, boundary]; exact ⟨rfl, rfl⟩
    calendar := by rw [start, frame, boundary]; exact t.advance_calendar
    valid := by rw [start, frame, boundary]; exact t.advance_valid
    pendingTime := by rw [start, frame, boundary]; exact t.advance_pendingTime
    settings := by rw [start, frame, boundary]; exact ⟨rfl, rfl, rfl⟩
    inEffect := by rw [start, frame, boundary]; exact ⟨rfl, rfl⟩
    returned := fun returns => by
      have qualified := Tbu.qualifies_iff.mpr returns
      rw [start]
      refine ⟨watch.trans (if_pos qualified), count.trans (if_pos qualified), gap.trans (if_pos qualified),
        supply.trans (if_pos qualified)⟩
    notReturned := fun stays => by
      have qualified := mt Tbu.qualifies_iff.mp stays
      rw [start]
      exact ⟨watch.trans (if_neg qualified), gap.trans (if_neg qualified), supply.trans (if_neg qualified)⟩
    counted := fun stays => by
      rw [start]
      refine count.trans ((if_neg (mt Tbu.qualifies_iff.mp stays)).trans ?_)
      unfold Tbu.judged Tbu.good Frequency.goodSecond
      simp only [Bool.and_eq_true, decide_eq_true_eq]
    timeSource := by rw [start]; exact source
    trim := by rw [start]; exact h.trim
    onMains := fun locked => by
      have source : u.startSecond.timeSource = u.timeSource := by rw [start]
      obtain ⟨driver, kept⟩ := Tbu.startSecond_locked (source.symm.trans locked)
      exact ⟨driver, kept.trans accumulator⟩
    onCrystal := fun other => by
      have source : u.startSecond.timeSource = u.timeSource := by rw [start]
      have trim : u.startSecond.trimInEffect = u.trimInEffect := by rw [start]
      rw [trim, ← accumulator]
      exact Tbu.startSecond_crystal (fun e => other (source.trans e)) next.accumulator next.trims.2.2
    began := by rw [start]; exact decide_eq_true_iff }

end TimeBase

section Boundary

variable {s t : State}

/-- R5: a boundary qualifies the mains only outside MAINS. -/
theorem TimeOk.supply_of_qualifies (h : TimeOk s) (qualified : s.tbu.qualifies = true) : s.tbu.supply ≠ .mains := fun mains => by
  obtain ⟨-, absent, -⟩ := Tbu.qualifies_iff.mp qualified
  exact nomatch (h.supply.mp mains).symm.trans absent

/-- R1 to R9, R11: the Time Base Unit after a second boundary that is no cold start. -/
theorem TimeOk.secondPassed (h : TimeOk s) (running : s.tbu.running = true)
    (intact : s.tbu.supply = .low → returnQualified s.tbu → s.tbu.backupIntact = true) :
    SecondPassed s.tbu s.secondBoundary.tbu := by
  rw [State.secondBoundary_tbu]
  exact (Tbu.followReturn_followed (fun low qualified => intact low (Tbu.qualifies_iff.mp qualified))
    h.supply_of_qualifies).secondPassed (h.between.followReturn running)

/-! ### The reports and the event of a boundary -/

/-- R12: the event of a boundary says how far the step goes from the minute it leaves. -/
theorem TimeOk.boundary_works (h : TimeOk s) (x : Tbu) :
    boundaryWork s ((s.withTbu x).timeReport s.tbu.advance.report) s.tbu.advance.event := by
  have minute : s.tbu.lastMinute = s.tbu.calendar / 60 := h.minute
  have range : s.tbu.calendar ≤ 3155759999 := h.calendar
  unfold boundaryWork
  rw [State.timeReport_tbu]
  refine ⟨fun none before => ?_, fun none last => ?_, fun new advanced pending before last => ?_⟩
  · rw [Tbu.advance_of_next none before]
    exact ⟨rfl, rfl⟩
  · rw [Tbu.advance_of_last none (Nat.le_of_eq last.symm)]
    exact ⟨rfl, rfl⟩
  · rw [Tbu.advance_of_pending pending]
    have reading : advancedReading s.tbu.calendar = advanced := by
      unfold advancedReading
      split
      · next atLast => exact (last (Nat.le_antisymm range atLast)).symm
      · next inside => exact (before (Nat.lt_of_not_le inside)).symm
    unfold Tbu.applyTime
    rw [reading, minute]
    refine ⟨rfl, ?_⟩
    have forward : (0 < (new : Int) - (advanced : Int)) ↔ advanced < new := by omega
    simp only [forward]
    rfl

/-- R8, R12: what a boundary starts from, the Time Base Unit being brought up to date before the TIME report is made. -/
theorem TimeOk.boundaryBase (h : TimeOk s) {x : Tbu} (calendar : x.calendar = nextReading s.tbu)
    (supply : x.supply = t.tbu.supply) (valid : x.calendarValid = t.tbu.calendarValid)
    (source : x.timeSource = t.tbu.timeSource) :
    BoundaryBase s ((s.withTbu x).timeReport s.tbu.advance.report) t s.tbu.advance.event where
  work := h.boundary_works x
  calendar := by rw [State.timeReport_tbu]; exact calendar
  supply := by rw [State.timeReport_tbu]; exact supply
  valid := by rw [State.timeReport_tbu]; exact valid
  source := by rw [State.timeReport_tbu]; exact source

theorem minuteTaken_eq (s : State) (e : Option MinuteEvent) : minuteTaken s e = s.minuteEvent? e := by
  cases e <;> rfl

/-- R6, R8, R12: the acts of a boundary that qualifies no mains return. -/
theorem State.secondBoundary_of_stays (stays : s.tbu.qualifies = false) : s.secondBoundary =
    { minuteTaken (sourceReported ((s.withTbu s.tbu.boundary.refreshSource).timeReport s.tbu.advance.report)
        s.tbu.timeSource) s.tbu.advance.event with tbu := s.secondBoundary.tbu } := by
  have source : s.tbu.boundary.timeSource = s.tbu.timeSource := by rw [s.tbu.boundary_eq]
  have refreshed : ((s.withTbu s.tbu.boundary).timeReport s.tbu.advance.report).refreshSource =
      sourceReported ((s.withTbu s.tbu.boundary.refreshSource).timeReport s.tbu.advance.report) s.tbu.timeSource := by
    unfold State.refreshSource
    rw [State.timeReport_tbu, State.withTbu_tbu, source, ← State.timeReport_withTbu]
    rfl
  rw [minuteTaken_eq, ← refreshed]
  unfold State.secondBoundary
  dsimp only
  rw [if_neg (Bool.not_eq_true _ ▸ stays)]
  rfl

/-! ### Boundaries that qualify no mains return -/

@[simp] theorem Tbu.startSecond_valid (t : Tbu) : t.startSecond.calendarValid = t.calendarValid := by rw [t.startSecond_eq]
@[simp] theorem Tbu.startSecond_timeSource (t : Tbu) : t.startSecond.timeSource = t.timeSource := by rw [t.startSecond_eq]
@[simp] theorem Tbu.takeEvent_supply (t : Tbu) (e : Option MinuteEvent) : (t.takeEvent e).supply = t.supply := by
  rw [t.takeEvent_eq]
@[simp] theorem Tbu.takeEvent_valid (t : Tbu) (e : Option MinuteEvent) :
    (t.takeEvent e).calendarValid = t.calendarValid := by
  rw [t.takeEvent_eq]
@[simp] theorem Tbu.takeEvent_timeSource (t : Tbu) (e : Option MinuteEvent) : (t.takeEvent e).timeSource = t.timeSource := by
  rw [t.takeEvent_eq]

/-- R6, R8, R12: such a boundary leaves its reports and its minute boundary event. -/
theorem TimeOk.boundaryLeaves (h : TimeOk s) (stays : ¬ returnQualified s.tbu) : BoundaryLeaves s s.secondBoundary.settle := by
  have unqualified : s.tbu.qualifies = false := Bool.eq_false_iff.mpr (mt Tbu.qualifies_iff.mp stays)
  have follows : s.secondBoundary.settle.tbu = (s.tbu.boundary.refreshSource.takeEvent s.tbu.advance.event).startSecond := by
    rw [State.settle_tbu, State.secondBoundary_tbu]
    unfold Tbu.followReturn
    rw [if_neg (Bool.not_eq_true _ ▸ unqualified)]
  have calendar : s.tbu.boundary.calendar = nextReading s.tbu := by rw [s.tbu.boundary_eq, s.tbu.advance_calendar]
  refine ⟨_, _, h.boundaryBase (x := s.tbu.boundary.refreshSource) calendar ?_ ?_ ?_, ?_⟩
  · rw [follows]; simp
  · rw [follows]; simp
  · rw [follows]; simp
  · rw [State.settle_tbu]
    exact settled_of_settle (State.secondBoundary_of_stays unqualified)

/-- R6, R8: with no minute boundary event and no new source setting, such a boundary changes the Time Base Unit alone. -/
theorem BoundaryLeaves.quiet (h : BoundaryLeaves s t) (ok : TimeOk s) (passed : SecondPassed s.tbu t.tbu)
    (stays : ¬ returnQualified s.tbu) (still : ¬ raisesMinuteEvent s.tbu)
    (source : s.tbu.sourceInEffect = s.tbu.sourceSetting) : Settled { s with tbu := t.tbu } t := by
  obtain ⟨base, event, boundary, settled⟩ := h
  have unset : s.tbu.pendingTime = none := by
    cases pending : s.tbu.pendingTime with
    | none => rfl
    | some new => exact absurd (.inl (by rw [pending]; rfl)) still
  have minute : nextReading s.tbu % 60 ≠ 0 := fun minute => still (.inr (.inl minute))
  have before : s.tbu.calendar < Config.lastReading := Nat.lt_of_not_le fun last =>
    minute (by rw [nextReading_of_last unset last])
  rw [nextReading_of_next unset before] at minute
  obtain ⟨others, none⟩ := boundary.work.1 unset before
  have same : base.tbu.timeSource = s.tbu.timeSource := by
    rw [boundary.source, passed.timeSource, ok.source, source, (passed.notReturned stays).1]
  unfold sourceReported at settled
  rw [none, if_neg minute, if_pos same, others] at settled
  exact settled

end Boundary

/-! ### Mains cycles -/

section Cycles

variable {s : State}

theorem TimeOk.cycle (h : TimeOk s) : TimeOk (s.withTbu s.tbu.cycle) := { h with }

/-- R3, R8: the cycle that ends the second is the last one of the frequency in effect, in MAINS_LOCKED. -/
theorem TimeOk.cycleEndsSecond_iff (h : TimeOk s) : s.tbu.cycle.cycleEndsSecond = true ↔
    s.tbu.timeSource = .mainsLocked ∧ s.tbu.frequencyInEffect.cycles ≤ s.tbu.cycleCounter + 1 := by
  unfold Tbu.cycleEndsSecond
  rw [Bool.and_eq_true, beq_iff_eq, decide_eq_true_eq, h.driver]
  rfl

/-- R6: in MAINS_LOCKED the mains is present, so that nothing is left to qualify. -/
theorem TimeOk.present_of_locked (h : TimeOk s) (locked : s.tbu.timeSource = .mainsLocked) :
    s.tbu.mainsWatch = .present := by
  cases watch : s.tbu.mainsWatch with
  | present => rfl
  | absent =>
    rw [h.source, watch] at locked
    exact absurd locked (timeSourceOf_absent _)

theorem not_returnQualified_of_present {t : Tbu} (present : t.mainsWatch = .present) : ¬ returnQualified t := fun returns =>
  nomatch present.symm.trans returns.2.1

/-- R12: with the mains present, a counted cycle raises no other minute boundary event. -/
theorem raisesMinuteEvent_cycle {t : Tbu} (present : t.mainsWatch = .present) :
    raisesMinuteEvent t.cycle → raisesMinuteEvent t := by
  rintro (pending | minute | ⟨-, returns⟩)
  · exact .inl pending
  · exact .inr (.inl minute)
  · exact absurd returns (not_returnQualified_of_present present)

end Cycles

/-- Settles O13: in MAINS_LOCKED the mains is present, so the boundary that a cycle brings qualifies no mains return. -/
theorem mainsCyclesAreCountedAndEndSeconds : Obligations.MainsCyclesAreCountedAndEndSeconds := by
  unfold Obligations.MainsCyclesAreCountedAndEndSeconds
  intro counted s h running cycle
  have same : counted = s.tbu.cycle := cycle
  refine ⟨fun goesOn => ?_, fun locked last => ?_⟩
  · rw [same]
    exact (if_pos running).trans (if_neg (mt h.cycleEndsSecond_iff.mp goesOn))
  · have present := h.present_of_locked locked
    have stays : ¬ returnQualified (s.withTbu s.tbu.cycle).tbu := not_returnQualified_of_present present
    have passed : SecondPassed s.tbu.cycle (s.withTbu s.tbu.cycle).secondBoundary.settle.tbu := by
      rw [State.settle_tbu]
      exact h.cycle.secondPassed running fun _ returns => absurd returns stays
    have leaves := h.cycle.boundaryLeaves stays
    refine ⟨_, (if_pos running).trans (if_pos (h.cycleEndsSecond_iff.mpr ⟨locked, last⟩)), ?_, fun still source => ?_, ?_⟩
    · rw [same]
      exact passed
    · have quiet : ¬ raisesMinuteEvent (s.withTbu s.tbu.cycle).tbu := mt (raisesMinuteEvent_cycle present) still
      exact BoundaryLeaves.quiet (s := s.withTbu s.tbu.cycle) leaves h.cycle passed stays quiet source
    · rw [same]
      exact leaves

end Sys2Proof.Machine
end

section
/-!
PROOFS. A mains loss (R4, R6, R14, R79, R86, R166): entry to BATTERY, its reports and the second it may complete. The obligation
O14.
-/

namespace Sys2Proof.Machine

open Sys2Proof

/-! ### Records join the tail of the store -/

section Records

variable {front : List Report} {s : State}

/-- R168: a record that is stored joins the tail. -/
theorem State.store_extends (o : Bool) (b : ReportBody) (h : front <+: s.rps.records) :
    front <+: (s.store o b).rps.records := by
  rw [State.store_records]
  exact h.trans (List.prefix_append _ _)

theorem State.emitOwed_extends (h : front <+: s.rps.records) : front <+: s.emitOwed.rps.records := by
  unfold State.emitOwed
  refine foldl_keeps (P := fun s => front <+: s.rps.records) (act := State.emitSource) (fun src h => ?_) _ h
  unfold State.emitSource
  split
  · exact h
  · split
    · exact State.store_extends _ _ h
    · exact h

theorem State.commitWork_extends (a : Accepted) (h : front <+: s.rps.records) :
    front <+: (s.commitWork a).rps.records := by
  unfold State.commitWork
  split
  · exact State.store_extends _ _ h
  · split
    · exact State.store_extends _ _ h
    · unfold State.commitExit
      split
      · exact State.store_extends _ _ (State.store_extends _ _ h)
      · exact State.store_extends _ _ h
    · exact State.store_extends _ _ h

theorem State.nonPunch_extends (src : ReportSource) (b : ReportBody) (h : front <+: s.rps.records) :
    front <+: (s.nonPunch src b).rps.records := by
  unfold State.nonPunch
  split
  · exact State.store_extends _ _ h
  · exact h

theorem State.reportSource_extends (before : TimeSource) (h : front <+: s.rps.records) :
    front <+: (s.reportSource before).rps.records := by
  unfold State.reportSource
  split
  · exact h
  · exact State.nonPunch_extends _ _ h

theorem State.commitPassage_extends (d : DoorId) (free : Bool) (h : front <+: s.rps.records) :
    front <+: (s.commitPassage d free).rps.records := by
  unfold State.commitPassage
  split
  · exact h
  · dsimp only
    refine State.emitOwed_extends ?_
    refine State.commitWork_extends _ ?_
    exact h

theorem State.cancelPassage_extends (d : DoorId) (h : front <+: s.rps.records) :
    front <+: (s.cancelPassage d).rps.records := by
  unfold State.cancelPassage
  split
  · exact h
  · refine State.emitOwed_extends ?_
    refine State.store_extends _ _ ?_
    exact h

/-- R86: the resolutions of the doors take no record off the store. -/
theorem State.resolveAll_extends (h : front <+: s.rps.records) : front <+: s.resolveAll.rps.records := by
  have door : ∀ {s : State} (d : DoorId) (r : Option Door), front <+: s.rps.records →
      front <+: (s.setDoor d r).rps.records := fun d r h => h
  have each : ∀ {s : State} (d : DoorId), front <+: s.rps.records → front <+: (s.resolveDoor d).rps.records :=
    fun d h => State.resolveDoor_keeps (P := fun s => front <+: s.rps.records) door
      (fun d free h => State.commitPassage_extends d free h) (fun d h => State.cancelPassage_extends d h) d h
  unfold State.resolveAll
  exact foldl_keeps (P := fun s => front <+: s.rps.records) (act := State.resolveDoor) each (List.finRange 16) h

end Records

/-! ### Entry to BATTERY -/

section Loss

variable {s : State}

/-- R4, R6, R14: the Time Base Unit after the declaration. -/
theorem Tbu.lose_toBattery (t : Tbu) : t.lose.toBattery = lossDeclared t := rfl

theorem State.lose_enterBattery_tbu (s : State) : (s.withTbu s.tbu.lose).enterBattery.tbu = lossDeclared s.tbu :=
  State.enterBattery_tbu _

/-- R14, R79, R86, R166: the blocks on entry to BATTERY. -/
theorem State.enterBattery_entered (s : State) : BatteryEntered s (s.withTbu s.tbu.lose).enterBattery := by
  have reports := (s.withTbu s.tbu.lose).lossReports_touches
  have drc : (s.withTbu s.tbu.lose).lossReports.drc = s.drc := reports.drc
  have blc : (s.withTbu s.tbu.lose).lossReports.blc = s.blc := reports.blc
  refine ⟨s.drc.startSampling.inputs,
    (s.withTbu s.tbu.lose).lossReports.withDrc (s.withTbu s.tbu.lose).lossReports.drc.startSampling,
    fun i => Table.get_map _ _ i, ?_, ?_⟩
  · rw [drc]
    rfl
  · have resolved := (TouchesDoors.resolveAll
      ((s.withTbu s.tbu.lose).lossReports.withDrc (s.withTbu s.tbu.lose).lossReports.drc.startSampling)).blc.trans blc
    rw [State.enterBattery_eq, resolved]
    rfl

/-- R4: a declaration in MAINS that ends no second. -/
theorem State.mainsLoss_of_goesOn (supply : s.tbu.supply = .mains) (goesOn : s.tbu.lossEndsSecond = false) :
    s.mainsLoss = (s.withTbu s.tbu.lose).enterBattery := by
  unfold State.mainsLoss
  dsimp only
  rw [if_pos supply]
  exact if_neg (Bool.not_eq_true _ ▸ goesOn)

/-- R4: a declaration in MAINS at a prescaler that already stands at 32,768 ticks (log 37). -/
theorem State.mainsLoss_of_ends (supply : s.tbu.supply = .mains) (ends : s.tbu.lossEndsSecond = true) :
    s.mainsLoss = (s.withTbu s.tbu.lose).enterBattery.secondBoundary := by
  unfold State.mainsLoss
  dsimp only
  rw [if_pos supply]
  exact if_pos ends

theorem Tbu.lossEndsSecond_iff (t : Tbu) : t.lossEndsSecond = true ↔ t.timeSource = .mainsLocked ∧ 32768 ≤ t.prescaler := by
  unfold Tbu.lossEndsSecond
  rw [Bool.and_eq_true, decide_eq_true_eq, decide_eq_true_eq]
  rfl

theorem exec_mainsLoss {u : State} (running : s.tbu.running = true) (present : s.tbu.mainsWatch = .present)
    (loss : s.mainsLoss = u) : exec .mainsLoss s = .next u.settle := loss ▸ if_pos ⟨running, present⟩

theorem State.lossReports_eq (s : State) : (s.withTbu s.tbu.lose).lossReports =
    ((s.withTbu (lossDeclared s.tbu)).supplyReport .mainsLost none).reportSource s.tbu.timeSource := rfl

/-- R4, R14: the report of a mains loss. -/
def State.mainsLostReport (s : State) : ReportBody :=
  .supply ⟨.mainsLost, .battery, timeSourceOf s.tbu.sourceInEffect .absent, none, s.tbu.calendar⟩

/-- R19: with a spare place and nothing owed, the MAINS_LOST report joins the tail first (log 11). -/
theorem State.lossReports_extends (room : 1 ≤ s.sparePlaces) (clear : s.rps.owed.supply = none) :
    s.rps.records ++ [⟨s.rps.nextSequence, false, s.mainsLostReport⟩] <+:
      (s.withTbu s.tbu.lose).lossReports.rps.records := by
  have stored : (s.withTbu (lossDeclared s.tbu)).supplyReport .mainsLost none =
      (s.withTbu (lossDeclared s.tbu)).store false s.mainsLostReport :=
    State.nonPunch_stores (s := s.withTbu (lossDeclared s.tbu)) (src := .supply) room clear s.mainsLostReport
  rw [State.lossReports_eq, stored]
  refine State.reportSource_extends _ ?_
  rw [State.store_records]
  exact ⟨[], List.append_nil _⟩

theorem State.enterBattery_records (room : 1 ≤ s.sparePlaces) (clear : s.rps.owed.supply = none) :
    ∃ more, (s.withTbu s.tbu.lose).enterBattery.rps.records =
      s.rps.records ++ ⟨s.rps.nextSequence, false, s.mainsLostReport⟩ :: more := by
  have reports := State.lossReports_extends room clear
  rw [State.enterBattery_eq, State.withBlc_rps]
  generalize (s.withTbu s.tbu.lose).lossReports = u at reports ⊢
  generalize sampling : u.withDrc u.drc.startSampling = v
  rw [show u.rps = v.rps from sampling ▸ rfl] at reports
  obtain ⟨more, records⟩ := State.resolveAll_extends reports
  rw [List.append_assoc, List.singleton_append] at records
  exact ⟨more, records.symm⟩

end Loss

/-- Settles O14: the loss enters BATTERY block by block, and where it ends a second, that is a boundary that judges nothing,
the second having begun with the mains PRESENT. -/
theorem mainsLossMakesTheSupplyBattery : Obligations.MainsLossMakesTheSupplyBattery := by
  unfold Obligations.MainsLossMakesTheSupplyBattery
  refine ⟨fun s running present supply goesOn => ?_, fun s h running supply locked late => ?_,
    fun s absent => if_neg fun ⟨_, present⟩ => nomatch absent.symm.trans present⟩
  · have touches := (s.withTbu s.tbu.lose).enterBattery_touches
    have loss := State.mainsLoss_of_goesOn supply (Bool.eq_false_iff.mpr (mt s.tbu.lossEndsSecond_iff.mp goesOn))
    refine ⟨_, _, exec_mainsLoss running present loss, s.enterBattery_entered,
      settled_of_settle rfl, ?_, fun room clear => ?_, ?_, ?_, ?_⟩
    · rw [State.settle_tbu, s.lose_enterBattery_tbu]
    · rw [State.settle_rps]
      exact State.enterBattery_records room clear
    · rw [State.settle_sps]
      exact touches.sps
    · rw [State.settle_btb]
      exact touches.period
    · rw [State.settle_settings]
      exact congrArg Olc.settings touches.olc
  · have present := h.present_of_locked locked
    have loss := State.mainsLoss_of_ends supply (s.tbu.lossEndsSecond_iff.mpr ⟨locked, late⟩)
    have battery := h.loseInMains supply
    have lost := s.lose_enterBattery_tbu
    have runs : (s.withTbu s.tbu.lose).enterBattery.tbu.running = true := by
      rw [lost]
      exact running
    have stays : ¬ returnQualified (s.withTbu s.tbu.lose).enterBattery.tbu := by
      rw [lost]
      exact fun returns => nomatch (h.judged returns.1).symm.trans present
    have passed : SecondPassed (s.withTbu s.tbu.lose).enterBattery.tbu
        (s.withTbu s.tbu.lose).enterBattery.secondBoundary.settle.tbu := by
      rw [State.settle_tbu]
      exact battery.secondPassed runs fun _ returns => absurd returns stays
    obtain ⟨watch, -, low⟩ := passed.notReturned stays
    have unjudged : s.tbu.secondBeganAbsent ≠ true := fun began => nomatch (h.judged began).symm.trans present
    have count := passed.counted stays
    rw [lost] at watch low count
    refine ⟨_, _, exec_mainsLoss running present loss, s.enterBattery_entered,
      passed, battery.boundaryLeaves stays, watch, low, ?_, passed.counters.1, ?_⟩
    · exact count.trans (if_neg fun began => unjudged began.1)
    · rw [passed.calendar, lost]
      rfl

end Sys2Proof.Machine
end

section
/-!
PROOFS. The returns from BATTERY and LOW (R14, R16, R18, R39, R77, R79, R86, R101, R167, R182): the warm-start values of every
block, and what a second boundary leaves where it qualifies the mains. The obligation O12.
-/

namespace Sys2Proof.Machine

open Sys2Proof

/-! ### Warm-start values -/

section Warm

variable {s : State}

/-- The inputs and the gate line at a warm start, before the doors are worked out from them. -/
def State.readInputs (s : State) : State := (s.withGlc s.glc.warm).withDrc s.drc.warm

theorem State.warmBlocks_eq (s : State) : s.warmBlocks = { s with
    glc := s.glc.warm
    drc := { s.drc with
      inputs := s.drc.warm.inputs
      doors := s.drc.doors.map fun r => r.map s.readInputs.freshDoor
      alarm := .off
      pulseTimer := none }
    blc := s.warmBlocks.blc
    olc := { s.olc with assembly := none }
    rps := { s.rps with pause := false } } := by
  unfold State.warmBlocks State.warmBells
  dsimp only
  split
  · rfl
  · rfl

theorem Glc.warm_eq (g : Glc) : g.warm = { g with
    stations := g.warm.stations
    line := if g.sending = none then .free else g.line
    grant := none, probed := none, probeWait := none, restTimer := none
    timePending := false, pendingProbes := 0, displayQueue := [] } := by
  unfold Glc.warm Glc.releaseLine
  dsimp only
  cases g.sending with
  | none => rfl
  | some frame => rfl

theorem Glc.warm_stations (g : Glc) : g.warm.stations = g.stations.map Station.warm := by
  unfold Glc.warm Glc.releaseLine
  split
  · rfl
  · rfl

/-- R39: a configured station is IDLE at a warm start, and an unconfigured one is left alone. -/
theorem Station.warm_eq (r : Station) : r.warm = match r.config with
    | some c => ⟨some c, .idle, 0, none⟩
    | none => r := by
  unfold Station.warm
  cases config : r.config with
  | none => rfl
  | some c =>
    obtain ⟨_, _, _, _⟩ := r
    cases config
    rfl

/-- R82, R101: a door worked out afresh depends on the time base, the inputs and the schedules alone. -/
theorem doorAfresh_congr {t : State} (tbu : t.tbu = s.tbu) (inputs : t.drc.inputs = s.drc.inputs)
    (schedules : t.drc.schedules = s.drc.schedules) (c : DoorConfig) (o : Override) :
    doorAfresh t c o = doorAfresh s c o := by
  unfold doorAfresh State.accepted
  rw [(SameRules.of_eq tbu inputs schedules).resolveMode, inputs]

/-- R167: an active evacuation input alone rings at a warm start. -/
theorem State.warmBlocks_blc (s : State) : s.warmBlocks.blc =
    if (s.drc.warm.inputs.get 32).accepted = true then s.blc.silence.evacuate s.olc.settings.evacuationPattern
    else s.blc.silence := by
  change (State.warmBells s.readInputs.freshDoors).blc = _
  unfold State.warmBells
  split
  · next active => exact (if_pos active).symm
  · next quiet => exact (if_neg quiet).symm

/-- R39, R77, R81, R101, R167, R182, R183: the blocks at a warm start. -/
theorem State.warmBlocks_values (s : State) : WarmValues s s.warmBlocks where
  others := by
    have blocks := s.warmBlocks_eq
    rw [blocks]
  gate := by
    rw [State.warmBlocks_glc]
    exact s.glc.warm_eq
  stations i := by
    rw [State.warmBlocks_glc, Glc.warm_stations, Table.get_map, Station.warm_eq]
    rfl
  inputs i active read := by
    have inputs : s.warmBlocks.drc.inputs = s.drc.warm.inputs := by rw [s.warmBlocks_eq]
    rw [inputs, reads_iff.mp read]
    exact Table.get_map _ _ i
  doors d := by
    have doors : s.warmBlocks.drc.doors = s.drc.doors.map fun r => r.map s.readInputs.freshDoor := by
      rw [s.warmBlocks_eq]
    have inputs : s.warmBlocks.drc.inputs = s.drc.warm.inputs := by rw [s.warmBlocks_eq]
    have schedules : s.warmBlocks.drc.schedules = s.drc.schedules := by rw [s.warmBlocks_eq]
    rw [doors, Table.get_map]
    refine congrArg (fun f => Option.map f (s.drc.doors.get d)) (funext fun r => ?_)
    rw [State.freshDoor_eq]
    exact (doorAfresh_congr (s := s.readInputs) s.warmBlocks_tbu inputs schedules _ _).symm
  bells := by
    have inputs : s.warmBlocks.drc.inputs = s.drc.warm.inputs := by rw [s.warmBlocks_eq]
    rw [State.warmBlocks_blc, inputs]
    rfl

end Warm

/-! ### Passages cancelled -/

section Cancelled

variable {s : State}

/-- R74: the passages that a cancel leaves are those at the other doors. -/
theorem State.cancelPassage_remaining (s : State) (d : DoorId) :
    (s.cancelPassage d).pev.passages = s.pev.passages.filter fun q => q.door != d := by
  unfold State.cancelPassage
  split
  · next absent =>
    refine (List.filter_eq_self.mpr fun q mem => ?_).symm
    have other := List.find?_eq_none.mp absent q mem
    exact bne_iff_ne.mpr fun same => other (beq_iff_eq.mpr same)
  · exact congrArg Pev.passages (TouchesStore.emitOwed _).pev

theorem State.foldl_cancelPassage_remaining (l : List DoorId) (s : State) :
    (l.foldl State.cancelPassage s).pev.passages = s.pev.passages.filter fun q => q.door ∉ l := by
  induction l generalizing s with
  | nil => exact (List.filter_eq_self.mpr fun q _ => decide_eq_true List.not_mem_nil).symm
  | cons d rest ih =>
    rw [List.foldl_cons, ih, State.cancelPassage_remaining, List.filter_filter]
    refine List.filter_congr fun q _ => ?_
    rw [Bool.eq_iff_iff]
    simp [and_comm]

/-- R77: no passage is pending once those at every door are cancelled. -/
theorem State.cancelAll_passages (s : State) : s.cancelAll.pev.passages = [] := by
  unfold State.cancelAll
  rw [State.foldl_cancelPassage_remaining]
  exact List.filter_eq_nil_iff.mpr fun q _ => by simp [List.mem_finRange]

theorem State.cancelAll_eq (s : State) : s.cancelAll = (List.finRange 16).foldl State.cancelPassage s := rfl

/-- R54, R77: with the conflict set emptied too, the Punch Evaluator holds nothing. -/
theorem State.abandon_eq (s : State) : s.abandon = s.cancelAll.withPev Pev.cold := by
  have none := s.cancelAll_passages
  change s.cancelAll.withPev ⟨s.cancelAll.pev.passages, 0⟩ = _
  rw [none]
  rfl

theorem State.emitSource_withTbu (s : State) (x : Tbu) (src : ReportSource) :
    (s.withTbu x).emitSource src = (s.emitSource src).withTbu x := by
  unfold State.emitSource
  rw [State.withTbu_rps]
  cases s.rps.owed.held src with
  | none => rfl
  | some body =>
    dsimp only
    split
    · next room => rw [if_pos (by exact room)]; rfl
    · next full => rw [if_neg (by exact full)]

theorem State.emitOwed_withTbu (s : State) (x : Tbu) : (s.withTbu x).emitOwed = s.emitOwed.withTbu x := by
  unfold State.emitOwed
  generalize emissionOrder = l
  induction l generalizing s with
  | nil => rfl
  | cons src rest ih => rw [List.foldl_cons, List.foldl_cons, State.emitSource_withTbu, ih]

/-- R74: of the Time Base Unit a cancel reads the calendar alone. -/
theorem State.cancelPassage_withTbu {x : Tbu} (calendar : x.calendar = s.tbu.calendar) (d : DoorId) :
    (s.withTbu x).cancelPassage d = (s.cancelPassage d).withTbu x := by
  unfold State.cancelPassage
  rw [show (s.withTbu x).passageAt d = s.passageAt d from rfl]
  cases s.passageAt d with
  | none => rfl
  | some p =>
    dsimp only
    rw [State.withTbu_tbu, calendar, ← State.emitOwed_withTbu]
    rfl

theorem State.cancelAll_withTbu {x : Tbu} (calendar : x.calendar = s.tbu.calendar) :
    (s.withTbu x).cancelAll = s.cancelAll.withTbu x := by
  unfold State.cancelAll
  generalize List.finRange 16 = l
  induction l generalizing s with
  | nil => rfl
  | cons d rest ih =>
    rw [List.foldl_cons, List.foldl_cons, State.cancelPassage_withTbu calendar]
    exact ih (by rw [calendar, (TouchesPlant.cancelPassage s d).tbu])

end Cancelled

/-! ### Boundaries that qualify the mains -/

section Returns

variable {s t : State}

/-- The TIME report of a boundary is made on the boundary's own Time Base Unit, or on one brought further. -/
theorem State.timeReport_twice (s : State) (b x : Tbu) (r : Option TimeReport) :
    ((s.withTbu b).timeReport r).withTbu x = (s.withTbu x).timeReport r := by
  rw [State.timeReport_withTbu, State.timeReport_withTbu]
  rfl

/-- R8: the reports of a boundary that qualifies the mains come before what that leads to. -/
theorem State.secondBoundary_of_qualifies (qualified : s.tbu.qualifies = true) : s.secondBoundary =
    (((s.withTbu s.tbu.boundary).timeReport s.tbu.advance.report).mainsReturn s.tbu.advance.event).withTbu
      s.secondBoundary.tbu := by
  unfold State.secondBoundary
  dsimp only
  rw [if_pos qualified]
  generalize State.mainsReturn _ _ = u
  rfl

theorem State.mainsReturn_of_battery (battery : s.tbu.supply = .battery) (e : Option MinuteEvent) :
    s.mainsReturn e = s.restoreMains.minuteEvent? e := by
  unfold State.mainsReturn
  rw [battery]

theorem State.mainsReturn_of_low (low : s.tbu.supply = .low) (intact : s.tbu.backupIntact = true)
    (e : Option MinuteEvent) : s.mainsReturn e = s.warmStartFromLow := by
  unfold State.mainsReturn
  rw [low]
  exact if_pos intact

/-- R16, R54, R77: the passages are cancelled and the reports are made on the Time Base Unit of the warm start. -/
theorem State.wakeReports_eq (s : State) : s.wakeReports =
    sourceReported (supplyReported ((s.withTbu s.tbu.warmFromLow).cancelAll.withPev Pev.cold) .warmStart)
      s.tbu.timeSource := by
  unfold State.wakeReports
  rw [State.abandon_eq, State.cancelAll_withTbu (x := s.tbu.warmFromLow) rfl]
  generalize s.cancelAll = u
  rfl

/-- R14, R16: the reports of a boundary change neither the supply state nor the backup domain. -/
theorem State.boundaryReport_supply (s : State) :
    ((s.withTbu s.tbu.boundary).timeReport s.tbu.advance.report).tbu.supply = s.tbu.supply
    ∧ ((s.withTbu s.tbu.boundary).timeReport s.tbu.advance.report).tbu.backupIntact = s.tbu.backupIntact := by
  rw [State.timeReport_tbu, State.withTbu_tbu, s.tbu.boundary_eq]
  exact ⟨rfl, rfl⟩

/-- R14, R79, R86: a boundary that ends BATTERY. -/
theorem TimeOk.restoresMains (h : TimeOk s) (returns : returnQualified s.tbu) (battery : s.tbu.supply = .battery) :
    RestoresMains s s.secondBoundary.settle := by
  have qualified := Tbu.qualifies_iff.mpr returns
  have follows : s.secondBoundary.settle.tbu = (s.tbu.boundary.toMains.takeEvent s.tbu.advance.event).startSecond := by
    rw [State.settle_tbu, State.secondBoundary_tbu]
    unfold Tbu.followReturn
    rw [if_pos qualified, battery]
  have calendar : s.tbu.boundary.calendar = nextReading s.tbu := by rw [s.tbu.boundary_eq, s.tbu.advance_calendar]
  have source : s.tbu.boundary.timeSource = s.tbu.timeSource := by rw [s.tbu.boundary_eq]
  have base : BoundaryBase s ((s.withTbu s.tbu.boundary.toMains).timeReport s.tbu.advance.report) s.secondBoundary.settle
      s.tbu.advance.event := by
    refine h.boundaryBase (x := s.tbu.boundary.toMains) calendar ?_ ?_ ?_
    · rw [follows]; simp
    · rw [follows]; simp
    · rw [follows]; simp
  have reports : ((s.withTbu s.tbu.boundary).timeReport s.tbu.advance.report).returnReports =
      sourceReported (supplyReported ((s.withTbu s.tbu.boundary.toMains).timeReport s.tbu.advance.report) .mainsRestored)
        s.tbu.timeSource := by
    unfold State.returnReports
    rw [State.timeReport_tbu, State.withTbu_tbu, source, State.timeReport_twice]
    rfl
  have drc : ((s.withTbu s.tbu.boundary).timeReport s.tbu.advance.report).returnReports.drc = s.drc :=
    (State.returnReports_touches _).drc.trans (TouchesStore.timeReport _ _).drc
  have boundary := State.secondBoundary_of_qualifies qualified
  rw [State.mainsReturn_of_battery (s.boundaryReport_supply.1.trans battery), State.restoreMains_eq, drc, reports,
    ← minuteTaken_eq] at boundary
  refine ⟨_, _, s.drc.startWatching.inputs, _, base, fun i active read => ?_, rfl, ?_⟩
  · rw [reads_iff.mp read]
    exact (Table.get_map _ _ i).trans (Input.watch_eq _)
  · rw [State.settle_tbu]
    exact settled_of_settle boundary

/-- R16, R18, R54, R77: a boundary that ends LOW with the backup domain intact. -/
theorem TimeOk.warmStartsFromLow (h : TimeOk s) (returns : returnQualified s.tbu) (low : s.tbu.supply = .low)
    (intact : s.tbu.backupIntact = true) : WarmStartsFromLow s s.secondBoundary.settle := by
  have qualified := Tbu.qualifies_iff.mpr returns
  have follows : s.secondBoundary.settle.tbu = s.tbu.boundary.warmFromLow.restartEvent.startSecond := by
    rw [State.settle_tbu, State.secondBoundary_tbu]
    unfold Tbu.followReturn
    rw [if_pos qualified, low]
    dsimp only
    rw [if_pos intact]
  have calendar : s.tbu.boundary.calendar = nextReading s.tbu := by rw [s.tbu.boundary_eq, s.tbu.advance_calendar]
  have source : s.tbu.boundary.timeSource = s.tbu.timeSource := by rw [s.tbu.boundary_eq]
  have base : BoundaryBase s ((s.withTbu s.tbu.boundary.warmFromLow).timeReport s.tbu.advance.report)
      s.secondBoundary.settle s.tbu.advance.event := by
    refine h.boundaryBase (x := s.tbu.boundary.warmFromLow) calendar ?_ ?_ ?_
    · rw [follows, Tbu.startSecond_supply]; rfl
    · rw [follows, Tbu.startSecond_valid]; rfl
    · rw [follows, Tbu.startSecond_timeSource]; rfl
  have reports : ((s.withTbu s.tbu.boundary).timeReport s.tbu.advance.report).wakeReports =
      sourceReported (supplyReported (((s.withTbu s.tbu.boundary.warmFromLow).timeReport
        s.tbu.advance.report).cancelAll.withPev Pev.cold) .warmStart) s.tbu.timeSource := by
    rw [State.wakeReports_eq, State.timeReport_tbu, State.withTbu_tbu, source, State.timeReport_twice]
  obtain ⟨supply, backup⟩ := s.boundaryReport_supply
  have boundary := State.secondBoundary_of_qualifies qualified
  rw [State.mainsReturn_of_low (supply.trans low) (backup.trans intact), State.warmStartFromLow_eq, reports] at boundary
  generalize (s.withTbu s.tbu.boundary.warmFromLow).timeReport s.tbu.advance.report = u at base boundary
  have values := State.warmBlocks_values
    (sourceReported (supplyReported (u.cancelAll.withPev Pev.cold) .warmStart) s.tbu.timeSource)
  generalize State.warmBlocks _ = w at boundary values
  refine ⟨u, _, u.cancelAll, w, base, State.cancelAll_eq u, values, ?_⟩
  rw [State.settle_tbu]
  exact settled_of_settle boundary

end Returns

/-- Settles O12: the boundary stays in its supply state, or ends BATTERY, or ends LOW. -/
theorem crystalSecondEnds : Obligations.CrystalSecondEnds := by
  unfold Obligations.CrystalSecondEnds
  intro n s h running crystal intact
  have passed : SecondPassed s.tbu s.secondBoundary.settle.tbu := by
    rw [State.settle_tbu]
    exact h.secondPassed running intact
  refine ⟨s.secondBoundary.settle, ?_, passed, fun still stays source =>
    BoundaryLeaves.quiet (h.boundaryLeaves stays) h passed stays still source, h.boundaryLeaves, h.restoresMains,
    fun returns low => h.warmStartsFromLow returns low (intact low returns)⟩
  change execCrystalSecondEnd s = _
  unfold execCrystalSecondEnd
  rw [running, crystal]

end Sys2Proof.Machine
end

section
/-!
PROOFS. RESET (R182): the warm start of every block, and what it keeps. The obligation O8.
-/

namespace Sys2Proof.Machine

open Sys2Proof

/-! ### Badges -/

/-- The fields of a badge that a warm start and its RESTART event keep. -/
def Badge.fixed (b : Badge) : Nat × CrewId × ClassId × DoorSet × BadgeFlags × Option Totals :=
  (b.number, b.crew, b.payClass, b.doors, b.flags, b.closed)

section Books

variable {s : State}

/-- A change of entries that keeps what is read of each keeps what is read of all. -/
theorem State.updateBadge_map {β : Type} {g : Badge → β} {f : Badge → Badge} (same : ∀ b, g (f b) = g b) (s : State)
    (n : Nat) : (s.updateBadge n f).btb.entries.map g = s.btb.entries.map g := by
  change (s.btb.entries.map fun b => if b.number = n then f b else b).map g = _
  rw [List.map_map]
  refine List.map_congr_left fun b _ => ?_
  dsimp only [Function.comp]
  split
  · exact same b
  · rfl

theorem State.emitOwed_entries (s : State) : s.emitOwed.btb = s.btb := (TouchesStore.emitOwed s).btb

/-- R74, R49: a cancel changes the last accepted punch of its badge and the saved one alone. -/
theorem State.cancelPassage_map {β : Type} {g : Badge → β} (same : ∀ b, g b.afterCancel = g b) (s : State) (d : DoorId) :
    (s.cancelPassage d).btb.entries.map g = s.btb.entries.map g := by
  unfold State.cancelPassage
  split
  · rfl
  · rw [State.emitOwed_entries]
    exact State.updateBadge_map same (s.removePassage d) _

theorem State.cancelAll_map {β : Type} {g : Badge → β} (same : ∀ b, g b.afterCancel = g b) (s : State) :
    s.cancelAll.btb.entries.map g = s.btb.entries.map g := by
  unfold State.cancelAll
  exact foldl_keeps (P := fun t => t.btb.entries.map g = s.btb.entries.map g) (act := State.cancelPassage)
    (fun {t} d h => (State.cancelPassage_map same t d).trans h) (List.finRange 16) rfl

/-- What the walk and the resolutions of a minute boundary event keep of the books: the fixed fields of every badge and the
pause flag, which are those of `s`. -/
structure BooksFixed (s t : State) : Prop where
  badges : t.btb.entries.map Badge.fixed = s.btb.entries.map Badge.fixed
  pause : t.rps.pause = s.rps.pause

theorem State.emitOwed_pause (s : State) : s.emitOwed.rps.pause = s.rps.pause := by
  unfold State.emitOwed
  refine foldl_keeps (P := fun t => t.rps.pause = s.rps.pause) (act := State.emitSource) (fun {t} src h => ?_) _ rfl
  unfold State.emitSource
  split
  · exact h
  · split
    · exact h
    · exact h

variable {t : State}

namespace BooksFixed

theorem store (h : BooksFixed s t) (o : Bool) (b : ReportBody) : BooksFixed s (t.store o b) := ⟨h.badges, h.pause⟩

theorem updateBadge {f : Badge → Badge} (same : ∀ b, (f b).fixed = b.fixed) (h : BooksFixed s t) (n : Nat) :
    BooksFixed s (t.updateBadge n f) := ⟨(t.updateBadge_map same n).trans h.badges, h.pause⟩

theorem emitOwed (h : BooksFixed s t) : BooksFixed s t.emitOwed :=
  ⟨by rw [State.emitOwed_entries]; exact h.badges, t.emitOwed_pause.trans h.pause⟩

theorem closeRecord (h : BooksFixed s t) (b : Badge) (r : OpenRecord) (cause : CloseCause) (form : CloseForm) :
    BooksFixed s (t.closeRecord b r cause form) := by
  unfold State.closeRecord
  exact (h.updateBadge (by intro b; rfl) _).store _ _

theorem commitWork (h : BooksFixed s t) (a : Accepted) : BooksFixed s (t.commitWork a) := by
  unfold State.commitWork
  split
  · exact h.store _ _
  · split
    · exact (h.updateBadge (by intro b; rfl) _).store _ _
    · unfold State.commitExit
      split
      · exact (h.store _ _).closeRecord _ _ _ _
      · exact (h.updateBadge (by intro b; rfl) _).store _ _
    · exact h.store _ _

theorem removePassage (h : BooksFixed s t) (d : DoorId) : BooksFixed s (t.removePassage d) := ⟨h.badges, h.pause⟩

theorem commitPassage (h : BooksFixed s t) (d : DoorId) (free : Bool) : BooksFixed s (t.commitPassage d free) := by
  unfold State.commitPassage
  split
  · exact h
  · dsimp only
    refine emitOwed ?_
    refine commitWork ?_ _
    exact (h.removePassage d).updateBadge (by intro b; rfl) _

theorem cancelPassage (h : BooksFixed s t) (d : DoorId) : BooksFixed s (t.cancelPassage d) := by
  unfold State.cancelPassage
  split
  · exact h
  · refine emitOwed ?_
    exact ((h.removePassage d).updateBadge (by intro b; rfl) _).store _ _

theorem resolveAll (h : BooksFixed s t) : BooksFixed s t.resolveAll := by
  have each : ∀ {u : State} (d : DoorId), BooksFixed s u → BooksFixed s (u.resolveDoor d) :=
    fun d h => State.resolveDoor_keeps (P := BooksFixed s) (fun _ _ h => ⟨h.badges, h.pause⟩)
      (fun d free h => commitPassage h d free) (fun d h => cancelPassage h d) d h
  unfold State.resolveAll
  exact foldl_keeps (P := BooksFixed s) (act := State.resolveDoor) each (List.finRange 16) h

theorem autoClose (h : BooksFixed s t) (now : Nat) : BooksFixed s (t.autoClose now) := by
  unfold State.autoClose
  rw [autoCloseFrom_eq]
  refine foldl_keeps (P := BooksFixed s) (act := autoClosed) (fun {u} b h => ?_) _ h
  unfold autoClosed
  split
  · exact h
  · exact h.closeRecord _ _ _ _

end BooksFixed

end Books

/-! ### Doors, passages and bells -/

section Plant

variable {s : State}

/-- The configuration and the override of the doors. -/
def State.doorRules (s : State) (d : DoorId) : Option (DoorConfig × Override) :=
  (s.drc.doors.get d).map fun r => (r.config, r.override)

theorem State.resolveDoor_rules (s : State) (d e : DoorId) : (s.resolveDoor d).doorRules e = s.doorRules e := by
  unfold State.resolveDoor
  split
  · rfl
  · next r found =>
    dsimp only
    split
    · rfl
    · obtain ⟨x, drc, config, override, -⟩ := s.changeMode_doors d r (s.resolveMode r.config r.override)
      unfold State.doorRules
      rw [drc, State.setDoor_doors]
      split
      · next same =>
        rw [← same, found, Option.map_some, Option.map_some, config, override]
      · rfl

/-- R86: the resolutions keep the configuration and the override of every door. -/
theorem State.resolveAll_rules (s : State) (e : DoorId) : s.resolveAll.doorRules e = s.doorRules e := by
  unfold State.resolveAll
  exact foldl_keeps (P := fun t => t.doorRules e = s.doorRules e) (act := State.resolveDoor)
    (fun {t} d h => (t.resolveDoor_rules d e).trans h) (List.finRange 16) rfl

/-- R70: with no passage pending the resolutions leave the Punch Evaluator alone. -/
theorem State.resolveAll_noPassage (empty : s.pev = Pev.cold) : s.resolveAll.pev = Pev.cold := by
  have none : ∀ {t : State} (d : DoorId), t.pev = Pev.cold → t.passageAt d = none := fun d empty => by
    unfold State.passageAt
    rw [empty]
    rfl
  have each : ∀ {t : State} (d : DoorId), t.pev = Pev.cold → (t.resolveDoor d).pev = Pev.cold :=
    fun d h => State.resolveDoor_keeps (P := fun t => t.pev = Pev.cold) (fun _ _ h => h)
      (fun d free h => by unfold State.commitPassage; rw [none d h]; exact h)
      (fun d h => by unfold State.cancelPassage; rw [none d h]; exact h) d h
  unfold State.resolveAll
  exact foldl_keeps (P := fun t => t.pev = Pev.cold) (act := State.resolveDoor) each (List.finRange 16) empty

/-- What the evaluation of bell entries keeps: the patterns, and which entries there are. -/
structure BellsKept (b b' : Blc) : Prop where
  patterns : b'.patterns = b.patterns
  entries : ∀ n, (b'.entries.get n).isSome = (b.entries.get n).isSome

theorem BellsKept.refl (b : Blc) : BellsKept b b := ⟨rfl, fun _ => rfl⟩

theorem BellsKept.trans {a b c : Blc} (h : BellsKept a b) (h' : BellsKept b c) : BellsKept a c :=
  ⟨h'.patterns.trans h.patterns, fun n => (h'.entries n).trans (h.entries n)⟩

theorem Blc.evaluateMinute_kept (p : Sps) (battery : Bool) (b : Blc) (m : Nat) : BellsKept b (b.evaluateMinute p battery m) := by
  obtain ⟨patterns, kept, rung, -⟩ := Blc.evaluate_evaluated (p := p) (battery := battery) (m := m) (List.nodup_finRange 96) b
  refine ⟨patterns, fun n => ?_⟩
  unfold Blc.evaluateMinute
  by_cases ringing : n ∈ b.ringing p m (List.finRange 96)
  · cases entry : b.entries.get n with
    | none =>
      obtain ⟨-, e, isEntry, -⟩ := Blc.mem_ringing.mp ringing
      exact nomatch entry.symm.trans isEntry
    | some e => rw [rung n e ringing entry]; rfl
  · rw [kept n ringing]

theorem State.rung_bells (s : State) (e : MinuteEvent) : BellsKept s.blc (s.rung e).blc := by
  unfold State.rung
  rw [State.withBlc_blc]
  generalize s.minutesOf e = minutes
  generalize s.blc = b
  induction minutes generalizing b with
  | nil => exact .refl b
  | cons m rest ih =>
    rw [List.foldl_cons]
    exact (Blc.evaluateMinute_kept _ _ b m).trans (ih _)

theorem State.warmBlocks_bells (s : State) : BellsKept s.blc s.warmBlocks.blc := by
  rw [State.warmBlocks_blc]
  split
  · exact ⟨rfl, fun _ => rfl⟩
  · exact ⟨rfl, fun _ => rfl⟩

/-! ### A minute boundary event without passages -/

/-- What a minute boundary event outside LOW keeps where no passage is pending. -/
structure MinuteKept (s t : State) : Prop where
  books : BooksFixed s t
  rules : ∀ d, t.doorRules d = s.doorRules d
  pev : t.pev = Pev.cold
  drc : t.drc = { s.drc with doors := t.drc.doors }
  sps : t.sps = s.sps
  period : t.btb.period = s.btb.period
  closedBlock : t.btb.closedBlock = s.btb.closedBlock
  bells : BellsKept s.blc t.blc

theorem TouchesDoors.frame {t : State} (h : TouchesDoors s t) : t.drc = { s.drc with doors := t.drc.doors } := by
  obtain ⟨_, _, _, _, rfl⟩ := h
  rfl

theorem State.payAndDoors_of_none (none : s.pev.passages.isEmpty = true) (now : Nat) :
    s.payAndDoors now = (s.autoClose now).resolveAll := by
  unfold State.payAndDoors
  rw [if_pos none, State.closeThenResolve]

/-- R12: with no passage pending, the Pay Calculator walks before the doors are resolved. -/
theorem State.minuteEvent_kept (notLow : s.tbu.supply ≠ .low) (empty : s.pev = Pev.cold) (e : MinuteEvent) :
    MinuteKept s (s.minuteEvent e) := by
  have none : (s.rung e).pev.passages.isEmpty = true := by
    rw [show (s.rung e).pev = s.pev from rfl, empty]
    rfl
  have event : s.minuteEvent e = (((s.rung e).autoClose e.minute).resolveAll).withGlc s.glc.minuteEvent := by
    rw [State.minuteEvent_of_not_low notLow, State.bellMinute_eq, State.payAndDoors_of_none none]
  have bells := s.rung_bells e
  have walk := TouchesBadges.autoClose (s.rung e) e.minute
  have doors := TouchesDoors.resolveAll ((s.rung e).autoClose e.minute)
  have touched : TouchesDoors (s.rung e) ((s.rung e).autoClose e.minute).resolveAll := walk.doors.trans doors
  have rung : BooksFixed s (s.rung e) := ⟨rfl, rfl⟩
  have books := (rung.autoClose e.minute).resolveAll
  have pev : ((s.rung e).autoClose e.minute).pev = Pev.cold := walk.pev.trans empty
  have rules : ∀ d, ((s.rung e).autoClose e.minute).resolveAll.doorRules d = s.doorRules d := fun d => by
    rw [State.resolveAll_rules]
    unfold State.doorRules
    rw [walk.drc]
    rfl
  have left := State.resolveAll_noPassage pev
  have blc : ((s.rung e).autoClose e.minute).resolveAll.blc = (s.rung e).blc := touched.blc
  rw [event]
  generalize ((s.rung e).autoClose e.minute).resolveAll = u at *
  have plant := touched.plant
  exact ⟨⟨books.badges, books.pause⟩, rules, left, touched.frame, plant.sps, plant.period, plant.closedBlock, blc ▸ bells⟩

end Plant

/-! ### RESET -/

section Reset

variable {s : State}

theorem Glc.sendOwn_stations (g : Glc) (reading : Nat) (quality : ClockQuality) :
    (g.sendOwn reading quality).stations = g.stations := by
  unfold Glc.sendOwn
  split
  · rfl
  · split
    · rfl
    · unfold Glc.sendDisplay
      split
      · rfl
      · rfl

/-- R24, R34: a gate line that goes on leaves the records of the stations. -/
theorem Glc.weigh_stations (g : Glc) (reading : Nat) (quality : ClockQuality) (spare : Nat) :
    (g.weigh reading quality spare).stations = g.stations := by
  unfold Glc.weigh
  split
  · dsimp only
    split
    · exact g.sendOwn_stations reading quality
    · exact g.sendOwn_stations reading quality
  · rfl

theorem doorAfresh_rules (s : State) (c : DoorConfig) (o : Override) :
    (doorAfresh s c o).config = c ∧ (doorAfresh s c o).override = o := by
  unfold doorAfresh
  split
  · exact ⟨rfl, rfl⟩
  · split
    · exact ⟨rfl, rfl⟩
    · exact ⟨rfl, rfl⟩

/-- R182: the blocks at a RESET before its RESTART event: the passages cancelled, the WARM_START report made, and the
warm-start values taken. -/
def State.resetBlocks (s : State) : State := (supplyReported (s.cancelAll.withPev Pev.cold) .warmStart).warmBlocks

theorem State.resetReports_touches (s : State) :
    TouchesStore (s.cancelAll.withPev Pev.cold) (supplyReported (s.cancelAll.withPev Pev.cold) .warmStart) :=
  .supplyReport _ _ _

theorem State.resetBlocks_tbu (s : State) : s.resetBlocks.tbu = s.tbu := by
  unfold State.resetBlocks
  rw [State.warmBlocks_tbu, s.resetReports_touches.tbu, State.withPev_tbu]
  exact (TouchesPlant.cancelAll s).tbu

theorem State.resetBlocks_values (s : State) :
    WarmValues (supplyReported (s.cancelAll.withPev Pev.cold) .warmStart) s.resetBlocks := State.warmBlocks_values _

theorem State.supplyReport_reported (s : State) (event : SupplyEvent) :
    s.supplyReport event none = supplyReported s event := rfl

theorem State.warmStart_event (s : State) : s.warmStart = s.resetBlocks.minuteEvent ⟨.restart, s.tbu.calendar / 60, none⟩ := by
  have blocks : (s.abandon.supplyReport .warmStart none).warmBlocks = s.resetBlocks := by
    rw [State.abandon_eq, State.supplyReport_reported, State.resetBlocks]
  have minute : s.resetBlocks.minute = s.tbu.calendar / 60 := by
    unfold State.minute
    rw [s.resetBlocks_tbu]
    rfl
  rw [State.warmStart_eq, blocks, State.restartEvent, minute]

/-- R182: what the warm-start values of a RESET keep. -/
structure ResetKept (s w : State) : Prop where
  rules : ∀ d, w.doorRules d = s.doorRules d
  schedules : w.drc.schedules = s.drc.schedules
  alarm : w.drc.alarm = .off ∧ w.drc.pulseTimer = none
  inputs : ∀ i, (w.drc.inputs.get i).accepted = (s.drc.inputs.get i).logical
  badges : w.btb.entries.map Badge.fixed = s.btb.entries.map Badge.fixed
  pause : w.rps.pause = false
  pev : w.pev = Pev.cold
  sps : w.sps = s.sps
  period : w.btb.period = s.btb.period
  closedBlock : w.btb.closedBlock = s.btb.closedBlock
  bells : BellsKept s.blc w.blc

theorem State.cancelAll_touches (s : State) : TouchesPassages s s.cancelAll := by
  unfold State.cancelAll
  exact foldl_keeps (P := TouchesPassages s) (act := State.cancelPassage)
    (fun {t} d h => h.trans (TouchesPassages.cancelPassage t d)) (List.finRange 16) (.refl s)

theorem State.resetBlocks_kept (s : State) : ResetKept s s.resetBlocks := by
  have cancels := s.cancelAll_touches
  have plant := TouchesPlant.cancelAll s
  have reports := s.resetReports_touches
  have badges := s.cancelAll_map (g := Badge.fixed) (fun _ => rfl)
  unfold State.resetBlocks
  generalize supplyReported (s.cancelAll.withPev Pev.cold) .warmStart = r at *
  generalize s.cancelAll = c at *
  have values := r.warmBlocks_values
  have drc : r.drc = s.drc := reports.drc.trans cancels.drc
  have btb : r.btb = c.btb := reports.btb
  have warm : r.warmBlocks.drc = { r.drc with
      inputs := r.warmBlocks.drc.inputs, doors := r.warmBlocks.drc.doors, alarm := .off, pulseTimer := none } :=
    congrArg State.drc values.others
  exact {
    rules := fun d => by
      unfold State.doorRules
      rw [values.doors d, drc]
      cases s.drc.doors.get d with
      | none => rfl
      | some x =>
        obtain ⟨config, override⟩ := doorAfresh_rules r.warmBlocks x.config x.override
        rw [Option.map_some, Option.map_some, Option.map_some, config, override]
    schedules := by rw [warm, drc]
    alarm := by rw [warm]; exact ⟨rfl, rfl⟩
    inputs := fun i => by rw [values.inputs i _ (reads_iff.mpr rfl), drc]
    badges := by rw [State.warmBlocks_btb, btb]; exact badges
    pause := by rw [State.warmBlocks_rps]
    pev := by rw [State.warmBlocks_pev]; exact reports.pev
    sps := (congrArg State.sps values.others).trans (reports.sps.trans plant.sps)
    period := by rw [State.warmBlocks_btb, btb]; exact plant.period
    closedBlock := by rw [State.warmBlocks_btb, btb]; exact plant.closedBlock
    bells := (show r.blc = s.blc from reports.blc.trans cancels.doors.blc) ▸ r.warmBlocks_bells }

theorem done_replied {u : State} (notLow : u.tbu.supply ≠ .low) (r : ReplyResult) (kind : Nat) :
    Replied u kind .ok r ((done u r).reply kind) := (done u r).reply_replied kind notLow

theorem done_answer (u : State) (r : ReplyResult) (kind : Nat) : (done u r).reply kind = u.answer ⟨kind, .ok, r⟩ :=
  (done u r).reply_eq_answer kind

theorem reset_work (s : State) : commandWork s (.reset (.fields ())) = done s.warmStart .none := rfl

end Reset

/-- Settles O8: the warm-start values keep what they do not set, and so does the RESTART event, no passage being pending. -/
theorem resetWarmStartsThePart : Obligations.ResetWarmStartsThePart := by
  unfold Obligations.ResetWarmStartsThePart
  intro s takes
  have kept := s.resetBlocks_kept
  have notLow : s.resetBlocks.tbu.supply ≠ .low := by
    rw [s.resetBlocks_tbu]
    exact takes.1
  have event := State.minuteEvent_kept notLow kept.pev ⟨.restart, s.tbu.calendar / 60, none⟩
  have started : s.warmStart.tbu.supply ≠ .low := by
    rw [State.warmStart_tbu]
    exact takes.1
  have replied := done_replied started .none 0x2D
  have answer := done_answer s.warmStart .none 0x2D
  have after := exec_of_takes (c := .reset (.fields ())) rfl takes
  rw [reset_work] at after
  have cancels := s.cancelAll_eq
  have values := s.resetBlocks_values
  have cancelled := s.cancelAll_map (g := fun b => (b.number, b.crew, b.payClass, b.doors, b.flags, b.presence, b.record,
    b.current, b.carry, b.closed)) (fun _ => rfl)
  have isEvent := s.warmStart_event
  have tbu := s.warmStart_tbu
  have olc := s.warmStart_olc
  have glc := s.warmStart_glc
  rw [← isEvent] at event
  generalize (done s.warmStart .none).reply 0x2D = t at replied answer after
  generalize s.warmStart = u at *
  generalize s.cancelAll = c at cancels values cancelled
  generalize s.resetBlocks = w at *
  refine ⟨t, c, w, after, cancels, values, ?_, cancelled, ?_, ?_, ?_, ?_, ?_, ?_, ?_,
    ?_, ?_, ?_, ?_, ?_, ?_, ?_, ?_, ?_, ?_, ?_, ?_⟩
  · rw [← isEvent]
    exact replied
  · intro d x found
    have rules : t.doorRules d = some (x.config, x.override) := by
      have same : t.doorRules d = u.doorRules d := by
        unfold State.doorRules
        rw [answer, State.answer_drc]
      rw [same, event.rules, kept.rules]
      unfold State.doorRules
      rw [found]
      rfl
    obtain ⟨y, isDoor, both⟩ := Option.map_eq_some_iff.mp rules
    exact ⟨y, isDoor, congrArg Prod.fst both, congrArg Prod.snd both⟩
  · intro n
    rw [answer, State.answer_blc]
    exact (event.bells.entries n).trans (kept.bells.entries n)
  · rw [answer, State.answer_slot]
  · rw [answer, State.answer_assembly, olc]
  · rw [answer, State.answer_settings, olc]
  · have ready : t.olc.ready = u.olc.ready := by rw [replied]
    rw [ready, olc]
  · rw [answer, State.answer_rps]
    exact event.books.pause.trans kept.pause
  · rw [answer, State.answer_pev]
    exact event.pev
  · rw [answer, State.answer_tbu, tbu]
    rfl
  · rw [answer, State.answer_sps]
    exact event.sps.trans kept.sps
  · rw [answer, State.answer_btb]
    exact event.period.trans kept.period
  · rw [answer, State.answer_btb]
    exact event.closedBlock.trans kept.closedBlock
  · rw [answer, State.answer_btb]
    exact event.books.badges.trans kept.badges
  · intro i
    have station : t.glc.stations.get i = (s.glc.stations.get i).warm := by
      have gate : t.glc = nextGate u := by rw [replied]
      have warm : u.glc.stations = s.glc.warm.stations := by
        rw [glc, if_neg takes.1]
        rfl
      rw [gate, nextGate, Glc.weigh_stations, warm, Glc.warm_stations, Table.get_map]
    rw [station, Station.warm_eq]
    unfold State.stationConfig
    cases config : (s.glc.stations.get i).config with
    | none => exact ⟨config, fun configured => absurd rfl configured⟩
    | some c => exact ⟨rfl, fun _ => rfl⟩
  · rw [answer, State.answer_drc, event.drc]
    exact kept.alarm.1
  · rw [answer, State.answer_drc, event.drc]
    exact kept.alarm.2
  · rw [answer, State.answer_drc, event.drc]
    exact kept.schedules
  · intro i
    rw [answer, State.answer_drc, event.drc]
    exact kept.inputs i
  · rw [answer, State.answer_blc]
    exact event.bells.patterns.trans kept.bells.patterns

end Sys2Proof.Machine
end

section
/-!
PROOFS. Losses of the whole main supply (R16), an outage of open length, and the cold start that follows a lost backup domain
(R17). The obligation O16.
-/

namespace Sys2Proof.Machine

open Sys2Proof

/-! ### The supply is lost entirely -/

section Loss

variable {s : State}

/-- R6, R16: what the loss of the whole supply makes of the part (log 36). -/
theorem State.losePower_poweredDown (s : State) : poweredDown s s.losePower := by
  refine ⟨s.losePower_of_low, fun notLow => ?_⟩
  rw [s.losePower_of_not_low notLow]
  exact State.quiesce_quieted _

theorem State.losePower_draws (s : State) : s.losePower.draws = s.draws := by
  by_cases low : s.tbu.supply = .low
  · rw [s.losePower_of_low low]
  · rw [s.losePower_of_not_low low, State.quiesce_draws]
    exact (TouchesStore.reportSource _ _).draws

theorem State.losePower_backup (s : State) :
    s.losePower.tbu.backupIntact = s.tbu.backupIntact ∧ s.losePower.tbu.running = s.tbu.running := by
  by_cases low : s.tbu.supply = .low
  · rw [s.losePower_of_low low]
    exact ⟨rfl, rfl⟩
  · rw [s.losePower_tbu low]
    exact ⟨rfl, rfl⟩

theorem exec_powerReturn_stopped (stopped : s.tbu.running = false) : exec .powerReturn s =
    .next (((s.losePower.withTbu (s.losePower.tbu.restartLost s.losePower.draws)).reportSource
      s.losePower.tbu.timeSource).withDraws (s.losePower.draws + 1)) :=
  if_neg (Bool.not_eq_true _ ▸ stopped)

theorem exec_powerReturn_low (running : s.tbu.running = true) (low : s.tbu.supply = .low) :
    exec .powerReturn s = .next s := (if_pos running).trans (if_pos ((State.isLow_iff s).mpr low))

theorem exec_powerReturn_notLow (running : s.tbu.running = true) (notLow : s.tbu.supply ≠ .low) :
    exec .powerReturn s = .next s.losePower.outlast :=
  (if_pos running).trans (if_neg (mt (State.isLow_iff s).mp notLow))

/-! ### The mains is qualified anew -/

/-- R1, R5, R16: a unit that stopped counts seconds on the crystal again, each of them judged (log 12). -/
structure Tbu.Restarted (t u : Tbu) : Prop where
  running : u.running = true
  mainsWatch : u.mainsWatch = .absent
  qualification : u.qualification = 0
  began : u.secondBeganAbsent = true
  counters : u.prescaler = 0 ∧ u.cycleCounter = 0
  supply : u.supply = t.supply
  backup : u.backupIntact = t.backupIntact
  second : ∃ n, u.secondEnd = .onTick n ∧ 32764 ≤ n ∧ n ≤ 32772

theorem Tbu.restartLost_restarted (t : Tbu) (n : Nat) : t.Restarted (t.restartLost n) := by
  unfold Tbu.restartLost
  dsimp only
  rw [startSecond_absent (h := by rfl) (source := by exact timeSourceOf_absent _)]
  obtain ⟨trimLow, trimHigh⟩ := inRange_bounds 999 1999 (Config.freeTrim n) (by decide)
  obtain ⟨low, high⟩ := inRange_bounds 9999999 19999999 (Config.freeAccumulator n) (by decide)
  refine ⟨rfl, rfl, rfl, rfl, ⟨rfl, rfl⟩, rfl, rfl, (Tbu.accumulate_bounds _ ?_ ?_ ?_ ?_).2.2⟩
  · change -10000000 < openAccumulator n
    unfold openAccumulator
    omega
  · change openAccumulator n < 10000000
    unfold openAccumulator
    omega
  · exact trimLow
  · change inRange 999 1999 (Config.freeTrim n) ≤ 999
    omega

end Loss

/-! ### The seconds of an outage -/

section Outage

variable {s : State}

/-- A state of an outage: in LOW, with the mains absent and running, and no second of it qualified. -/
structure Outlasts (s : State) : Prop where
  ok : TimeOk s
  running : s.tbu.running = true
  low : s.tbu.supply = .low
  stays : ¬ returnQualified s.tbu

theorem Outlasts.absent (h : Outlasts s) : s.tbu.mainsWatch = .absent := by
  cases watch : s.tbu.mainsWatch with
  | absent => rfl
  | present => exact nomatch h.low.symm.trans (h.ok.supply.mpr watch)

theorem Outlasts.passed (h : Outlasts s) : SecondPassed s.tbu s.secondBoundary.tbu :=
  h.ok.secondPassed h.running fun _ returns => absurd returns h.stays

theorem Outlasts.secondBoundary_low (h : Outlasts s) : s.secondBoundary.tbu.supply = .low :=
  (h.passed.notReturned h.stays).2.2.trans h.low

theorem Outlasts.leaves (h : Outlasts s) : BoundaryLeaves s s.secondBoundary := by
  have leaves := h.ok.boundaryLeaves h.stays
  rw [State.settle_of_low h.secondBoundary_low] at leaves
  exact leaves

/-- R5: after one boundary of an outage the second in progress has no mains cycle. -/
theorem Outlasts.inOutage (h : Outlasts s) : InOutage s.secondBoundary.tbu where
  supply := h.secondBoundary_low
  mainsWatch := (h.passed.notReturned h.stays).1.trans h.absent
  began := h.passed.began.mpr ((h.passed.notReturned h.stays).1.trans h.absent)
  counters := h.passed.counters
  pendingTime := h.passed.pendingTime
  inEffect := ⟨h.passed.inEffect.1.trans h.passed.settings.1.symm, h.passed.inEffect.2.trans h.passed.settings.2.1.symm⟩
  timeSource := by
    rw [h.passed.timeSource, h.passed.settings.1, (h.passed.notReturned h.stays).1, h.absent]

theorem Outlasts.next (h : Outlasts s) : Outlasts s.secondBoundary where
  ok := h.ok.secondBoundary h.running
  running := State.secondBoundary_running h.running
  low := h.secondBoundary_low
  stays := fun returns => Bool.noConfusion (h.inOutage.not_qualifies.symm.trans (Tbu.qualifies_iff.mpr returns))

theorem Outlasts.secondsPass (n : Nat) (h : Outlasts s) : SecondsPass n s (s.secondBoundaries n) := by
  induction n generalizing s with
  | zero => exact State.secondBoundaries_zero s
  | succ n ih => exact ⟨s.secondBoundary, h.passed, h.leaves, ih h.next⟩

theorem Outlasts.later (n : Nat) (h : Outlasts s) : Outlasts (s.secondBoundaries n) := by
  induction n generalizing s with
  | zero => exact h
  | succ n ih => exact ih h.next

/-- R16: the boundaries of an outage leave the backup domain as it is. -/
theorem Outlasts.backup (n : Nat) (h : Outlasts s) : (s.secondBoundaries n).tbu.backupIntact = s.tbu.backupIntact := by
  induction n generalizing s with
  | zero => rfl
  | succ n ih =>
    have unqualified : s.tbu.qualifies = false := Bool.eq_false_iff.mpr (mt Tbu.qualifies_iff.mp h.stays)
    have first : s.secondBoundary.tbu.backupIntact = s.tbu.backupIntact := by
      rw [State.secondBoundary_tbu]
      unfold Tbu.followReturn
      rw [if_neg (Bool.not_eq_true _ ▸ unqualified), Tbu.startSecond_eq, Tbu.takeEvent_eq]
      unfold Tbu.refreshSource
      rw [s.tbu.boundary_eq]
    rw [State.secondBoundaries_succ, ih h.next, first]

/-- R1, R3: the second in progress in an outage is driven by the crystal. -/
theorem Outlasts.second (h : Outlasts s) : ∃ n, s.tbu.secondEnd = .onTick n ∧ 32764 ≤ n ∧ n ≤ 32772 := by
  cases finish : s.tbu.secondEnd with
  | onTick n => exact ⟨n, rfl, h.ok.second n finish⟩
  | onCycle =>
    have locked := h.ok.driver.mpr finish
    rw [h.ok.source, h.absent] at locked
    exact absurd locked (timeSourceOf_absent _)

/-- R2, R5, R9: the seconds of an outage but the first, taken together. -/
theorem Outlasts.ranOn (n : Nat) (h : Outlasts s) (some : 1 ≤ n) (range : n ≤ Config.lastReading) :
    RanOn s.secondBoundary (s.secondBoundary.secondBoundaries n) n := by
  have ok := h.next.ok
  have last := (h.next.later n).ok
  have start : s.secondBoundary.tbu.calendar ≤ 3155759999 := ok.calendar
  obtain ⟨accumulator, finish, ran⟩ := State.secondBoundaries_inOutage n s.secondBoundary h.inOutage ok.calendar ok.minute
    (by unfold Config.lastReading at *; omega)
  generalize s.secondBoundary = u at *
  generalize u.secondBoundaries n = t at *
  have touches : TouchesStore (u.withTbu (u.tbu.later n accumulator finish)) t := ran ▸ .timeReport _ _
  have tbu : t.tbu = u.tbu.later n accumulator finish := touches.tbu
  have count : (u.tbu.later n accumulator finish).qualification = 0 := if_neg (Nat.one_le_iff_ne_zero.mp some)
  refine ⟨?_, last.accumulator, fun inside => ?_, fun past => ?_⟩
  · obtain ⟨r, left⟩ := touches
    have rps : t.rps = r := by rw [left]; rfl
    have clock : u.tbu.later n accumulator finish = { u.tbu with
        calendar := (u.tbu.calendar + n) % 3155760000
        calendarValid := u.tbu.calendarValid && decide (u.tbu.calendar + n ≤ 3155759999)
        trimInEffect := if (u.tbu.calendar + n) / 60 = u.tbu.calendar / 60 then u.tbu.trimInEffect
          else u.tbu.trimSetting
        lastMinute := (u.tbu.calendar + n) % 3155760000 / 60
        qualification := (u.tbu.later n accumulator finish).qualification
        trimAccumulator := accumulator
        secondEnd := finish } := rfl
    rw [tbu, rps, left]
    rw [count] at clock
    exact congrArg (fun x => (u.withTbu x).withRps r) clock
  · have none : u.tbu.laterReport n = Option.none := if_pos inside
    rw [ran, none]
    rfl
  · have expiry : u.tbu.laterReport n = Option.some ⟨.expiry, 3155759999, 0, -3155759999, u.tbu.calendarValid, 0⟩ :=
      if_neg (Nat.not_le.mpr past)
    rw [ran, expiry, State.timeReport_withTbu]
    rfl

/-- R16: outside LOW, an outage begins with the loss of the whole supply. -/
theorem TimeOk.outlasts (h : TimeOk s) (running : s.tbu.running = true) (notLow : s.tbu.supply ≠ .low) :
    Outlasts s.losePower where
  ok := h.losePower
  running := s.losePower_backup.2.trans running
  low := s.losePower_supply
  stays := by
    rw [s.losePower_tbu notLow]
    exact fun returns => absurd returns.2.2.1 (show ¬ 29 ≤ 0 by decide)

/-- R16: the part goes on at an open tick of the second in progress. -/
theorem State.outlast_eq {n : Nat} (second : (s.secondBoundaries (openOutage s.draws)).tbu.secondEnd = .onTick n) :
    s.outlast = { s.secondBoundaries (openOutage s.draws) with
      tbu := { (s.secondBoundaries (openOutage s.draws)).tbu with prescaler := Config.freePhase s.draws % n }
      draws := s.draws + 1 } := by
  unfold State.outlast Tbu.atOpenTick
  dsimp only
  rw [second]
  rfl

end Outage

/-! ### The cold start -/

section Cold

variable {s : State}

/-- R17, R167: an evacuation starts no ring while every pattern is empty. -/
theorem Blc.cold_evacuate (pattern : PatternId) : Blc.cold.evacuate pattern = Blc.cold := by
  have idle : Blc.cold.outputs.map (BellOutput.evacuate Blc.cold.patterns pattern) = Blc.cold.outputs := by
    refine Table.ext_get _ _ fun o => ?_
    have output : Blc.cold.outputs.get o = BellOutput.cold := Table.get_fill _ o
    have empty : Blc.cold.patterns.get pattern = Pattern.cold := Table.get_fill _ pattern
    rw [Table.get_map, output]
    exact (BellOutput.evacuate_other (o := BellOutput.cold) (fun _ current => nomatch current) pattern).1
      (congrArg Pattern.steps empty)
  exact congrArg (fun outputs => { Blc.cold with outputs := outputs }) idle

theorem State.coldStart_blc (s : State) : s.coldStart.blc = Blc.cold := by
  unfold State.coldStart State.warmBells
  dsimp only
  split
  · exact Blc.cold_evacuate _
  · rfl

/-- R17: the qualification that follows a lost backup domain is a cold start. -/
theorem State.secondBoundary_of_lost (qualified : s.tbu.qualifies = true) (low : s.tbu.supply = .low)
    (lost : s.tbu.backupIntact = false) : s.secondBoundary =
      ((s.withTbu s.tbu.boundary).timeReport s.tbu.advance.report).coldStart := by
  obtain ⟨supply, backup⟩ := s.boundaryReport_supply
  have boundary := State.secondBoundary_of_qualifies qualified
  have start : ({ Tbu.cold with lowBatteryInput := s.tbu.lowBatteryInput } : Tbu).startSecond =
      { Tbu.cold with lowBatteryInput := s.tbu.lowBatteryInput } := rfl
  have tbu : s.secondBoundary.tbu = { Tbu.cold with lowBatteryInput := s.tbu.lowBatteryInput } := by
    rw [State.secondBoundary_tbu]
    unfold Tbu.followReturn
    rw [if_pos qualified, low]
    dsimp only
    rw [if_neg (Bool.not_eq_true _ ▸ lost), start]
  have input : ((s.withTbu s.tbu.boundary).timeReport s.tbu.advance.report).tbu.lowBatteryInput = s.tbu.lowBatteryInput := by
    rw [State.timeReport_tbu, State.withTbu_tbu, s.tbu.boundary_eq]
  generalize (s.withTbu s.tbu.boundary).timeReport s.tbu.advance.report = u at *
  have returns : u.mainsReturn s.tbu.advance.event = u.coldStart := by
    unfold State.mainsReturn
    rw [supply.trans low]
    exact if_neg (Bool.not_eq_true _ ▸ backup.trans lost)
  rw [boundary, returns, tbu, ← input, ← State.coldStart_tbu]
  rfl

end Cold

/-! ### The cases of R16 -/

section Cases

variable {s : State}

/-- R16: power returns to a unit that stopped. -/
theorem State.powerReturns_stopped (stopped : s.tbu.running = false) : ∃ t, exec .powerReturn s = .next t
    ∧ s.losePower.tbu.Restarted t.tbu
    ∧ t = { sourceReported { s.losePower with tbu := t.tbu } s.losePower.tbu.timeSource with draws := s.draws + 1 } := by
  have restarted := s.losePower.tbu.restartLost_restarted s.losePower.draws
  have draws := s.losePower_draws
  have exec := exec_powerReturn_stopped stopped
  generalize s.losePower = q at *
  have tbu : (((q.withTbu (q.tbu.restartLost q.draws)).reportSource q.tbu.timeSource).withDraws (q.draws + 1)).tbu =
      q.tbu.restartLost q.draws := State.reportSource_tbu _ _
  refine ⟨_, exec, by rw [tbu]; exact restarted, ?_⟩
  rw [tbu, ← draws]
  rfl

/-- R16: power returns to a unit that has gone on through an outage of open length (log 36). -/
theorem TimeOk.powerReturns (h : TimeOk s) (running : s.tbu.running = true) (notLow : s.tbu.supply ≠ .low) :
    ∃ ran t seconds n tick, exec .powerReturn s = .next t ∧ seconds ≤ 3155759999
      ∧ (seconds = 0 → ran = s.losePower)
      ∧ SecondsPass seconds s.losePower ran
      ∧ (1 ≤ seconds → ∃ first, SecondPassed s.losePower.tbu first.tbu ∧ BoundaryLeaves s.losePower first
          ∧ SecondsPass (seconds - 1) first ran ∧ (seconds = 1 → ran = first)
          ∧ (2 ≤ seconds → RanOn first ran (seconds - 1)))
      ∧ ran.tbu.secondEnd = .onTick n ∧ 32764 ≤ n ∧ n ≤ 32772 ∧ tick < n
      ∧ t = { ran with tbu := { ran.tbu with prescaler := tick }, draws := s.draws + 1 }
      ∧ t.tbu.running = true ∧ t.tbu.mainsWatch = .absent ∧ t.tbu.supply = .low
      ∧ t.tbu.backupIntact = s.tbu.backupIntact := by
  have outage := h.outlasts running notLow
  have draws := s.losePower_draws
  have backup := s.losePower_backup.1
  have exec := exec_powerReturn_notLow running notLow
  generalize s.losePower = q at *
  have bound : openOutage q.draws < Config.lastReading + 1 := Nat.mod_lt _ (Nat.succ_pos _)
  have later := outage.later (openOutage q.draws)
  have intact := outage.backup (openOutage q.draws)
  have passes := outage.secondsPass (openOutage q.draws)
  obtain ⟨n, second, short, long⟩ := later.second
  have goesOn := State.outlast_eq second
  generalize openOutage q.draws = seconds at *
  refine ⟨q.secondBoundaries seconds, _, seconds, n, Config.freePhase q.draws % n, exec.trans (congrArg _ goesOn),
    Nat.le_of_lt_succ bound, fun none => by rw [none]; rfl, passes, fun some => ?_, second, short, long,
    Nat.mod_lt _ (by omega), by rw [draws], later.running, later.absent, later.low, intact.trans backup⟩
  obtain ⟨rest, same⟩ : ∃ rest, seconds = rest + 1 := ⟨seconds - 1, by omega⟩
  subst same
  refine ⟨q.secondBoundary, outage.passed, outage.leaves, outage.next.secondsPass rest, fun one => ?_, fun more =>
    outage.ranOn rest (by omega) (by omega)⟩
  have none : rest = 0 := by omega
  rw [none]
  rfl

/-- R17: the cold start goes on on both lines: the TIME broadcast is being sent, and the COLD_START report is sent where the
ready wire is asserted. -/
theorem State.coldStart_settle (s : State) : s.coldStart.settle.glc = { Glc.cold with attention := s.glc.attention }
    ∧ s.coldStart.settle.olc = { Olc.cold with
      ready := s.olc.ready, transmitter := if s.olc.ready then .report else .idle } := by
  have settled := s.coldStart.settle_settled
  unfold Settled at settled
  rw [if_neg (by rw [State.coldStart_tbu]; exact fun low => nomatch low)] at settled
  have gate : nextGate s.coldStart = { Glc.cold with attention := s.glc.attention } := by
    unfold nextGate
    rw [State.coldStart_glc]
    exact Glc.weigh_of_busy (.inl fun free => nomatch free)
  have frame : nextFrame s.coldStart = if s.olc.ready then .report else .idle := by
    unfold nextFrame
    rw [State.coldStart_olc, State.coldStart_rps]
    dsimp only
    cases s.olc.ready with
    | false => rfl
    | true => rfl
  rw [settled, gate, frame]
  exact ⟨rfl, by rw [State.coldStart_olc]⟩

end Cases

/-- Settles O16: the loss quiesces the part, the seconds of an outage follow one another, and the qualification that follows a
lost backup domain is a cold start. -/
theorem lostBackupDomainEndsInAColdStart : Obligations.LostBackupDomainEndsInAColdStart := by
  unfold Obligations.LostBackupDomainEndsInAColdStart
  refine ⟨fun s => ⟨s.losePower, s.losePower_poweredDown, rfl⟩, fun s stopped => ?_, fun s running low =>
    exec_powerReturn_low running low, fun s h running notLow => ?_, fun n s running crystal low returns lost => ?_⟩
  · obtain ⟨t, after, restarted, others⟩ := State.powerReturns_stopped stopped
    exact ⟨s.losePower, t, s.losePower_poweredDown, after, restarted.running, restarted.mainsWatch, restarted.qualification,
      restarted.began, restarted.counters.1, restarted.counters.2, restarted.supply.trans s.losePower_supply,
      restarted.backup.trans s.losePower_backup.1, restarted.second, others⟩
  · obtain ⟨ran, t, seconds, n, tick, after, rest⟩ := h.powerReturns running notLow
    exact ⟨s.losePower, ran, t, seconds, n, tick, s.losePower_poweredDown, after, rest⟩
  · have cold := State.secondBoundary_of_lost (Tbu.qualifies_iff.mpr returns) low lost
    have touches := TouchesStore.timeReport (s.withTbu s.tbu.boundary) s.tbu.advance.report
    have after : exec .crystalSecondEnd s = .next s.secondBoundary.settle := by
      change execCrystalSecondEnd s = _
      unfold execCrystalSecondEnd
      rw [running, crystal]
    have input : ((s.withTbu s.tbu.boundary).timeReport s.tbu.advance.report).tbu.lowBatteryInput =
        s.tbu.lowBatteryInput := by
      rw [State.timeReport_tbu, State.withTbu_tbu, s.tbu.boundary_eq]
    have glc : ((s.withTbu s.tbu.boundary).timeReport s.tbu.advance.report).glc = s.glc := touches.glc
    have drc : ((s.withTbu s.tbu.boundary).timeReport s.tbu.advance.report).drc = s.drc := touches.drc
    have olc : ((s.withTbu s.tbu.boundary).timeReport s.tbu.advance.report).olc = s.olc := touches.olc
    have pending : ((s.withTbu s.tbu.boundary).timeReport s.tbu.advance.report).pending = s.pending := touches.pending
    rw [cold] at after
    generalize (s.withTbu s.tbu.boundary).timeReport s.tbu.advance.report = u at *
    obtain ⟨gate, office⟩ := u.coldStart_settle
    refine ⟨_, after, ?_, ?_, ?_, ?_, ?_, ?_, ?_, ?_, ?_, ?_⟩
    · rw [State.settle_tbu, State.coldStart_tbu, input]
    · rw [gate, glc]
    · rw [State.settle_pev, State.coldStart_pev]
    · rw [State.settle_btb, State.coldStart_btb]
    · rw [State.settle_sps, State.coldStart_sps]
    · rw [State.settle_rps, State.coldStart_rps]
    · rw [State.settle_drc, State.coldStart_drc, drc]
    · rw [State.settle_blc, State.coldStart_blc]
    · rw [office, olc]
    · rw [State.settle_pending, State.coldStart_pending, pending]

end Sys2Proof.Machine
end

section
/-!
PROOFS. Frames and layouts (00_scope.md 3.5, R22, R175, R185): a value that fits its bytes is read from them as it was sent.
The obligations O6 and O9.
-/

namespace Sys2Proof.Machine

open Sys2Proof

/-! ### Numbers -/

theorem numBytes_length (w n : Nat) : (numBytes w n).length = w := by
  induction w generalizing n with
  | zero => rfl
  | succ w ih => exact congrArg Nat.succ (ih _)

theorem bytesNum_numBytes {w n : Nat} (fits : n < 256 ^ w) : bytesNum (numBytes w n) = n := by
  induction w generalizing n with
  | zero => exact (Nat.lt_one_iff.mp fits).symm
  | succ w ih =>
    have positive : 0 < 256 ^ w := Nat.pow_pos (by decide)
    have high : n / 256 ^ w < 256 := Nat.div_lt_of_lt_mul (by rwa [← Nat.pow_succ])
    unfold numBytes bytesNum
    rw [numBytes_length, ih (Nat.mod_lt _ positive), BitVec.toNat_ofNat, Nat.mod_eq_of_lt high]
    exact Nat.div_add_mod' _ _

/-- R185: two's complement in `w` bytes. -/
theorem signed_emod {w : Nat} {x : Int} (low : -(256 ^ w : Nat) ≤ 2 * x) (high : 2 * x < (256 ^ w : Nat)) :
    (x % (256 ^ w : Nat)).toNat < 256 ^ w ∧ signed w (x % (256 ^ w : Nat)).toNat = x := by
  have positive : 0 < 256 ^ w := Nat.pow_pos (by decide)
  unfold signed
  generalize 256 ^ w = m at *
  rcases lt_or_ge x 0 with negative | positive'
  · have wrapped : x % (m : Int) = x + m := by
      rw [Int.emod_eq_add_self_emod]
      exact Int.emod_eq_of_lt (by omega) (by omega)
    rw [wrapped]
    refine ⟨by omega, ?_⟩
    rw [if_neg (by omega)]
    omega
  · rw [Int.emod_eq_of_lt positive' (by omega)]
    refine ⟨by omega, ?_⟩
    rw [if_pos (by omega)]
    omega

/-! ### The envelope -/

section Envelope

variable {kind : Nat} {payload : List Byte}

theorem numBytes_one (n : Nat) : numBytes 1 n = [BitVec.ofNat 8 n] := by
  unfold numBytes
  rw [pow_zero, Nat.div_one]
  rfl

theorem frame_eq (kind : Nat) (payload : List Byte) : frame kind payload =
    startByte :: BitVec.ofNat 8 (payload.length + 3) :: (BitVec.ofNat 8 kind :: payload
      ++ numBytes 2 (crc (BitVec.ofNat 8 (payload.length + 3) :: BitVec.ofNat 8 kind :: payload)).toNat) := by
  unfold frame frameBody
  rw [numBytes_one, numBytes_one]
  rfl

/-- R22, R175: a frame is opened to the kind and the payload it was made of. -/
theorem openFrame_frame (fits : kind < 256) (short : payload.length + 3 ≤ 250) :
    openFrame (frame kind payload) = some (kind, payload) := by
  have byte : ∀ n < 256, (BitVec.ofNat 8 n).toNat = n := fun n small => by
    rw [BitVec.toNat_ofNat]
    exact Nat.mod_eq_of_lt small
  rw [frame_eq]
  generalize check : numBytes 2 (crc (BitVec.ofNat 8 (payload.length + 3) :: BitVec.ofNat 8 kind :: payload)).toNat = sum
  have two : sum.length = 2 := by rw [← check, numBytes_length]
  have split : splitCheck (BitVec.ofNat 8 kind :: payload ++ sum) = (BitVec.ofNat 8 kind :: payload, sum) := by
    unfold splitCheck
    rw [List.length_append, two, Nat.add_sub_cancel, List.take_left, List.drop_left]
  unfold openFrame
  dsimp only
  rw [split]
  dsimp only
  rw [byte kind fits]
  refine if_pos ⟨rfl, ?_, ?_, check.symm⟩
  · rw [byte _ (by omega)]
    exact short
  · rw [byte _ (by omega), List.length_append, List.length_cons, two]

/-- R22, R175: a frame whose envelope fails is not opened. -/
theorem openFrame_eq_none {start length : Byte} {rest : List Byte}
    (fails : start ≠ 0xA5 ∨ 250 < length.toNat ∨ rest.length ≠ length.toNat ∨ rest.length < 3
      ∨ rest.drop (rest.length - 2) ≠ numBytes 2 (crc (length :: rest.take (rest.length - 2))).toNat) :
    openFrame (start :: length :: rest) = none := by
  unfold openFrame splitCheck
  dsimp only
  split
  · rfl
  · next kind payload body =>
    rw [body] at fails
    refine if_neg fun ⟨begins, within, counted, checked⟩ => ?_
    rcases fails with other | long | miscounted | short | unchecked
    · exact other begins
    · omega
    · exact miscounted counted
    · rw [show rest.length - 2 = 0 by omega, List.take_zero] at body
      exact nomatch body
    · exact unchecked checked

/-! ### The gate line and discarded frames -/

theorem gateFrameOf_unopened {bytes : List Byte} (unopened : openFrame bytes = none) :
    gateFrameOf bytes = .gateFrameDiscarded := by
  simp only [gateFrameOf, unopened]

theorem officeFrameOf_unopened {bytes : List Byte} (unopened : openFrame bytes = none) :
    officeFrameOf bytes = .officeFrameDiscarded := by
  simp only [officeFrameOf, unopened]

/-- R22: a frame that is neither a PUNCH nor a STATUS frame of its length. -/
theorem gateFrameOf_other {bytes : List Byte} (opened : openFrame bytes = some (kind, payload))
    (punch : kind = 0x31 → payload.length ≠ 6) (status : kind = 0x32 → payload.length ≠ 1) :
    gateFrameOf bytes = .gateFrameDiscarded := by
  unfold gateFrameOf
  rw [opened]
  split
  · next same =>
    cases same
    exact absurd rfl (punch rfl)
  · next same =>
    cases same
    exact absurd rfl (status rfl)
  · rfl

/-- R22: a PUNCH frame carries its badge number, its age and MORE. -/
theorem gateFrameOf_punch {badge age : Nat} (badgeFits : badge < 256 ^ 3) (ageFits : age < 256 ^ 2) (flags : Byte) :
    gateFrameOf (frame 0x31 (numBytes 3 badge ++ numBytes 2 age ++ [flags])) = .punchFrame badge age (flags.getLsbD 0) := by
  have opened : openFrame (frame 0x31 (numBytes 3 badge ++ numBytes 2 age ++ [flags])) =
      some (0x31, numBytes 3 badge ++ numBytes 2 age ++ [flags]) := by
    refine openFrame_frame (by decide) ?_
    rw [List.length_append, List.length_append, numBytes_length, numBytes_length, List.length_singleton]
    omega
  have isBadge := bytesNum_numBytes badgeFits
  have isAge := bytesNum_numBytes ageFits
  obtain ⟨b2, b1, b0, three⟩ := List.length_eq_three.mp (numBytes_length 3 badge)
  obtain ⟨a1, a0, two⟩ := List.length_eq_two.mp (numBytes_length 2 age)
  have joined : [b2, b1, b0] ++ [a1, a0] ++ [flags] = [b2, b1, b0, a1, a0, flags] := rfl
  rw [three, two, joined] at opened
  rw [three] at isBadge
  rw [two] at isAge
  rw [three, two, joined, ← isBadge, ← isAge]
  simp only [gateFrameOf, opened]

end Envelope

/-- Settles O6: a frame is opened to what it was made of, or not at all. -/
theorem framesAreReceivedOrDiscarded : Obligations.FramesAreReceivedOrDiscarded := by
  unfold Obligations.FramesAreReceivedOrDiscarded
  refine ⟨fun start length rest fails => ?_, fun badge age flags badgeFits ageFits => gateFrameOf_punch badgeFits ageFits flags,
    fun flags => ?_, fun kind payload fits short punch status => gateFrameOf_other (openFrame_frame fits short) punch status,
    fun began bytes waits => ?_, fun began bytes empty notLow => ?_, fun s => ⟨rfl, rfl⟩⟩
  · have unopened := openFrame_eq_none fails
    exact ⟨officeFrameOf_unopened unopened, gateFrameOf_unopened unopened⟩
  · have opened : openFrame (frame 0x32 [flags]) = some (0x32, [flags]) := openFrame_frame (by decide) (by simp)
    simp only [gateFrameOf, opened]
  · exact if_pos (waits.symm.imp_left (State.isLow_iff began).mpr)
  · refine if_neg ?_
    rintro (low | waits)
    · exact notLow ((State.isLow_iff began).mp low)
    · rw [empty] at waits
      exact Bool.noConfusion waits

end Sys2Proof.Machine
end

section
/-!
PROOFS. Layouts (R185): a value is read from its own bytes, layout by layout, and every management command is received from its
own frame. The obligation O9.
-/

namespace Sys2Proof.Machine

open Sys2Proof

/-! ### Layouts -/

section Layouts

/-- A value that the bytes of a layout hold is read as it was sent, and what follows it is left. -/
def Layout.Exact {α : Type} (a : Layout α) : Prop :=
  ∀ x rest, a.holds x = true → a.read (a.send x ++ rest) = some (x, rest)

variable {α β : Type} {a : Layout α} {b : Layout β}

theorem Layout.num_exact (w : Nat) : (Layout.num w).Exact := by
  intro n rest holds
  have bytes := numBytes_length w n
  change (if (numBytes w n ++ rest).length < w then none
    else some (bytesNum ((numBytes w n ++ rest).take w), (numBytes w n ++ rest).drop w)) = _
  rw [if_neg (by rw [List.length_append, bytes]; omega), List.take_left' bytes, List.drop_left' bytes,
    bytesNum_numBytes (of_decide_eq_true holds)]

theorem Layout.int_exact (w : Nat) : (Layout.int w).Exact := by
  intro x rest holds
  obtain ⟨low, high⟩ := Bool.and_eq_true_iff.mp holds
  obtain ⟨fits, value⟩ := signed_emod (of_decide_eq_true low) (of_decide_eq_true high)
  change ((Layout.num w).read ((Layout.num w).send (x % (256 ^ w : Nat)).toNat ++ rest)).map _ = _
  rw [Layout.num_exact w _ rest (decide_eq_true fits)]
  exact congrArg (fun y => some (y, rest)) value

theorem Layout.Exact.pair (first : a.Exact) (second : b.Exact) : (a.pair b).Exact := by
  rintro ⟨x, y⟩ rest holds
  obtain ⟨holdsX, holdsY⟩ := Bool.and_eq_true_iff.mp holds
  have readX := first x (b.send y ++ rest) holdsX
  have readY := second y rest holdsY
  simp only [Layout.pair, List.append_assoc, readX, readY, Option.map_some]

theorem Layout.Exact.readMany (each : a.Exact) (xs : List α) (rest : List Byte) (holds : xs.all a.holds = true) :
    readMany a xs.length (xs.flatMap a.send ++ rest) = some (xs, rest) := by
  induction xs with
  | nil => rfl
  | cons x xs ih =>
    obtain ⟨holdsX, holdsRest⟩ := Bool.and_eq_true_iff.mp holds
    have read := each x (xs.flatMap a.send ++ rest) holdsX
    have others := ih holdsRest
    simp only [Machine.readMany, List.length_cons, List.flatMap_cons, List.append_assoc, read, others, Option.map_some]

/-- R185: a list is read by its count. -/
theorem Layout.Exact.list (each : a.Exact) : a.list.Exact := by
  intro xs rest holds
  obtain ⟨count, holdsAll⟩ := Bool.and_eq_true_iff.mp holds
  have read := Layout.num_exact 1 xs.length (xs.flatMap a.send ++ rest) count
  have others := each.readMany xs rest holdsAll
  have sent : (Layout.num 1).send xs.length = numBytes 1 xs.length := rfl
  rw [sent] at read
  simp only [Layout.list, listBytes, List.append_assoc, read, others]

theorem Layout.Exact.as (parts : a.Exact) {into : α → β} {out : β → α} (restores : ∀ y, into (out y) = y) :
    (a.as into out).Exact := by
  intro y rest holds
  have read := parts (out y) rest holds
  simp only [Layout.as, read, Option.map_some, restores]

theorem Layout.nothing_exact : Layout.nothing.Exact := fun _ _ _ => rfl

/-- R177: a whole payload that holds a value is read as its fields. -/
theorem Layout.Exact.payload (reads : a.Exact) {x : α} (holds : a.holds x = true) : a.payload (a.send x) = .fields x := by
  have read := reads x [] holds
  rw [List.append_nil] at read
  unfold Layout.payload
  rw [read]

end Layouts

/-! ### The layouts of the commands -/

theorem byte_exact : byte.Exact := Layout.num_exact 1
theorem word_exact : word.Exact := Layout.num_exact 2
theorem three_exact : three.Exact := Layout.num_exact 3
theorem four_exact : four.Exact := Layout.num_exact 4
theorem signedByte_exact : signedByte.Exact := Layout.int_exact 1
theorem signedWord_exact : signedWord.Exact := Layout.int_exact 2

theorem setTimeLayout_exact : setTimeLayout.Exact :=
  (word_exact.pair (byte_exact.pair (byte_exact.pair (byte_exact.pair (byte_exact.pair byte_exact))))).as fun _ => rfl

theorem stationPutLayout_exact : stationPutLayout.Exact :=
  (byte_exact.pair (byte_exact.pair (byte_exact.pair (byte_exact.pair (byte_exact.pair (byte_exact.pair
    byte_exact)))))).as fun _ => rfl

theorem displayLayout_exact : displayLayout.Exact :=
  (byte_exact.pair byte_exact.list).as fun _ => rfl

theorem badgePutLayout_exact : badgePutLayout.Exact :=
  (three_exact.pair (byte_exact.pair (byte_exact.pair (word_exact.pair byte_exact)))).as fun _ => rfl

theorem badgeGetLayout_exact : badgeGetLayout.Exact :=
  (three_exact.pair byte_exact).as fun _ => rfl

theorem presenceSetLayout_exact : presenceSetLayout.Exact :=
  (three_exact.pair byte_exact).as fun _ => rfl

theorem inputPutLayout_exact : inputPutLayout.Exact :=
  (byte_exact.pair (byte_exact.pair byte_exact)).as fun _ => rfl

theorem doorPutLayout_exact : doorPutLayout.Exact :=
  (byte_exact.pair (byte_exact.pair (byte_exact.pair (byte_exact.pair (byte_exact.pair (byte_exact.pair
    (word_exact.pair (byte_exact.pair (byte_exact.pair (byte_exact.pair (byte_exact.pair (byte_exact.pair
    byte_exact)))))))))))).as fun _ => rfl

theorem windowLayout_exact : windowLayout.Exact :=
  (byte_exact.pair (word_exact.pair (word_exact.pair byte_exact))).as fun _ => rfl

theorem schedulePutLayout_exact : schedulePutLayout.Exact :=
  (byte_exact.pair windowLayout_exact.list).as fun _ => rfl

theorem breakLayout_exact : breakLayout.Exact :=
  (word_exact.pair (byte_exact.pair byte_exact)).as fun _ => rfl

theorem shiftPutLayout_exact : shiftPutLayout.Exact :=
  (byte_exact.pair (byte_exact.pair (word_exact.pair (word_exact.pair (word_exact.pair (byte_exact.pair
    (byte_exact.pair (word_exact.pair (byte_exact.pair (byte_exact.pair (byte_exact.pair (word_exact.pair
    breakLayout_exact.list)))))))))))).as fun _ => rfl

theorem rotaPutLayout_exact : rotaPutLayout.Exact :=
  (byte_exact.pair (byte_exact.pair (word_exact.pair byte_exact.list))).as fun _ => rfl

theorem payclassPutLayout_exact : payclassPutLayout.Exact :=
  (byte_exact.pair (word_exact.pair (word_exact.pair (word_exact.pair word_exact)))).as fun _ => rfl

theorem closeRecordLayout_exact : closeRecordLayout.Exact :=
  (three_exact.pair four_exact).as fun _ => rfl

theorem totalsGetLayout_exact : totalsGetLayout.Exact :=
  (three_exact.pair (byte_exact.pair byte_exact)).as fun _ => rfl

theorem bellPutLayout_exact : bellPutLayout.Exact :=
  (byte_exact.pair (byte_exact.pair (byte_exact.pair (word_exact.pair (byte_exact.pair (byte_exact.pair
    (byte_exact.pair (signedByte_exact.pair (byte_exact.pair (byte_exact.pair (byte_exact.pair (byte_exact.pair
    byte_exact)))))))))))).as fun _ => rfl

theorem stepLayout_exact : stepLayout.Exact :=
  (byte_exact.pair byte_exact).as fun _ => rfl

theorem patternPutLayout_exact : patternPutLayout.Exact :=
  (byte_exact.pair (stepLayout_exact.list.pair byte_exact)).as fun _ => rfl

theorem bellRingLayout_exact : bellRingLayout.Exact :=
  (byte_exact.pair (byte_exact.pair byte_exact)).as fun _ => rfl

theorem settingsPutLayout_exact : settingsPutLayout.Exact :=
  (byte_exact.pair (byte_exact.pair (byte_exact.pair (byte_exact.pair (word_exact.pair (word_exact.pair
    (word_exact.pair (byte_exact.pair (byte_exact.pair (byte_exact.pair (byte_exact.pair
    signedWord_exact))))))))))).as fun _ => rfl

/-! ### Every command -/

/-- A command whose parts fit is the command of its kind and its payload. -/
def Received (c : Instr) : Prop := ∀ kind payload, commandParts c = some (kind, payload, true) →
  kind < 256 ∧ commandOf kind payload = c

theorem parts_inj {kind k : Nat} {bytes payload : List Byte} {fits fits' : Bool}
    (same : some (kind, bytes, fits) = some (k, payload, fits')) : kind = k ∧ bytes = payload ∧ fits = fits' := by
  obtain ⟨kinds, others⟩ := Prod.mk.inj (Option.some.inj same)
  exact ⟨kinds, Prod.mk.inj others⟩

/-- A command that is sent and read by one layout. -/
theorem received_of_layout {α : Type} {a : Layout α} {kind : Nat} {make : Payload α → Instr} (reads : a.Exact)
    (small : kind < 256) (parts : ∀ x, commandParts (make (.fields x)) = some (kind, a.send x, a.holds x))
    (malformed : commandParts (make .malformed) = none) (command : ∀ bytes, commandOf kind bytes = make (a.payload bytes))
    (p : Payload α) : Received (make p) := by
  intro k payload isParts
  cases p with
  | malformed => exact nomatch malformed.symm.trans isParts
  | fields x =>
    obtain ⟨rfl, rfl, holds⟩ := parts_inj ((parts x).symm.trans isParts)
    exact ⟨small, by rw [command, reads.payload holds]⟩

/-- R87: a DOOR_COMMAND is sent with the code of its command. -/
theorem received_of_doorCommand {make : Payload Nat → Instr} (code : Nat)
    (parts : ∀ x, commandParts (make (.fields x)) = some (0x11, (byte.pair byte).send (x, code), (byte.pair byte).holds (x, code)))
    (malformed : commandParts (make .malformed) = none) (command : ∀ x, doorCommandOf (.fields (x, code)) = make (.fields x))
    (p : Payload Nat) : Received (make p) := by
  intro k payload isParts
  cases p with
  | malformed => exact nomatch malformed.symm.trans isParts
  | fields x =>
    obtain ⟨rfl, rfl, holds⟩ := parts_inj ((parts x).symm.trans isParts)
    refine ⟨by decide, ?_⟩
    change doorCommandOf ((byte.pair byte).payload ((byte.pair byte).send (x, code))) = _
    rw [(byte_exact.pair byte_exact).payload holds, command]

theorem received (c : Instr) : Received c := by
  cases c with
  | crystalSecondEnd | mainsCycle | mainsLoss | lowBatterySample _ | attentionWireChange _ | roundResult _
  | restTimerExpiry | gateFrameDiscarded | punchFrame _ _ _ | statusFrame _ _ | grantTimeout
  | probeTimerExpiry _ | probeWaitExpiry | gateFrameSent | inputLevelChange _ _ | filterTimeExpiry _
  | inputSample | releaseTimerExpiry _ | heldTimerExpiry _ | pulseTimerExpiry | phaseTimerExpiry _
  | readyWireChange _ | reportFrameSent | replyFrameSent | commandTakenFromAssembly | officeFrameDiscarded
  | unknownKind _ | backupDomainLost | powerReturn => exact fun _ _ e => nomatch e
  | setTime p => exact received_of_layout setTimeLayout_exact (by decide) (fun _ => rfl) rfl (fun _ => rfl) p
  | stationPut p => exact received_of_layout stationPutLayout_exact (by decide) (fun _ => rfl) rfl (fun _ => rfl) p
  | stationGet p => exact received_of_layout byte_exact (by decide) (fun _ => rfl) rfl (fun _ => rfl) p
  | stationResume p => exact received_of_layout byte_exact (by decide) (fun _ => rfl) rfl (fun _ => rfl) p
  | display p => exact received_of_layout displayLayout_exact (by decide) (fun _ => rfl) rfl (fun _ => rfl) p
  | badgePut p => exact received_of_layout badgePutLayout_exact (by decide) (fun _ => rfl) rfl (fun _ => rfl) p
  | badgeDrop p => exact received_of_layout three_exact (by decide) (fun _ => rfl) rfl (fun _ => rfl) p
  | badgeGet p => exact received_of_layout badgeGetLayout_exact (by decide) (fun _ => rfl) rfl (fun _ => rfl) p
  | presenceSet p => exact received_of_layout presenceSetLayout_exact (by decide) (fun _ => rfl) rfl (fun _ => rfl) p
  | conflictRead p => exact received_of_layout Layout.nothing_exact (by decide) (fun _ => rfl) rfl (fun _ => rfl) p
  | inputPut p => exact received_of_layout inputPutLayout_exact (by decide) (fun _ => rfl) rfl (fun _ => rfl) p
  | inputGet p => exact received_of_layout byte_exact (by decide) (fun _ => rfl) rfl (fun _ => rfl) p
  | doorPut p => exact received_of_layout doorPutLayout_exact (by decide) (fun _ => rfl) rfl (fun _ => rfl) p
  | doorGet p => exact received_of_layout byte_exact (by decide) (fun _ => rfl) rfl (fun _ => rfl) p
  | schedulePut p => exact received_of_layout schedulePutLayout_exact (by decide) (fun _ => rfl) rfl (fun _ => rfl) p
  | scheduleGet p => exact received_of_layout byte_exact (by decide) (fun _ => rfl) rfl (fun _ => rfl) p
  | alarmClear p => exact received_of_layout Layout.nothing_exact (by decide) (fun _ => rfl) rfl (fun _ => rfl) p
  | shiftPut p => exact received_of_layout shiftPutLayout_exact (by decide) (fun _ => rfl) rfl (fun _ => rfl) p
  | shiftGet p => exact received_of_layout byte_exact (by decide) (fun _ => rfl) rfl (fun _ => rfl) p
  | rotaPut p => exact received_of_layout rotaPutLayout_exact (by decide) (fun _ => rfl) rfl (fun _ => rfl) p
  | rotaGet p => exact received_of_layout byte_exact (by decide) (fun _ => rfl) rfl (fun _ => rfl) p
  | holidayPut p => exact received_of_layout word_exact (by decide) (fun _ => rfl) rfl (fun _ => rfl) p
  | holidayDrop p => exact received_of_layout word_exact (by decide) (fun _ => rfl) rfl (fun _ => rfl) p
  | holidayList p => exact received_of_layout Layout.nothing_exact (by decide) (fun _ => rfl) rfl (fun _ => rfl) p
  | payclassPut p => exact received_of_layout payclassPutLayout_exact (by decide) (fun _ => rfl) rfl (fun _ => rfl) p
  | payclassGet p => exact received_of_layout byte_exact (by decide) (fun _ => rfl) rfl (fun _ => rfl) p
  | closeRecord p => exact received_of_layout closeRecordLayout_exact (by decide) (fun _ => rfl) rfl (fun _ => rfl) p
  | closePeriod p => exact received_of_layout Layout.nothing_exact (by decide) (fun _ => rfl) rfl (fun _ => rfl) p
  | totalsGet p => exact received_of_layout totalsGetLayout_exact (by decide) (fun _ => rfl) rfl (fun _ => rfl) p
  | releaseClosed p => exact received_of_layout Layout.nothing_exact (by decide) (fun _ => rfl) rfl (fun _ => rfl) p
  | bellPut p => exact received_of_layout bellPutLayout_exact (by decide) (fun _ => rfl) rfl (fun _ => rfl) p
  | bellGet p => exact received_of_layout byte_exact (by decide) (fun _ => rfl) rfl (fun _ => rfl) p
  | bellDrop p => exact received_of_layout byte_exact (by decide) (fun _ => rfl) rfl (fun _ => rfl) p
  | patternPut p => exact received_of_layout patternPutLayout_exact (by decide) (fun _ => rfl) rfl (fun _ => rfl) p
  | patternGet p => exact received_of_layout byte_exact (by decide) (fun _ => rfl) rfl (fun _ => rfl) p
  | bellRing p => exact received_of_layout bellRingLayout_exact (by decide) (fun _ => rfl) rfl (fun _ => rfl) p
  | bellStop p => exact received_of_layout byte_exact (by decide) (fun _ => rfl) rfl (fun _ => rfl) p
  | pause p => exact received_of_layout Layout.nothing_exact (by decide) (fun _ => rfl) rfl (fun _ => rfl) p
  | resume p => exact received_of_layout Layout.nothing_exact (by decide) (fun _ => rfl) rfl (fun _ => rfl) p
  | settingsPut p => exact received_of_layout settingsPutLayout_exact (by decide) (fun _ => rfl) rfl (fun _ => rfl) p
  | settingsGet p => exact received_of_layout Layout.nothing_exact (by decide) (fun _ => rfl) rfl (fun _ => rfl) p
  | status p => exact received_of_layout Layout.nothing_exact (by decide) (fun _ => rfl) rfl (fun _ => rfl) p
  | ident p => exact received_of_layout Layout.nothing_exact (by decide) (fun _ => rfl) rfl (fun _ => rfl) p
  | reset p => exact received_of_layout Layout.nothing_exact (by decide) (fun _ => rfl) rfl (fun _ => rfl) p
  | doorCommandLockdown p => exact received_of_doorCommand 0 (fun _ => rfl) rfl (fun _ => rfl) p
  | doorCommandHoldFree p => exact received_of_doorCommand 1 (fun _ => rfl) rfl (fun _ => rfl) p
  | doorCommandNormal p => exact received_of_doorCommand 2 (fun _ => rfl) rfl (fun _ => rfl) p
  | releaseOnce p => exact received_of_doorCommand 3 (fun _ => rfl) rfl (fun _ => rfl) p

/-- Settles O9: the frame opens to the kind and the payload of the command, and the layout of its kind reads its fields. -/
theorem commandFramesAreReceivedAsSent : Obligations.CommandFramesAreReceivedAsSent := by
  unfold Obligations.CommandFramesAreReceivedAsSent
  intro c bytes isFrame
  unfold commandFrame at isFrame
  split at isFrame
  · next kind payload parts =>
    split at isFrame
    · next short =>
      obtain ⟨small, command⟩ := received c kind payload parts
      cases isFrame
      have opened := openFrame_frame small short
      simp only [officeFrameOf, opened, command]
    · exact nomatch isFrame
  · exact nomatch isFrame

end Sys2Proof.Machine
end
